-- ==== Sys2Proof/Word.lean ====
section
/-!
DEFINITION. The words of the PGW-1610: a register is 32 bits wide, memory is made of bytes.
-/

namespace Sys2Proof

/-- A register value, one DW (R33). -/
abbrev Word := BitVec 32

/-- One byte of device or host memory. -/
abbrev Byte := BitVec 8

end Sys2Proof
end

