-- ==== Sys2Proof/Syntax.lean ====
section
/-!
DEFINITION. The commands of the PGW-1610: one constructor per row of the table, with the row's operands. A command is
what reaches the block from outside (a PCIe request, a register write that has a row of its own, a received packet, a
pin) or one of its own marks in time (a latch point, an end of an operation); what an outside agent supplies with it
(data read from host memory, a measured value, what a self-test found) is an operand. `dt` is the number of
always-on cycles (in Keep, of TIMECLK edges) that pass before the command takes effect.
An operand that has a default stands for its plain case when it is left out: checks that found nothing, nothing received, a
CHECK that is right, every lane.
-/

namespace Sys2Proof

/-- A memory request TLP to a BAR: byte offset, length in DWs, First and Last DW Byte Enables; a read of one DW with
no byte enabled is a zero-length read (R33, R35, R42). -/
structure Req where
  offset : Nat
  lenDw : Nat
  fbe : Nat
  lbe : Nat
  deriving DecidableEq, Repr

/-- A PCIe configuration write that the spec gives an effect (R101, R346, R41, R454). -/
inductive ConfigWrite where
  /-- MSI-X Message Control: Enable and Function Mask. -/
  | msix (enable funcMask : Bool)
  /-- L1 PM Substates Control 1: L1.2 enables. -/
  | l12 (enable : Bool)
  /-- Link Control: ASPM L1 enabled (R346). -/
  | aspm (l1 : Bool)
  /-- AER Uncorrectable Error Severity. -/
  | aerSeverity (v : Nat)
  /-- AER Uncorrectable Error Mask. -/
  | aerMask (v : Nat)
  /-- AER Correctable Error Mask. -/
  | aerCorMask (v : Nat)
  /-- RW1C write of AER Uncorrectable Error Status. -/
  | aerClear (bits : Nat)
  /-- RW1C write of AER Correctable Error Status. -/
  | aerCorClear (bits : Nat)
  /-- Power Management: true D3hot, false D0. -/
  | power (d3hot : Bool)
  deriving DecidableEq, Repr

/-- What is loaded into the JTAG instruction register (R445). -/
inductive JtagInstr where
  | bypass | idcode | samplePreload | extest | clamp | highz
  deriving DecidableEq, Repr

/-- A region of span SRAM (R396). -/
inductive SramRegion where
  /-- The scan portion of the line buffer of a pipe slot. -/
  | lineScan (slot : Fin 5)
  /-- The reserved lane of the line buffer of a pipe slot. -/
  | lineLane (slot : Fin 5)
  | geometry
  /-- Checkpoint or journal of engine j of the span. -/
  | engine (j : Fin 9)
  /-- The Fennel record of a residency cell: tile index, cell. -/
  | fennel (tile : Fin 4096) (cell : Fin 64)
  | other
  deriving DecidableEq, Repr

/-- What the checks of a memory found during an access (R381, R394, R396, R397). -/
inductive Check where
  /-- Nothing. -/
  | ok
  /-- A residue-check mismatch in the pipe's datapath, or an uncorrectable error in its local memory. -/
  | residue
  /-- A corrected error in a row of span SRAM. -/
  | sramCe (array : Fin 16) (row : Fin 65536)
  /-- An uncorrectable word in a row of span SRAM. -/
  | sramUe (array : Fin 16) (row : Fin 65536) (region : SramRegion)
  /-- A corrected error in a DRAM row, named by the row word of R402. -/
  | dramCe (channel : Fin 16) (row : Nat)
  /-- An uncorrectable read of a DRAM row. -/
  | dramUe (channel : Fin 16) (row : Nat)
  /-- A corrected error in an engine's local memory (R386, R399). -/
  | engineCe (engine : Fin 72)
  /-- An uncorrectable error in an engine's local memory, of which the engine fails (R386). -/
  | engineUe (engine : Fin 72)
  deriving DecidableEq, Repr

/-- A failure that a self-test found (R399, R413). -/
inductive TestFail where
  | engine (e : Fin 72)
  | pipe (i : Fin 40)
  | sramRow (span : Fin 8) (array : Fin 16) (row : Fin 65536)
  deriving DecidableEq, Repr

/-- What the end of a start-up phase brings (R410): what that phase read, measured or found. -/
inductive PhaseEnd where
  /-- FUSES: the fuse words read, index and the 32 bits that FUSE_WORD shows (R415). -/
  | fuses (reads : List (Nat × Nat))
  /-- TRIMS: every step made (R417). -/
  | trims
  /-- VOLTAGE: RUN_MV confirmed and the island clocks locked (R412). -/
  | voltage
  /-- STORE: the scan ended, and the capacitor was measured: VHOLD and its fall, in mV (R364, R375). -/
  | store (vhold fall : Nat)
  /-- SPARES: the spare map was applied (R402, R410). -/
  | spares
  /-- MEMORY: FITTED code, channels that trained, and post-package repairs made per channel (R419). -/
  | memory (fitted channelsOk : Nat)
  /-- ENGINES: what the start-up self-test found (R421). -/
  | engines (fails : List TestFail)
  deriving DecidableEq, Repr

/-- The commands: one constructor per row of the table. -/
inductive Instr where
  -- register and memory access
  | registerWrite (req : Req) (data : Nat)
  | accErrLogClear
  | bar2Access (write : Bool) (req : Req) (data : List Nat)
  | poisonedTlp (bar2 : Bool) (req : Req)
  | globalUnlock (key : Nat)
  | msixTableWrite (req : Req) (data : List Nat)
  | bar2Resize (log : Fin 9)
  -- rings
  | doorbell (ring : Fin 8192) (value : Nat)
  | ringEnable (ring : Fin 8192) (value : Nat)
  | ringDisable (ring : Fin 8192) (value : Nat)
  | schedulingPoint (engine : Fin 72) (check : Check := .ok)
  | descriptorFetch (engine : Fin 72) (words : Option (List Nat))
  | nop (engine : Fin 72)
  | fence (engine : Fin 72)
  | layerWrite (engine : Fin 72)
  | layerWriteDone (ring : Fin 8192) (slot : Fin 65536) (data : List Nat) (error : Bool)
  | layerBind (engine : Fin 72)
  | surfaceRetire (engine : Fin 72)
  | flush (engine : Fin 72)
  | bistUpdate (engine : Fin 72) (check : Check := .ok) (bad : List (Nat × Nat) := [])
  | tileCmd (engine : Fin 72) (payload : Option (List Nat))
  | tileCmdTimeout (port : Fin 32) (hop : Fin 129) (tag : Fin 256)
  | stressCheckpoint (engine : Fin 72)
  | stressCheckpointEnd (ring : Fin 8192) (slot : Fin 65536) (error : Bool) (check : Check := .ok)
  | stressRestore (engine : Fin 72) (file : Option (List Nat))
  | stressRestoreEnd (ring : Fin 8192) (slot : Fin 65536)
  | powerReq (engine : Fin 72)
  | nvsRead (engine : Fin 72)
  | nvsWrite (engine : Fin 72) (data : Option (List Nat))
  | nvsSave (engine : Fin 72)
  | alertShow (engine : Fin 72)
  | alertClear (engine : Fin 72)
  -- scan-out and genlock
  | frameStart (dt : Nat)
  | latchPoint (dt : Nat)
  | genlockEdge (dt : Nat) (rising : Bool)
  | genlockWindowExpiry (dt : Nat)
  | scanStart (freerun : Bool)
  | scanStop (freerun : Bool)
  | scanCommit
  | layerCommit
  | resCommit
  | commitComplete
  | lineBufferFetch (pipe : Fin 40) (kib : Nat) (lane : Bool) (check : Check)
  | pixelProcess (pipe : Fin 40) (check : Check)
  | emitReload
  | geomCheck
  | geomCheckEnd
  -- ageing
  | ageClear
  | ageClearEnd
  | seedPassEnd
  | knotPass (port : Fin 32)
  | knotStep (port : Fin 32)
  | checkpointDue
  | holdAccrualPass
  -- bistable layer
  | bistInit
  | bistInitEnd
  | bistCheck
  | bistCheckEnd
  | bistRecover
  | bistDiscard
  | driveChannelTake (port : Fin 32)
  | passStart (port : Fin 32) (channel : Fin 2) (check : Check := .ok) (bad : List (Nat × Nat) := [])
  | phaseDone (port : Fin 32)
  | passRecovery (port : Fin 32) (hop : Fin 129)
  | internalRequestStart (check : Check := .ok) (bad : List (Nat × Nat) := [])
  -- residency
  | resEnable (value : Nat)
  | resDisable (value : Nat)
  -- codec governor and link
  | governorLaneWake (port : Fin 32)
  | blockDropDeadline (port : Fin 32)
  | portEnable (port : Fin 32) (value : Nat)
  | portDisable (port : Fin 32) (value : Nat)
  | portRetrain (port : Fin 32) (value : Nat)
  | laneAlign (port : Fin 32) (lane : Fin 4) (groups : List Nat := [])
  | laneLoss (port : Fin 32) (lane : Fin 4) (cause : Fin 4)
  | portTimeout (port : Fin 32)
  | almReceive (port : Fin 32) (hop mask : Nat) (check : Nat := Nat.xor (Nat.xor hop mask) 0xFF)
  | splitTimeout (port : Fin 32)
  | peiReceive (port : Fin 32)
  | portIdleTimeout (port : Fin 32)
  | prbsGen (port : Fin 32) (lane : Fin 4) (value : Nat)
  | prbsCheck (port : Fin 32) (lane : Fin 4) (value : Nat)
  | laneInject (port : Fin 32) (lane : Fin 4) (interval : Nat)
  | laneInjection (port : Fin 32) (lane : Fin 4)
  | portCntClear (port : Fin 32)
  | linkFrameFill (port : Fin 32) (lanes : Fin 16 := 15)
  | linkFrameReceive (port : Fin 32) (lane : Fin 4) (groups : List Nat)
  | rspReceive (port : Fin 32)
  | telReceive (port : Fin 32)
  | tileSilent (port : Fin 32) (hop : Fin 129)
  | enumStart (port : Fin 32)
  | configTimeout (port : Fin 32)
  | clvResend (port : Fin 32)
  | dscResend (port : Fin 32)
  -- alerts
  | alertPoint (pipe : Fin 40)
  | alertSweepEnd (pipe : Fin 40)
  -- power
  | powerReqWrite (value : Nat)
  | selfrefIdleReached
  | holdRetention
  | powerLtrWrite (value : Nat)
  | keepEntry
  | powerFail (vhold : Nat)
  | avsAck (mv : Nat)
  | avsTimeout
  | wakeEnd
  | servicePeriodStart
  | servicePeriodEnd
  | telemetryPoll
  | telemetryPollEnd
  | timeclkAbsent
  | keepGenlockLoss
  | timeAlarm (dt : Nat)
  -- non-volatile store
  | nvsCmdRead (value : Nat)
  | nvsCmdWrite (value : Nat)
  | nvsCmdSave (value : Nat)
  | setPassword (value : Nat)
  | nvsReadEnd
  | nvsPageWriteEnd (firstFails secondFails : Bool)
  | nvsSaveEnd
  | capMeasure
  | capMeasureEnd (vhold fall : Nat)
  | logAppendRetry
  -- faults and spares
  | engineTakeoverEnd (engine : Fin 72)
  | pipeTakeoverEnd (span : Fin 8)
  | channelLost (channel : Fin 16)
  | engineWatchdog (engine : Fin 72)
  | faultForce (unit : Fin 182) (bits : Nat)
  | faultEnableWrite (unit : Fin 182) (value : Nat)
  | cloveResume
  | holdSelfTestEnd (fails : List TestFail)
  | class4Promotion (channel : Fin 16)
  -- reset and start-up
  | powerOnReset
  | powerOnResetRelease
  | startupPhase (e : PhaseEnd)
  | trimStep
  | linkTrainingStart (speed width : Nat) (reversed : Bool)
  | pcieReset
  | functionLevelReset
  | fuseReload
  | fuseReloadEnd (reads : List (Nat × Nat))
  | memoryInitialise
  | memoryInitialiseEnd
  | sysclkLoss
  | jtagInstruction (i : JtagInstr)
  -- further rows
  | bar0Read (req : Req)
  | configurationWrite (w : ConfigWrite)
  | pcieLinkDown
  | laneAlignmentLoss (port : Fin 32) (lane : Fin 4) (groups : List Nat := [])
  | checkerSync (port : Fin 32) (lane : Fin 4) (bits : List Bool := [])
  | checkerSyncLoss (port : Fin 32) (lane : Fin 4) (bits : List Bool)
  | receivedElectricalIdle (port : Fin 32) (lane : Fin 4)
  | voltageRaiseRetry
  | resumeSynRepeat (port : Fin 32)
  | memoryScrub (channel : Fin 16) (row : Nat) (check : Check)
  | ckTransmitterFail (port : Fin 32)
  deriving DecidableEq, Repr

end Sys2Proof
end

