-- ==== Sys2Proof/Decode.lean ====
section
/-!
DEFINITION. The table of commands gives no row any bits: commands are not spelled by words, so no word spells one.
-/

namespace Sys2Proof

/-- The command that a word spells by the table's bits: none, for no row has bits. -/
def decodeTableWord (_nbits _w : Nat) : Option Instr := none

end Sys2Proof
end

