-- ==== Sys2Proof/Machine/Bits.lean ====
section
/-!
DEFINITION. Bit fields, sign extension, little-endian byte order (R3) and fixed-point rounding (R5),
written once for every block.
-/

namespace Sys2Proof.Machine

/-- Bits [hi:lo] of a number (R3). -/
def fld (n hi lo : Nat) : Nat := (n / 2 ^ lo) % 2 ^ (hi - lo + 1)

/-- Bit i of a number, as a truth value. -/
def bit (n i : Nat) : Bool := (n / 2 ^ i) % 2 == 1

/-- Bit i of a number, as 0 or 1. -/
def bitN (n i : Nat) : Nat := (n / 2 ^ i) % 2

/-- A number placed at bit lo. -/
def at_ (v lo : Nat) : Nat := v * 2 ^ lo

/-- `n` with bit i set to b. -/
def withBit (n i : Nat) (b : Bool) : Nat :=
  if bit n i then (if b then n else n - 2 ^ i) else (if b then n + 2 ^ i else n)

/-- `n` with bits [hi:lo] replaced by v. -/
def withFld (n hi lo v : Nat) : Nat :=
  n - at_ (fld n hi lo) lo + at_ (v % 2 ^ (hi - lo + 1)) lo

/-- The two's complement reading of the low w bits of n. -/
def signed (n w : Nat) : Int :=
  let m := n % 2 ^ w
  if m < 2 ^ (w - 1) then (m : Int) else (m : Int) - (2 ^ w : Nat)

/-- The low w bits of an integer, as a number (two's complement). -/
def unsigned (i : Int) (w : Nat) : Nat := (i % (2 ^ w : Nat)).toNat

/-- Unsigned saturation to w bits. -/
def satU (n w : Nat) : Nat := min n (2 ^ w - 1)

/-- Signed saturation to w bits (R5: saturates at the nearest representable value). -/
def satS (i : Int) (w : Nat) : Int :=
  max (-(2 ^ (w - 1) : Nat) : Int) (min i ((2 ^ (w - 1) : Nat) - 1))

/-- Clamp an integer to [lo, hi]. -/
def clampI (i lo hi : Int) : Int := max lo (min i hi)

/-- n / d rounded to nearest, ties away from zero (R5), for numbers. -/
def divRound (n d : Nat) : Nat := (2 * n + d) / (2 * d)

/-- i / d rounded to nearest, ties away from zero (R5), for integers. -/
def divRoundI (i : Int) (d : Nat) : Int :=
  if i < 0 then -(divRound i.natAbs d : Int) else (divRound i.natAbs d : Int)

/-- ⌈n / d⌉. -/
def divUp (n d : Nat) : Nat := (n + d - 1) / d

/-- The n bytes of v, lowest first (R3: little-endian). -/
def leBytes : Nat → Nat → List Nat
  | 0, _ => []
  | n + 1, v => v % 256 :: leBytes n (v / 256)

/-- The number a little-endian byte list spells (R3). -/
def leVal : List Nat → Nat
  | [] => 0
  | b :: bs => b % 256 + 256 * leVal bs

/-- The little-endian 32-bit words of a byte list, the last one padded with zero bytes. -/
def wordsOf : List Nat → List Nat
  | a :: b :: c :: d :: r => leVal [a, b, c, d] :: wordsOf r
  | [] => []
  | r => [leVal r]

/-- The bytes of a list of 32-bit words. -/
def bytesOfWords (ws : List Nat) : List Nat := ws.flatMap (leBytes 4)

/-- Word i of a list, 0 where there is none. -/
def wd (ws : List Nat) (i : Nat) : Nat := ws.getD i 0

/-- The 64-bit value of words i and i+1. -/
def wd64 (ws : List Nat) (i : Nat) : Nat := wd ws i + 2 ^ 32 * wd ws (i + 1)

/-- The number of 1 bits among the low w bits of n. -/
def ones (n : Nat) : Nat → Nat
  | 0 => 0
  | w + 1 => ones n w + bitN n w

/-- A register value from a number. -/
def word (n : Nat) : Word := BitVec.ofNat 32 n

/-- A truth value as 0 or 1. -/
def b2n (b : Bool) : Nat := if b then 1 else 0

/-- The 16-bit saturating increment of the counts of R42, R99 and R382. -/
def inc16 (n : Nat) : Nat := min (n + 1) 0xFFFF

/-- The 32-bit saturating sum. -/
def add32 (n k : Nat) : Nat := min (n + k) 0xFFFFFFFF

/-- Do two ranges [a, a+la) and [b, b+lb) share a byte? -/
def rangesMeet (a la b lb : Nat) : Bool := decide (0 < la ∧ 0 < lb ∧ a < b + lb ∧ b < a + la)

end Sys2Proof.Machine
end

