-- ==== Sys2Proof/Machine/Curves.lean ====
section
/-!
DEFINITION. The ROM tables and the integer stages of the emissive pixel path that read no state: the curve tables
of R129, the lookups of R130 to R132, the conversions of R133 and R134, the scaler coefficients of R118, the knot
interpolation of R138 and the dither pattern of R142.
-/

namespace Sys2Proof.Machine

/-- The largest v below 2^bits with p v, for a p that holds up to some bound and not beyond; 0 where p 1 fails. -/
def bisect (p : Nat → Bool) : Nat → Nat → Nat
  | 0, v => v
  | b + 1, v => if p (v + 2 ^ b) then bisect p b (v + 2 ^ b) else bisect p b v

/-- Entry k of F_SDR: round(2^24 × (64k / 65,535)^2.4), ties away from zero, decided exactly:
v ≤ y + 1/2 iff (2v − 1)^5 × 65,535^12 ≤ 2^125 × (64k)^12 (R129). -/
def fSdr (k : Nat) : Nat :=
  if 1024 ≤ k then 2 ^ 24 - 1
  else min (2 ^ 24 - 1) (bisect (fun v => (2 * v - 1) ^ 5 * 65535 ^ 12 ≤ 2 ^ 125 * (64 * k) ^ 12) 25 0)

/-- Knot k of a segmented table lies at x_k (R131). -/
def knotX (k : Nat) : Nat :=
  if k < 64 then 8 * k
  else 2 ^ (k / 64 + 8) + (k % 64) * 2 ^ (k / 64 + 8 - 6)

/-- Entry k of I_SDR: round(65,535 × (x_k / 2^24)^(1/2.4)), decided exactly (R129). -/
def iSdr (k : Nat) : Nat :=
  bisect (fun v => (2 * v - 1) ^ 12 * 2 ^ 120 ≤ 2 ^ 12 * 65535 ^ 12 * knotX k ^ 5) 17 0

/-- Integer square root, by Newton's method with fuel. -/
def isqrtFrom (n : Nat) : Nat → Nat → Nat
  | 0, x => x
  | f + 1, x => let y := (x + n / x) / 2; if x ≤ y then x else isqrtFrom n f y

/-- Integer square root. -/
def isqrt (n : Nat) : Nat := if n = 0 then 0 else isqrtFrom n 600 (2 ^ (n.log2 / 2 + 1))

/-- Fraction bits of the fixed-point arithmetic that evaluates the ST 2084 curves. -/
def PQ_BITS : Nat := 512

/-- Fixed-point product. -/
def fxMul (a b : Nat) : Nat := a * b / 2 ^ PQ_BITS

/-- Fixed-point power with a number exponent of at most `bits` bits. -/
def fxPow (a : Nat) (e : Nat) : Nat → Nat
  | 0 => 2 ^ PQ_BITS
  | b + 1 =>
    let h := fxPow a (e / 2) b
    let h2 := fxMul h h
    if e % 2 = 1 then fxMul h2 a else h2

/-- The 2^n-th root of a fixed-point number. -/
def fxRoot (a : Nat) : Nat → Nat
  | 0 => a
  | n + 1 => fxRoot (isqrt (a * 2 ^ PQ_BITS)) n

/-- The ST 2084 inverse EOTF of the fraction num / den, as a fixed-point number (R129): y^m1 with
m1 = 1,305/8,192 taken as the 1,305th power of the 8,192nd root, and the m2-th power, m2 = 2,523/32, as the
2,523rd power of the 32nd root. -/
def pqInverse (num den : Nat) : Nat :=
  let ym := fxPow (fxRoot (num * 2 ^ PQ_BITS / den) 13) 1305 11
  let one := 2 ^ PQ_BITS
  let top := (3424 * one + 32 * 2413 * ym) / 4096
  let bot := (4096 * one + 32 * 2392 * ym) / 4096
  fxPow (fxRoot (top * one / bot) 5) 2523 12

/-- Entry k of F_PQ: the EOTF is inverted, so the entry is the largest v whose lower rounding bound
(2v − 1) / 2^25 has an inverse EOTF not above 64k / 65,535 (R129). -/
def fPq (k : Nat) : Nat :=
  if 1024 ≤ k then 2 ^ 24 - 1
  else min (2 ^ 24 - 1)
    (bisect (fun v => pqInverse (2 * v - 1) (2 ^ 25) * 65535 ≤ 64 * k * 2 ^ PQ_BITS) 25 0)

/-- Entry k of I_PQ (R129). -/
def iPq (k : Nat) : Nat := (2 * 65535 * pqInverse (knotX k) (2 ^ 24) + 2 ^ PQ_BITS) / 2 ^ (PQ_BITS + 1)

/-- The forward lookup of R130 in table t of a U0.16 value. -/
def forwardLookup (t : Nat → Nat) (v : Nat) : Nat :=
  if v = 65535 then t 1024
  else
    let i := v / 64
    let f := v % 64
    ((t i : Int) + (((t (i + 1) : Int) - t i) * f + 32) / 64).toNat

/-- The segmented lookup of R131 of a U0.24 value. -/
def seg (t : Nat → Nat) (l : Nat) : Nat :=
  let m := l.log2
  let sh := if l < 512 then 3 else m - 6
  let k := if l < 512 then l / 8 else 64 * (m - 8) + (l - 2 ^ m) / 2 ^ sh
  let f := if l < 512 then l % 8 else (l - 2 ^ m) % 2 ^ sh
  (clampI ((t k : Int) + (((t (k + 1) : Int) - t k) * f + 2 ^ (sh - 1)) / 2 ^ sh) 0 65535).toNat

/-- S of R132. -/
def pqScale (peak : Nat) : Nat := divRound (4096 * 10000) peak
/-- S′ of R132. -/
def pqScaleInv (peak : Nat) : Nat := divRound (65536 * peak) 10000

/-- lin_fwd of R132 for encoding e. -/
def linFwd (peak e v : Nat) : Nat :=
  if e = 2 then min (2 ^ 24 - 1) ((forwardLookup fPq v * pqScale peak + 2048) / 4096)
  else forwardLookup fSdr v

/-- lin_inv of R132 for encoding e. -/
def linInv (peak e l : Nat) : Nat :=
  if e = 2 then seg iPq (min (2 ^ 24 - 1) ((l * pqScaleInv peak + 32768) / 65536))
  else seg iSdr l

/-- mat3 of R134: nine S2.14 coefficients in row order, U0.24 in and out. -/
def mat3 (m : List Int) (l : List Nat) : List Nat :=
  (List.range 3).map fun c =>
    (clampI ((m.getD (3 * c) 0 * (wd l 0 : Int) + m.getD (3 * c + 1) 0 * (wd l 1 : Int) +
      m.getD (3 * c + 2) 0 * (wd l 2 : Int) + 8192) / 16384) 0 (2 ^ 24 - 1)).toNat

/-- The primaries of an encoding: 0 BT.709, 1 BT.2020 (R134). -/
def prim (e : Nat) : Nat := if e = 0 then 0 else 1

/-- The primary matrices P of R134. -/
def primMatrix (a : Nat) : List Int :=
  if a = 0 then [10280, 5395, 709, 1132, 15065, 187, 269, 1442, 14673]
  else [27204, -9627, -1193, -2041, 18561, -136, -298, -1648, 18330]

/-- A composition sample: R′, G′, B′, A, each U0.16 (R116). -/
structure Sample where
  r : Nat := 0
  g : Nat := 0
  b : Nat := 0
  a : Nat := 0
  deriving DecidableEq, Repr

/-- Re-encoding of R134 from encoding e to ec. -/
def reencode (peak e ec : Nat) (p : Sample) : Sample :=
  if e = ec then p
  else
    let l := [linFwd peak e p.r, linFwd peak e p.g, linFwd peak e p.b]
    let l := if prim e = prim ec then l else mat3 (primMatrix (prim e)) l
    { r := linInv peak ec (wd l 0), g := linInv peak ec (wd l 1), b := linInv peak ec (wd l 2), a := p.a }

/-- The YCbCr conversion of R133 from 10-bit codes; alpha is already widened. -/
def ycbcr (enc y cb cr a : Nat) : Sample :=
  let yy : Int := 4902856 * ((y : Int) - 64)
  let b : Int := (cb : Int) - 512
  let r : Int := (cr : Int) - 512
  let f := fun (i : Int) => (clampI ((i + 32768) / 65536) 0 65535).toNat
  if enc = 0 then
    { r := f (yy + 7548673 * r), g := f (yy - 897923 * b - 2243915 * r), b := f (yy + 8894665 * b), a := a }
  else
    { r := f (yy + 7068373 * r), g := f (yy - 788772 * b - 2738734 * r), b := f (yy + 9018335 * b), a := a }

/-- Widening of R116: 8-bit codes. -/
def widen8 (v : Nat) : Nat := v * 257
/-- Widening of R116: 10-bit codes. -/
def widen10 (v : Nat) : Nat := v * 64 + v / 16
/-- Widening of R116: 2-bit codes. -/
def widen2 (v : Nat) : Nat := v * 21845

/-- The 4-tap coefficients of phase p (R118), exact: 256 × w(d) with d in 64ths, over 2 × 64^3, rounded under R5. -/
def taps (p : Nat) : List Int :=
  let t : Int := p
  let near := fun (d : Int) => 3 * d ^ 3 - 5 * d ^ 2 * 64 + 2 * 64 ^ 3
  let far := fun (d : Int) => -d ^ 3 + 5 * d ^ 2 * 64 - 8 * d * 64 ^ 2 + 4 * 64 ^ 3
  let rd := fun (n : Int) => divRoundI (256 * n) (2 * 64 ^ 3)
  let c0 := rd (far (64 + t))
  let c1 := rd (near t)
  let c2 := rd (if p = 0 then far 64 else near (64 - t))
  let c3 := rd (far (128 - t))
  let diff := 256 - (c0 + c1 + c2 + c3)
  if p < 32 then [c0, c1 + diff, c2, c3] else [c0, c1, c2 + diff, c3]

/-- One 4-tap pass on one component (R118). -/
def tapSum (c : List Int) (v : List Nat) : Nat :=
  (clampI ((c.getD 0 0 * (wd v 0 : Int) + c.getD 1 0 * (wd v 1 : Int) + c.getD 2 0 * (wd v 2 : Int) +
    c.getD 3 0 * (wd v 3 : Int) + 128) / 256) 0 65535).toNat

/-- One 4-tap pass on four samples, all components, alpha included (R118). -/
def tapSamples (c : List Int) (v : List Sample) : Sample :=
  { r := tapSum c (v.map (·.r)), g := tapSum c (v.map (·.g)), b := tapSum c (v.map (·.b)), a := tapSum c (v.map (·.a)) }

/-- One composition step of R120: sample p with layer alpha g over d. -/
def composeOver (g : Nat) (p : Sample) (d : List Nat) : List Nat :=
  let ap := (p.a * (g * 257) + 32768) / 65536
  let ae := ap + ap / 32768
  let f := fun s d => (s * ae + d * (65536 - ae) + 32768) / 65536
  [f p.r (wd d 0), f p.g (wd d 1), f p.b (wd d 2)]

/-- The bilinear interpolation of R138 of one subpixel's knots K(i, j) at tile-local (u, v). -/
def knotInterp (k : Nat → Nat → Nat) (u v : Nat) : Nat :=
  let i := u / 16
  let j := v / 16
  let fu := u % 16
  let fv := v % 16
  let top := k i j * (16 - fu) + k (i + 1) j * fu
  let bot := k i (j + 1) * (16 - fu) + k (i + 1) (j + 1) * fu
  (top * (16 - fv) + bot * fv + 128) / 256

/-- The gain g of R139 from the base b and the two's complement delta byte. -/
def gainOf (b delta : Nat) : Nat :=
  min 65535 (((b : Int) * (1024 + signed delta 8) + 512) / 1024).toNat

/-- l × g in U1.15, rounded and saturated (R139, R140). -/
def scaleU15 (l g : Nat) : Nat := min (2 ^ 24 - 1) ((l * g + 16384) / 32768)

/-! ### Dither (R142 to R144) -/

/-- The energy w(p, q) of R142 between positions 64y + x. -/
def ditherW (p q : Nat) : Nat :=
  let d := fun a b => min (max a b - min a b) (64 - (max a b - min a b))
  let dx := d (p % 64) (q % 64)
  let dy := d (p / 64) (q / 64)
  2 ^ 32 / (1 + dx * dx + dy * dy) ^ 2

/-- The unplaced position with the least energy, ties to the least number (R142). -/
def ditherPick (e : Array Nat) (placed : Array Nat) : Nat :=
  (List.range 4096).foldl (fun best q =>
    if placed[q]?.getD 0 ≠ 0 then best
    else if best = 4096 || e[q]?.getD 0 < e[best]?.getD 0 then q else best) 4096

/-- The construction of R142 from rank r on, r counted down by fuel; `placed` holds rank + 1, 0 for unplaced. -/
def ditherBuild : Nat → Array Nat → Array Nat → Array Nat
  | 0, _, placed => placed
  | f + 1, e, placed =>
    let p := ditherPick e placed
    ditherBuild f ((List.range 4096).foldl (fun a q => a.set! q (a[q]?.getD 0 + ditherW p q)) e)
      (placed.set! p (4096 - f))

/-- The dither pattern: rank + 1 of position 64y + x (R142). -/
def ditherTable : Array Nat := ditherBuild 4096 (Array.replicate 4096 0) (Array.replicate 4096 0)

/-- P[y][x] of R142. -/
def ditherP (y x : Nat) : Nat := ditherTable[64 * y + x]?.getD 1 - 1

/-- The threshold r of R143. -/
def ditherR (seed frame : Nat) (temporal : Bool) (u v c : Nat) : Nat :=
  let t := if temporal then frame % 8 else 0
  (ditherP ((v + seed / 64 % 64) % 64) ((u + seed % 64) % 64) + 1365 * c + 2531 * t + 256 * (seed / 4096)) % 4096

/-- The native code of R144 for depth D from the drive code s and threshold r. -/
def nativeCode (depth s r : Nat) (dither : Bool) : Nat :=
  let k := 16 - depth
  let d := if dither then r / 2 ^ (12 - k) else 2 ^ (k - 1)
  min (2 ^ depth - 1) ((s + d) / 2 ^ k)

end Sys2Proof.Machine
end

