-- ==== Sys2Proof/Machine/Reg.lean ====
section
/-!
DEFINITION. The registers of BAR0 (R450, R451, R459): one name each, its offset, the register at an offset,
and for each register which bits take a write (R6), which bits are RW1C, what the writable bits hold after
power-on reset (R8), and which registers are guarded (R46), exempt from GLOBAL_BUSY (R57), or shadowed (R49).
The tables follow the register tables of the spec's chapters field by field.
-/

namespace Sys2Proof.Machine

/-- The commit groups of shadowed fields (R49): scan-out (R124), layers (R119), residency (R216). -/
inductive Group where
  | scan | layer | res
  deriving DecidableEq, Repr

/-- Every register of BAR0, arrayed ones with their instance numbers. -/
inductive Reg where
  | globalId
  | globalMagic
  | globalVersion
  | globalCaps
  | globalScratch
  | globalUnlock
  | globalBusy
  | globalStart
  | hostifLink
  | hostifBar2Window
  | hostifAccErrAddrLo
  | hostifAccErrAddrHi
  | hostifAccErrInfo
  | hostifAccErrCount
  | hostifEventRoute (c : Nat)
  | timeCountLo
  | timeCountHi
  | timeFlags
  | timeAlarmLo
  | timeAlarmHi
  | timeAlarmCtl
  | powerReq
  | powerStatus
  | powerSelfref
  | powerIdleCount
  | powerWakeEn
  | powerWakeSrc
  | powerTiming
  | powerLtr
  | powerVolt
  | powerAvsCfg
  | powerAvsStatus
  | nvsCmd
  | nvsRange
  | nvsPassLo
  | nvsPassHi
  | nvsNewpassLo
  | nvsNewpassHi
  | nvsKeyCtl
  | nvsStatus
  | nvsLocks
  | nvsHold
  | nvsEnergy
  | nvsFlags
  | nvsLife
  | nvsCycles
  | nvsSaveSeq
  | nvsLogHead
  | nvsLastTimeLo
  | nvsLastTimeHi
  | nvsTileSel
  | nvsTileSeconds
  | nvsBuf (i : Nat)
  | fuseStatus
  | fuseCtl
  | fuseWordSel
  | fuseWord
  | fuseIdLo
  | fuseIdHi
  | fuseRev
  | faultgSafe
  | faultgFirst
  | faultgFirstTimeLo
  | faultgFirstTimeHi
  | faultgInject
  | faultgLimits
  | faultgTest
  | faultgSpares
  | faultgPending (w : Nat)
  | faultgVector (i : Nat)
  | scanCtl
  | scanStatus
  | scanGenlockPeriod
  | scanGenlockOffset
  | scanGenlockMeas
  | scanLineTiming
  | scanCommit
  | scanBackground
  | scanCompCfg
  | scanFrameLo
  | scanFrameHi
  | scanLatchFrame
  | scanPosition
  | scanWallSize
  | scanFamilyBaseLo
  | scanFamilyBaseHi
  | scanTileTableBaseLo
  | scanTileTableBaseHi
  | scanGeomRate
  | scanGeomCtl
  | scanGeomStatus
  | scanChain (p : Nat)
  | scanAlertStatus
  | scanAlertPos
  | scanAlertSize
  | scanAlertAddrLo
  | scanAlertAddrHi
  | scanAlertFmt
  | scanAlertPitch
  | scanAlertLatency
  | scanAlertCounts
  | layerCommit
  | layerCtl (n : Nat)
  | layerOverStatus
  | layerWinPos (n : Nat)
  | layerWinSize (n : Nat)
  | layerCropPos (n : Nat)
  | layerCropSize (n : Nat)
  | layerSurfAddrLo (n : Nat)
  | layerSurfAddrHi (n : Nat)
  | layerSurfSize (n : Nat)
  | layerSurfPitch (n : Nat)
  | layerSurfFmt (n : Nat)
  | emitCtl
  | emitReload
  | emitStatus
  | emitPqCfg
  | emitMatrixBaseLo
  | emitMatrixBaseHi
  | emitKnotBaseLo
  | emitKnotBaseHi
  | emitDeltaBaseLo
  | emitDeltaBaseHi
  | ageCtl
  | ageRef
  | ageStressBaseLo
  | ageStressBaseHi
  | ageTargetBaseLo
  | ageTargetBaseHi
  | agePeriods
  | ageStatus
  | ageEpoch
  | ageCkptSize
  | bistCtl
  | bistStatus
  | bistStateBaseLo
  | bistStateBaseHi
  | bistParityBaseLo
  | bistParityBaseHi
  | bistActive
  | bistCheckResult
  | bistTileSel
  | bistTileInfo
  | bistRecCount
  | bistRecSel
  | bistRecRegion
  | bistRecSize
  | bistRecTargetLo
  | bistRecTargetHi
  | bistRecPitch
  | resCtl
  | resCommit
  | resDefault
  | resTiming
  | resAmbient
  | resRep
  | resReturn
  | resTargetBaseLo
  | resTargetBaseHi
  | resCounts
  | resFlags
  | resCellSel
  | resCellInfo
  | resRegionPos (n : Nat)
  | resRegionSize (n : Nat)
  | resRegionCtl (n : Nat)
  | memcInit
  | memcStatus
  | memcRepairs
  | ringBaseLo (n : Nat)
  | ringBaseHi (n : Nat)
  | ringCfg (n : Nat)
  | ringCtl (n : Nat)
  | ringHwIndex (n : Nat)
  | ringSwIndex (n : Nat)
  | ringStatus (n : Nat)
  | ringDropped (n : Nat)
  | spanRingSched (s : Nat)
  | spanParkStatus (s : Nat)
  | spanBoundsAddrLo (s : Nat)
  | spanBoundsAddrHi (s : Nat)
  | spanBoundsInfo (s : Nat)
  | spanBoundsCount (s : Nat)
  | spanLbCfg (s : Nat)
  | spanLbStatus (s j : Nat)
  | spanPipeMap (s : Nat)
  | spanEngineMap (s : Nat)
  | engineStatus (e : Nat)
  | engineCeCount (e : Nat)
  | portCtl (p : Nat)
  | portStatus (p : Nat)
  | portLanes (p : Nat)
  | portTxCfg (p : Nat)
  | portTiming (p : Nat)
  | portAlarm (p : Nat)
  | portCrcErr (p : Nat)
  | portCntClear (p : Nat)
  | portEnum (p : Nat)
  | portHopSel (p : Nat)
  | portHopStatus (p : Nat)
  | portHopTel (p : Nat)
  | portFrameErr (p : Nat)
  | laneStatus (p l : Nat)
  | lanePrbsCtl (p l : Nat)
  | laneInject (p l : Nat)
  | laneCv (p l : Nat)
  | laneDisp (p l : Nat)
  | lanePrbsErr (p l : Nat)
  | laneSymbolsLo (p l : Nat)
  | laneSymbolsHi (p l : Nat)
  | laneInjected (p l : Nat)
  | laneDfe (p l : Nat)
  | laneEye (p l : Nat)
  | codecCtl (i : Nat)
  | codecGov (i : Nat)
  | codecDeg (i : Nat)
  | codecStatus (i : Nat)
  | codecFlags (i : Nat)
  | codecFrameBits (i : Nat)
  | codecRawBits (i : Nat)
  | codecBlocks (i : Nat)
  | codecCounts (i : Nat)
  | doorbell (n : Nat)
  | faultStatus (u : Nat)
  | faultLive (u : Nat)
  | faultEnable (u : Nat)
  | faultForce (u : Nat)
  | faultFirst (u : Nat)
  | faultFirstTimeLo (u : Nat)
  | faultFirstTimeHi (u : Nat)
  | faultMerge (u : Nat)
  /-- DW i of the MSI-X table, 0 to 8,191 (R34). -/
  | msixTable (i : Nat)
  /-- DW i of the pending-bit array, 0 to 63 (R34). -/
  | msixPba (i : Nat)
  deriving DecidableEq, Repr

/-- The base of the block that holds fault unit u's set (R404): device blocks 0 to 13, spans 14 to 21,
engines 22 to 93, ports 94 to 125, codec contexts 126 to 165, memory channels 166 to 181. The set lies at
0x3E0 of it. -/
def faultBase (u : Nat) : Nat :=
  (if u < 14 then
     [0x000000, 0x010000, 0x020000, 0x030000, 0x040000, 0x050000, 0x060000, 0x080000, 0x0A0000, 0x0C0000,
      0x0D0000, 0x0E0000, 0x0F0000, 0x100000].getD u 0
   else if u < 22 then 0x400000 + 0x20000 * (u - 14)
   else if u < 94 then 0x500000 + 0x1000 * (u - 22)
   else if u < 126 then 0x600000 + 0x4000 * (u - 94)
   else if u < 166 then 0x700000 + 0x400 * (u - 126)
   else 0x100000 + 0x1000 * (u - 166 + 1)) + 0x3E0

/-- The BAR0 offset of a register (R450, R459) (DEDUCED, log 81). -/
def Reg.addr : Reg → Nat
  | .globalId => 0x0
  | .globalMagic => 0x4
  | .globalVersion => 0x8
  | .globalCaps => 0xc
  | .globalScratch => 0x10
  | .globalUnlock => 0x20
  | .globalBusy => 0x24
  | .globalStart => 0x28
  | .hostifLink => 0x10000
  | .hostifBar2Window => 0x10004
  | .hostifAccErrAddrLo => 0x10200
  | .hostifAccErrAddrHi => 0x10204
  | .hostifAccErrInfo => 0x10208
  | .hostifAccErrCount => 0x1020c
  | .hostifEventRoute c => 0x10400 + 4 * c
  | .timeCountLo => 0x20000
  | .timeCountHi => 0x20004
  | .timeFlags => 0x20008
  | .timeAlarmLo => 0x20010
  | .timeAlarmHi => 0x20014
  | .timeAlarmCtl => 0x20018
  | .powerReq => 0x30000
  | .powerStatus => 0x30004
  | .powerSelfref => 0x30008
  | .powerIdleCount => 0x3000c
  | .powerWakeEn => 0x30010
  | .powerWakeSrc => 0x30014
  | .powerTiming => 0x30018
  | .powerLtr => 0x3001c
  | .powerVolt => 0x30020
  | .powerAvsCfg => 0x30024
  | .powerAvsStatus => 0x30028
  | .nvsCmd => 0x40000
  | .nvsRange => 0x40004
  | .nvsPassLo => 0x40008
  | .nvsPassHi => 0x4000c
  | .nvsNewpassLo => 0x40010
  | .nvsNewpassHi => 0x40014
  | .nvsKeyCtl => 0x40018
  | .nvsStatus => 0x40020
  | .nvsLocks => 0x40024
  | .nvsHold => 0x40028
  | .nvsEnergy => 0x4002c
  | .nvsFlags => 0x40030
  | .nvsLife => 0x40040
  | .nvsCycles => 0x40044
  | .nvsSaveSeq => 0x40048
  | .nvsLogHead => 0x4004c
  | .nvsLastTimeLo => 0x40050
  | .nvsLastTimeHi => 0x40054
  | .nvsTileSel => 0x40058
  | .nvsTileSeconds => 0x4005c
  | .nvsBuf i => 0x41000 + 4 * i
  | .fuseStatus => 0x50000
  | .fuseCtl => 0x50004
  | .fuseWordSel => 0x50008
  | .fuseWord => 0x5000c
  | .fuseIdLo => 0x50010
  | .fuseIdHi => 0x50014
  | .fuseRev => 0x50018
  | .faultgSafe => 0x60000
  | .faultgFirst => 0x60004
  | .faultgFirstTimeLo => 0x60008
  | .faultgFirstTimeHi => 0x6000c
  | .faultgInject => 0x60010
  | .faultgLimits => 0x60014
  | .faultgTest => 0x60018
  | .faultgSpares => 0x6001c
  | .faultgPending w => 0x60100 + 4 * w
  | .faultgVector i => 0x61000 + 4 * i
  | .scanCtl => 0x80000
  | .scanStatus => 0x80004
  | .scanGenlockPeriod => 0x80008
  | .scanGenlockOffset => 0x8000c
  | .scanGenlockMeas => 0x80010
  | .scanLineTiming => 0x80014
  | .scanCommit => 0x80020
  | .scanBackground => 0x80024
  | .scanCompCfg => 0x80028
  | .scanFrameLo => 0x80030
  | .scanFrameHi => 0x80034
  | .scanLatchFrame => 0x80038
  | .scanPosition => 0x8003c
  | .scanWallSize => 0x80100
  | .scanFamilyBaseLo => 0x80104
  | .scanFamilyBaseHi => 0x80108
  | .scanTileTableBaseLo => 0x8010c
  | .scanTileTableBaseHi => 0x80110
  | .scanGeomRate => 0x80114
  | .scanGeomCtl => 0x80118
  | .scanGeomStatus => 0x8011c
  | .scanChain p => 0x80200 + 4 * p
  | .scanAlertStatus => 0x80300
  | .scanAlertPos => 0x80304
  | .scanAlertSize => 0x80308
  | .scanAlertAddrLo => 0x8030c
  | .scanAlertAddrHi => 0x80310
  | .scanAlertFmt => 0x80314
  | .scanAlertPitch => 0x80318
  | .scanAlertLatency => 0x8031c
  | .scanAlertCounts => 0x80320
  | .layerCommit => 0xa0000
  | .layerCtl n => 0xa1000 + 0x40 * n
  | .layerOverStatus => 0xa0004
  | .layerWinPos n => 0xa1004 + 0x40 * n
  | .layerWinSize n => 0xa1008 + 0x40 * n
  | .layerCropPos n => 0xa100c + 0x40 * n
  | .layerCropSize n => 0xa1010 + 0x40 * n
  | .layerSurfAddrLo n => 0xa1020 + 0x40 * n
  | .layerSurfAddrHi n => 0xa1024 + 0x40 * n
  | .layerSurfSize n => 0xa1028 + 0x40 * n
  | .layerSurfPitch n => 0xa102c + 0x40 * n
  | .layerSurfFmt n => 0xa1030 + 0x40 * n
  | .emitCtl => 0xc0000
  | .emitReload => 0xc0004
  | .emitStatus => 0xc0008
  | .emitPqCfg => 0xc000c
  | .emitMatrixBaseLo => 0xc0010
  | .emitMatrixBaseHi => 0xc0014
  | .emitKnotBaseLo => 0xc0018
  | .emitKnotBaseHi => 0xc001c
  | .emitDeltaBaseLo => 0xc0020
  | .emitDeltaBaseHi => 0xc0024
  | .ageCtl => 0xd0000
  | .ageRef => 0xd0004
  | .ageStressBaseLo => 0xd0008
  | .ageStressBaseHi => 0xd000c
  | .ageTargetBaseLo => 0xd0010
  | .ageTargetBaseHi => 0xd0014
  | .agePeriods => 0xd0018
  | .ageStatus => 0xd001c
  | .ageEpoch => 0xd0020
  | .ageCkptSize => 0xd0024
  | .bistCtl => 0xe0000
  | .bistStatus => 0xe0004
  | .bistStateBaseLo => 0xe0008
  | .bistStateBaseHi => 0xe000c
  | .bistParityBaseLo => 0xe0010
  | .bistParityBaseHi => 0xe0014
  | .bistActive => 0xe0018
  | .bistCheckResult => 0xe001c
  | .bistTileSel => 0xe0020
  | .bistTileInfo => 0xe0024
  | .bistRecCount => 0xe0030
  | .bistRecSel => 0xe0034
  | .bistRecRegion => 0xe0038
  | .bistRecSize => 0xe003c
  | .bistRecTargetLo => 0xe0040
  | .bistRecTargetHi => 0xe0044
  | .bistRecPitch => 0xe0048
  | .resCtl => 0xf0000
  | .resCommit => 0xf0004
  | .resDefault => 0xf0008
  | .resTiming => 0xf0010
  | .resAmbient => 0xf0014
  | .resRep => 0xf0018
  | .resReturn => 0xf001c
  | .resTargetBaseLo => 0xf0020
  | .resTargetBaseHi => 0xf0024
  | .resCounts => 0xf0028
  | .resFlags => 0xf002c
  | .resCellSel => 0xf0030
  | .resCellInfo => 0xf0034
  | .resRegionPos n => 0xf0100 + 0x10 * n
  | .resRegionSize n => 0xf0104 + 0x10 * n
  | .resRegionCtl n => 0xf0108 + 0x10 * n
  | .memcInit => 0x100000
  | .memcStatus => 0x100004
  | .memcRepairs => 0x100008
  | .ringBaseLo n => 0x200000 + 0x40 * n + 0x0
  | .ringBaseHi n => 0x200000 + 0x40 * n + 0x4
  | .ringCfg n => 0x200000 + 0x40 * n + 0x8
  | .ringCtl n => 0x200000 + 0x40 * n + 0xc
  | .ringHwIndex n => 0x200000 + 0x40 * n + 0x10
  | .ringSwIndex n => 0x200000 + 0x40 * n + 0x14
  | .ringStatus n => 0x200000 + 0x40 * n + 0x18
  | .ringDropped n => 0x200000 + 0x40 * n + 0x1c
  | .spanRingSched s => 0x400000 + 0x20000 * s + 0x100
  | .spanParkStatus s => 0x400000 + 0x20000 * s + 0x104
  | .spanBoundsAddrLo s => 0x400000 + 0x20000 * s + 0x110
  | .spanBoundsAddrHi s => 0x400000 + 0x20000 * s + 0x114
  | .spanBoundsInfo s => 0x400000 + 0x20000 * s + 0x118
  | .spanBoundsCount s => 0x400000 + 0x20000 * s + 0x11c
  | .spanLbCfg s => 0x400000 + 0x20000 * s + 0x200
  | .spanLbStatus s j => 0x400000 + 0x20000 * s + 4 * j + 0x210
  | .spanPipeMap s => 0x400000 + 0x20000 * s + 0x300
  | .spanEngineMap s => 0x400000 + 0x20000 * s + 0x304
  | .engineStatus e => 0x500000 + 0x1000 * e + 0x0
  | .engineCeCount e => 0x500000 + 0x1000 * e + 0x4
  | .portCtl p => 0x600000 + 0x4000 * p + 0x0
  | .portStatus p => 0x600000 + 0x4000 * p + 0x4
  | .portLanes p => 0x600000 + 0x4000 * p + 0x8
  | .portTxCfg p => 0x600000 + 0x4000 * p + 0xc
  | .portTiming p => 0x600000 + 0x4000 * p + 0x10
  | .portAlarm p => 0x600000 + 0x4000 * p + 0x14
  | .portCrcErr p => 0x600000 + 0x4000 * p + 0x18
  | .portCntClear p => 0x600000 + 0x4000 * p + 0x1c
  | .portEnum p => 0x600000 + 0x4000 * p + 0x20
  | .portHopSel p => 0x600000 + 0x4000 * p + 0x24
  | .portHopStatus p => 0x600000 + 0x4000 * p + 0x28
  | .portHopTel p => 0x600000 + 0x4000 * p + 0x2c
  | .portFrameErr p => 0x600000 + 0x4000 * p + 0x30
  | .laneStatus p l => 0x600000 + 0x4000 * p + 0x40 * l + 0x100
  | .lanePrbsCtl p l => 0x600000 + 0x4000 * p + 0x40 * l + 0x104
  | .laneInject p l => 0x600000 + 0x4000 * p + 0x40 * l + 0x108
  | .laneCv p l => 0x600000 + 0x4000 * p + 0x40 * l + 0x10c
  | .laneDisp p l => 0x600000 + 0x4000 * p + 0x40 * l + 0x110
  | .lanePrbsErr p l => 0x600000 + 0x4000 * p + 0x40 * l + 0x114
  | .laneSymbolsLo p l => 0x600000 + 0x4000 * p + 0x40 * l + 0x118
  | .laneSymbolsHi p l => 0x600000 + 0x4000 * p + 0x40 * l + 0x11c
  | .laneInjected p l => 0x600000 + 0x4000 * p + 0x40 * l + 0x120
  | .laneDfe p l => 0x600000 + 0x4000 * p + 0x40 * l + 0x124
  | .laneEye p l => 0x600000 + 0x4000 * p + 0x40 * l + 0x128
  | .codecCtl i => 0x700000 + 0x400 * i + 0x0
  | .codecGov i => 0x700000 + 0x400 * i + 0x4
  | .codecDeg i => 0x700000 + 0x400 * i + 0x8
  | .codecStatus i => 0x700000 + 0x400 * i + 0xc
  | .codecFlags i => 0x700000 + 0x400 * i + 0x10
  | .codecFrameBits i => 0x700000 + 0x400 * i + 0x14
  | .codecRawBits i => 0x700000 + 0x400 * i + 0x18
  | .codecBlocks i => 0x700000 + 0x400 * i + 0x1c
  | .codecCounts i => 0x700000 + 0x400 * i + 0x20
  | .doorbell n => 0x1000000 + 0x40 * n
  | .faultStatus u => faultBase u + 0x0
  | .faultLive u => faultBase u + 0x4
  | .faultEnable u => faultBase u + 0x8
  | .faultForce u => faultBase u + 0xc
  | .faultFirst u => faultBase u + 0x10
  | .faultFirstTimeLo u => faultBase u + 0x14
  | .faultFirstTimeHi u => faultBase u + 0x18
  | .faultMerge u => faultBase u + 0x1c
  | .msixTable i => 0x18000 + 4 * i
  | .msixPba i => 0x17F00 + 4 * i

/-- The registers that stand alone, in the order of the index R459. -/
def fixedRegs : List Reg :=
  [.globalId, .globalMagic, .globalVersion, .globalCaps, .globalScratch, .globalUnlock, .globalBusy, .globalStart, .hostifLink, .hostifBar2Window, .hostifAccErrAddrLo, .hostifAccErrAddrHi, .hostifAccErrInfo, .hostifAccErrCount, .timeCountLo, .timeCountHi, .timeFlags, .timeAlarmLo, .timeAlarmHi, .timeAlarmCtl, .powerReq, .powerStatus, .powerSelfref, .powerIdleCount, .powerWakeEn, .powerWakeSrc, .powerTiming, .powerLtr, .powerVolt, .powerAvsCfg] ++
  [.powerAvsStatus, .nvsCmd, .nvsRange, .nvsPassLo, .nvsPassHi, .nvsNewpassLo, .nvsNewpassHi, .nvsKeyCtl, .nvsStatus, .nvsLocks, .nvsHold, .nvsEnergy, .nvsFlags, .nvsLife, .nvsCycles, .nvsSaveSeq, .nvsLogHead, .nvsLastTimeLo, .nvsLastTimeHi, .nvsTileSel, .nvsTileSeconds, .fuseStatus, .fuseCtl, .fuseWordSel, .fuseWord, .fuseIdLo, .fuseIdHi, .fuseRev, .faultgSafe, .faultgFirst] ++
  [.faultgFirstTimeLo, .faultgFirstTimeHi, .faultgInject, .faultgLimits, .faultgTest, .faultgSpares, .scanCtl, .scanStatus, .scanGenlockPeriod, .scanGenlockOffset, .scanGenlockMeas, .scanLineTiming, .scanCommit, .scanBackground, .scanCompCfg, .scanFrameLo, .scanFrameHi, .scanLatchFrame, .scanPosition, .scanWallSize, .scanFamilyBaseLo, .scanFamilyBaseHi, .scanTileTableBaseLo, .scanTileTableBaseHi, .scanGeomRate, .scanGeomCtl, .scanGeomStatus, .scanAlertStatus, .scanAlertPos, .scanAlertSize] ++
  [.scanAlertAddrLo, .scanAlertAddrHi, .scanAlertFmt, .scanAlertPitch, .scanAlertLatency, .scanAlertCounts, .layerCommit, .layerOverStatus, .emitCtl, .emitReload, .emitStatus, .emitPqCfg, .emitMatrixBaseLo, .emitMatrixBaseHi, .emitKnotBaseLo, .emitKnotBaseHi, .emitDeltaBaseLo, .emitDeltaBaseHi, .ageCtl, .ageRef, .ageStressBaseLo, .ageStressBaseHi, .ageTargetBaseLo, .ageTargetBaseHi, .agePeriods, .ageStatus, .ageEpoch, .ageCkptSize, .bistCtl, .bistStatus] ++
  [.bistStateBaseLo, .bistStateBaseHi, .bistParityBaseLo, .bistParityBaseHi, .bistActive, .bistCheckResult, .bistTileSel, .bistTileInfo, .bistRecCount, .bistRecSel, .bistRecRegion, .bistRecSize, .bistRecTargetLo, .bistRecTargetHi, .bistRecPitch, .resCtl, .resCommit, .resDefault, .resTiming, .resAmbient, .resRep, .resReturn, .resTargetBaseLo, .resTargetBaseHi, .resCounts, .resFlags, .resCellSel, .resCellInfo, .memcInit, .memcStatus] ++
  [.memcRepairs]

/-- The fault register at offset o of a fault set of unit u (R404). -/
def locateFault (u o : Nat) : Option Reg :=
  match o with
  | 0x00 => some (.faultStatus u)
  | 0x04 => some (.faultLive u)
  | 0x08 => some (.faultEnable u)
  | 0x0C => some (.faultForce u)
  | 0x10 => some (.faultFirst u)
  | 0x14 => some (.faultFirstTimeLo u)
  | 0x18 => some (.faultFirstTimeHi u)
  | 0x1C => some (.faultMerge u)
  | _ => none

/-- The register at offset o of layer n (R126). -/
def locateLayer (n o : Nat) : Option Reg :=
  match o with
  | 0x0 => some (.layerCtl n)
  | 0x4 => some (.layerWinPos n)
  | 0x8 => some (.layerWinSize n)
  | 0xC => some (.layerCropPos n)
  | 0x10 => some (.layerCropSize n)
  | 0x20 => some (.layerSurfAddrLo n)
  | 0x24 => some (.layerSurfAddrHi n)
  | 0x28 => some (.layerSurfSize n)
  | 0x2C => some (.layerSurfPitch n)
  | 0x30 => some (.layerSurfFmt n)
  | _ => none

/-- The register at offset o of ring context n (R62). -/
def locateRing (n o : Nat) : Option Reg :=
  match o with
  | 0x0 => some (.ringBaseLo n)
  | 0x4 => some (.ringBaseHi n)
  | 0x8 => some (.ringCfg n)
  | 0xC => some (.ringCtl n)
  | 0x10 => some (.ringHwIndex n)
  | 0x14 => some (.ringSwIndex n)
  | 0x18 => some (.ringStatus n)
  | 0x1C => some (.ringDropped n)
  | _ => none

/-- The register at offset o of span s's block (R102, R126, R406). -/
def locateSpan (s o : Nat) : Option Reg :=
  match o with
  | 0x100 => some (.spanRingSched s)
  | 0x104 => some (.spanParkStatus s)
  | 0x110 => some (.spanBoundsAddrLo s)
  | 0x114 => some (.spanBoundsAddrHi s)
  | 0x118 => some (.spanBoundsInfo s)
  | 0x11C => some (.spanBoundsCount s)
  | 0x200 => some (.spanLbCfg s)
  | 0x300 => some (.spanPipeMap s)
  | 0x304 => some (.spanEngineMap s)
  | 0x210 => some (.spanLbStatus s 0)
  | 0x214 => some (.spanLbStatus s 1)
  | 0x218 => some (.spanLbStatus s 2)
  | 0x21C => some (.spanLbStatus s 3)
  | 0x220 => some (.spanLbStatus s 4)
  | _ => if 0x3E0 ≤ o ∧ o < 0x400 then locateFault (14 + s) (o - 0x3E0) else none

/-- The register at offset o of engine e's block (R458). -/
def locateEngine (e o : Nat) : Option Reg :=
  match o with
  | 0x0 => some (.engineStatus e)
  | 0x4 => some (.engineCeCount e)
  | _ => if 0x3E0 ≤ o ∧ o < 0x400 then locateFault (22 + e) (o - 0x3E0) else none

/-- The register at offset o of lane l of port p (R280). -/
def locateLane (p l o : Nat) : Option Reg :=
  match o with
  | 0x0 => some (.laneStatus p l)
  | 0x4 => some (.lanePrbsCtl p l)
  | 0x8 => some (.laneInject p l)
  | 0xC => some (.laneCv p l)
  | 0x10 => some (.laneDisp p l)
  | 0x14 => some (.lanePrbsErr p l)
  | 0x18 => some (.laneSymbolsLo p l)
  | 0x1C => some (.laneSymbolsHi p l)
  | 0x20 => some (.laneInjected p l)
  | 0x24 => some (.laneDfe p l)
  | 0x28 => some (.laneEye p l)
  | _ => none

/-- The register at offset o of port p's block (R280, R308). -/
def locatePort (p o : Nat) : Option Reg :=
  match o with
  | 0x0 => some (.portCtl p)
  | 0x4 => some (.portStatus p)
  | 0x8 => some (.portLanes p)
  | 0xC => some (.portTxCfg p)
  | 0x10 => some (.portTiming p)
  | 0x14 => some (.portAlarm p)
  | 0x18 => some (.portCrcErr p)
  | 0x1C => some (.portCntClear p)
  | 0x20 => some (.portEnum p)
  | 0x24 => some (.portHopSel p)
  | 0x28 => some (.portHopStatus p)
  | 0x2C => some (.portHopTel p)
  | 0x30 => some (.portFrameErr p)
  | _ => 
    if 0x100 ≤ o ∧ o < 0x100 + 0x40 * 4 then locateLane p ((o - 0x100) / 0x40) ((o - 0x100) % 0x40)
    else if 0x3E0 ≤ o ∧ o < 0x400 then locateFault (94 + p) (o - 0x3E0) else none

/-- The register at offset o of codec context i's block (R248). -/
def locateCodec (i o : Nat) : Option Reg :=
  match o with
  | 0x0 => some (.codecCtl i)
  | 0x4 => some (.codecGov i)
  | 0x8 => some (.codecDeg i)
  | 0xC => some (.codecStatus i)
  | 0x10 => some (.codecFlags i)
  | 0x14 => some (.codecFrameBits i)
  | 0x18 => some (.codecRawBits i)
  | 0x1C => some (.codecBlocks i)
  | 0x20 => some (.codecCounts i)
  | _ => if 0x3E0 ≤ o ∧ o < 0x400 then locateFault (126 + i) (o - 0x3E0) else none

/-- The device block whose fault set holds offset a, with the offset in the set (R404). -/
def locateDevFault (a : Nat) : Option Reg :=
  (List.range 14).findSome? fun b =>
    if faultBase b ≤ a ∧ a < faultBase b + 0x20 then locateFault b (a - faultBase b) else none

/-- The register whose DW lies at BAR0 offset a, a multiple of 4; none where the location is reserved (R451). -/
def locate (a : Nat) : Option Reg :=
  if a < 0x200000 then
    if 0x17F00 ≤ a ∧ a < 0x18000 then some (.msixPba ((a - 0x17F00) / 4))
    else if 0x18000 ≤ a ∧ a < 0x20000 then some (.msixTable ((a - 0x18000) / 4))
    else if 0x10400 ≤ a ∧ a < 0x10440 then some (.hostifEventRoute ((a - 0x10400) / 4))
    else if 0x41000 ≤ a ∧ a < 0x41800 then some (.nvsBuf ((a - 0x41000) / 4))
    else if 0x60100 ≤ a ∧ a < 0x60190 then some (.faultgPending ((a - 0x60100) / 4))
    else if 0x61000 ≤ a ∧ a < 0x62200 then some (.faultgVector ((a - 0x61000) / 4))
    else if 0x80200 ≤ a ∧ a < 0x80280 then some (.scanChain ((a - 0x80200) / 4))
    else if 0xA1000 ≤ a ∧ a < 0xA2000 then locateLayer ((a - 0xA1000) / 0x40) ((a - 0xA1000) % 0x40)
    else if 0xF0100 ≤ a ∧ a < 0xF0200 then
      match (a - 0xF0100) % 0x10 with
      | 0 => some (.resRegionPos ((a - 0xF0100) / 0x10))
      | 4 => some (.resRegionSize ((a - 0xF0100) / 0x10))
      | 8 => some (.resRegionCtl ((a - 0xF0100) / 0x10))
      | _ => none
    else if 0x101000 ≤ a ∧ a < 0x111000 then
      if 0x3E0 ≤ a % 0x1000 ∧ a % 0x1000 < 0x400 then locateFault (166 + (a - 0x101000) / 0x1000) (a % 0x1000 - 0x3E0)
      else none
    else (fixedRegs.find? (fun r => r.addr == a)).or (locateDevFault a)
  else if a < 0x280000 then locateRing ((a - 0x200000) / 0x40) ((a - 0x200000) % 0x40)
  else if 0x400000 ≤ a ∧ a < 0x500000 then locateSpan ((a - 0x400000) / 0x20000) ((a - 0x400000) % 0x20000)
  else if 0x500000 ≤ a ∧ a < 0x548000 then locateEngine ((a - 0x500000) / 0x1000) ((a - 0x500000) % 0x1000)
  else if 0x600000 ≤ a ∧ a < 0x680000 then locatePort ((a - 0x600000) / 0x4000) ((a - 0x600000) % 0x4000)
  else if 0x700000 ≤ a ∧ a < 0x70A000 then locateCodec ((a - 0x700000) / 0x400) ((a - 0x700000) % 0x400)
  else if 0x1000000 ≤ a ∧ a < 0x1080000 then
    if (a - 0x1000000) % 0x40 = 0 then some (.doorbell ((a - 0x1000000) / 0x40)) else none
  else none

/-- The bits of a register that take a written value: RW, RWS and RWG fields (R6). -/
def Reg.rw : Reg → Nat
  | .globalScratch => 0xFFFFFFFF
  | .hostifBar2Window => 0xFF
  | .hostifEventRoute _ => 0x11FFF
  | .timeAlarmLo => 0xFFFFFFFF
  | .timeAlarmHi => 0xFFFFFFFF
  | .timeAlarmCtl => 0x1
  | .powerSelfref => 0xFFFF0001
  | .powerWakeEn => 0x1E
  | .powerTiming => 0xFFFFFFFF
  | .powerLtr => 0x3FF03FF
  | .powerAvsCfg => 0xFF0F
  | .nvsCmd => 0x3F30
  | .nvsRange => 0xFFF07FF
  | .nvsKeyCtl => 0x7
  | .nvsTileSel => 0xFFF
  | .nvsBuf _ => 0xFFFFFFFF
  | .fuseWordSel => 0xFF
  | .faultgInject => 0x3
  | .faultgLimits => 0xFFFFFF
  | .faultgTest => 0x1
  | .faultgVector _ => 0x7FF
  | .scanCtl => 0x4
  | .scanGenlockPeriod => 0x7FFFFF
  | .scanGenlockOffset => 0x807FFFFF
  | .scanLineTiming => 0xFFFFFFFF
  | .scanCommit => 0x1
  | .scanBackground => 0x3FFFFFFF
  | .scanCompCfg => 0x3
  | .scanWallSize => 0xFFFFFFFF
  | .scanFamilyBaseLo => 0xFFFFFF00
  | .scanFamilyBaseHi => 0xF
  | .scanTileTableBaseLo => 0xFFFFFF00
  | .scanTileTableBaseHi => 0xF
  | .scanGeomRate => 0xFFFF
  | .scanChain _ => 0x1FF
  | .layerCommit => 0x1
  | .layerCtl _ => 0xFF03
  | .layerWinPos _ => 0xFFFFFFFF
  | .layerWinSize _ => 0xFFFFFFFF
  | .layerCropPos _ => 0xFFFFFFFF
  | .layerCropSize _ => 0xFFFFFFFF
  | .emitCtl => 0xF
  | .emitPqCfg => 0x3FFF
  | .emitMatrixBaseLo => 0xFFFFFFC0
  | .emitMatrixBaseHi => 0xF
  | .emitKnotBaseLo => 0xFFFFF000
  | .emitKnotBaseHi => 0xF
  | .emitDeltaBaseLo => 0xFFFFFFC0
  | .emitDeltaBaseHi => 0xF
  | .ageCtl => 0x7FF0007
  | .ageRef => 0xFFFFFFFF
  | .ageStressBaseLo => 0xFFFFF000
  | .ageStressBaseHi => 0xF
  | .ageTargetBaseLo => 0xFFFFF000
  | .ageTargetBaseHi => 0xF
  | .agePeriods => 0xFFFFFFFF
  | .bistCtl => 0x1
  | .bistStateBaseLo => 0xFFFFF000
  | .bistStateBaseHi => 0xF
  | .bistParityBaseLo => 0xFFFFF000
  | .bistParityBaseHi => 0xF
  | .bistTileSel => 0xFFF
  | .bistRecSel => 0x3F
  | .resCtl => 0x3
  | .resCommit => 0x1
  | .resDefault => 0x3
  | .resTiming => 0xFFFF
  | .resAmbient => 0xFFFFF
  | .resRep => 0xFFF
  | .resReturn => 0xFFFFFF
  | .resTargetBaseLo => 0xFFFFF000
  | .resTargetBaseHi => 0xF
  | .resCellSel => 0x3FFFF
  | .resRegionPos _ => 0xFFFFFFFF
  | .resRegionSize _ => 0xFFFFFFFF
  | .resRegionCtl _ => 0x7
  | .ringBaseLo _ => 0xFFFFFF00
  | .ringBaseHi _ => 0xFFFFFFFF
  | .ringCfg _ => 0x1FFF0FFF
  | .ringCtl _ => 0x7FF0003
  | .spanRingSched _ => 0xFFFFFF
  | .spanLbCfg _ => 0xFF
  | .portCtl _ => 0x7
  | .portTxCfg _ => 0xF
  | .portTiming _ => 0xFF
  | .portHopSel _ => 0xFF
  | .lanePrbsCtl _ _ => 0xF
  | .laneInject _ _ => 0xFFFFFFFF
  | .codecCtl _ => 0xF
  | .codecGov _ => 0x1FFFFF
  | .codecDeg _ => 0xFFFF
  | .doorbell _ => 0xFFFF
  | .faultEnable _ => 0xFFFF
  | _ => 0

/-- The RW1C bits of a register (R6). -/
def Reg.w1c : Reg → Nat
  | .globalBusy => 0x2
  | .hostifAccErrInfo => 0x80000000
  | .timeFlags => 0x3
  | .powerWakeSrc => 0x3F
  | .powerAvsStatus => 0x30000
  | .nvsFlags => 0x1F
  | .layerOverStatus => 0x1
  | .emitStatus => 0x2
  | .ageStatus => 0x3F0
  | .bistStatus => 0xF00
  | .resFlags => 0x1
  | .spanBoundsInfo _ => 0x80000000
  | .codecFlags _ => 0x3
  | .faultStatus _ => 0xFFFF
  | .faultFirst _ => 0x80000000
  | _ => 0

/-- The WO bits of a register (R6). -/
def Reg.wo : Reg → Nat
  | .globalUnlock => 0xFFFFFFFF
  | .powerReq => 0x7
  | .nvsCmd => 0x7
  | .nvsPassLo => 0xFFFFFFFF
  | .nvsPassHi => 0xFFFFFFFF
  | .nvsNewpassLo => 0xFFFFFFFF
  | .nvsNewpassHi => 0xFFFFFFFF
  | .nvsKeyCtl => 0x8
  | .fuseCtl => 0x1
  | .faultgSafe => 0x8
  | .scanCtl => 0x3
  | .scanGeomCtl => 0x1
  | .emitReload => 0x1
  | .ageCtl => 0x8
  | .bistCtl => 0x1E
  | .memcInit => 0x1
  | .portCtl _ => 0x8
  | .portCntClear _ => 0x1
  | .faultForce _ => 0xFFFF
  | _ => 0

/-- What the writable bits hold after power-on reset (R8). -/
def Reg.init : Reg → Nat
  | .powerSelfref => 0x7080000
  | .powerWakeEn => 0x2
  | .powerTiming => 0xA3C003C
  | .powerLtr => 0x30002
  | .powerAvsCfg => 0x640A
  | .nvsKeyCtl => 0x1
  | .faultgLimits => 0x10004
  | .faultgTest => 0x1
  | .scanGenlockPeriod => 0x196E6B
  | .scanLineTiming => 0x4800578
  | .scanGeomRate => 0x1770
  | .layerCtl _ => 0xFF00
  | .layerWinSize _ => 0x10001
  | .layerCropSize _ => 0x10001
  | .emitCtl => 0xD
  | .emitPqCfg => 0x3E8
  | .ageCtl => 0x3C0000
  | .ageRef => 0xFFFFFFFF
  | .agePeriods => 0x3840E10
  | .resTiming => 0x3C1E
  | .resAmbient => 0x20040
  | .resRep => 0xC0
  | .resRegionSize _ => 0x100010
  | .ringCfg _ => 0x40
  | .spanRingSched _ => 0x10408
  | .spanLbCfg _ => 0x40
  | .portTxCfg _ => 0x5
  | .portTiming _ => 0xA
  | .portHopSel _ => 0x1
  | .codecCtl _ => 0xC
  | .codecGov _ => 0x100880
  | .codecDeg _ => 0xC0F0
  | _ => 0

/-- Does the register hold an RWG field (R46)? The register tables name POWER_AVS_CFG, NVS_KEY_CTL and FAULTG_INJECT;
no register of the spec holds a WOC field (DEDUCED, log 75). -/
def Reg.guarded : Reg → Bool
  | .powerAvsCfg => true
  | .nvsKeyCtl => true
  | .faultgInject => true
  | _ => false

/-- The commit group of a shadowed register (R49, R124, R119, R216); none for the others. -/
def Reg.group : Reg → Option Group
  | .scanCommit => some .scan
  | .scanBackground => some .scan
  | .scanCompCfg => some .scan
  | .layerCommit => some .layer
  | .layerCtl _ => some .layer
  | .layerWinPos _ => some .layer
  | .layerWinSize _ => some .layer
  | .layerCropPos _ => some .layer
  | .layerCropSize _ => some .layer
  | .resCommit => some .res
  | .resDefault => some .res
  | .resRegionPos _ => some .res
  | .resRegionSize _ => some .res
  | .resRegionCtl _ => some .res
  | _ => none

/-- For the _LO register of a writable pair, its _HI partner (R52). -/
def Reg.hiOf : Reg → Option Reg
  | .timeAlarmLo => some .timeAlarmHi
  | .nvsPassLo => some .nvsPassHi
  | .nvsNewpassLo => some .nvsNewpassHi
  | .scanFamilyBaseLo => some .scanFamilyBaseHi
  | .scanTileTableBaseLo => some .scanTileTableBaseHi
  | .emitMatrixBaseLo => some .emitMatrixBaseHi
  | .emitKnotBaseLo => some .emitKnotBaseHi
  | .emitDeltaBaseLo => some .emitDeltaBaseHi
  | .ageStressBaseLo => some .ageStressBaseHi
  | .ageTargetBaseLo => some .ageTargetBaseHi
  | .bistStateBaseLo => some .bistStateBaseHi
  | .bistParityBaseLo => some .bistParityBaseHi
  | .resTargetBaseLo => some .resTargetBaseHi
  | .ringBaseLo n => some (.ringBaseHi n)
  | _ => none

/-- For the _HI register of a writable pair, its _LO partner (R52). -/
def Reg.loOf : Reg → Option Reg
  | .timeAlarmHi => some .timeAlarmLo
  | .nvsPassHi => some .nvsPassLo
  | .nvsNewpassHi => some .nvsNewpassLo
  | .scanFamilyBaseHi => some .scanFamilyBaseLo
  | .scanTileTableBaseHi => some .scanTileTableBaseLo
  | .emitMatrixBaseHi => some .emitMatrixBaseLo
  | .emitKnotBaseHi => some .emitKnotBaseLo
  | .emitDeltaBaseHi => some .emitDeltaBaseLo
  | .ageStressBaseHi => some .ageStressBaseLo
  | .ageTargetBaseHi => some .ageTargetBaseLo
  | .bistStateBaseHi => some .bistStateBaseLo
  | .bistParityBaseHi => some .bistParityBaseLo
  | .resTargetBaseHi => some .resTargetBaseLo
  | .ringBaseHi n => some (.ringBaseLo n)
  | _ => none

/-- Are the register's only writable fields RW1C (R57)? -/
def Reg.onlyW1C (r : Reg) : Bool := r.w1c ≠ 0 && r.rw == 0 && r.wo == 0

end Sys2Proof.Machine
end

