-- ==== Sys2Proof/Config.lean ====
section
/-!
DEFINITION. What the spec leaves open, as constants without a value: nothing in Lean can evaluate one of them or
prove a value of it, so whatever is proved holds for every choice.
-/

namespace Sys2Proof.Config

/-- The difference, in ns, between an event source's island TIME and the always-on TIME; used modulo 1,001, so that
any two sources agree to within 2 µs (R98) (DESIGN CHOICE, log 76). -/
opaque islandSkew : Nat → Nat → Nat

/-- Which of the versions of a racing geometry word the check sees (R462). -/
opaque geomPick : Nat → Nat → Nat

/-- Bit offset and width of each trim field of fuse words 16 to 199, in ascending order (R416 gives the packing, not
the widths) (DEDUCED, log 25). -/
opaque trimFields : List (Nat × Nat)

/-- Bit offset and width of each redundant-cell selection in fuse words 6 to 15, in ascending order (R416). -/
opaque selectionFields : List (Nat × Nat)

/-- Post-package repairs that die `die` of channel `ch` has left after `n` repairs made on the channel (R397 says "repair
resources per die", no number). -/
opaque dieRepairs : Nat → Nat → Nat → Nat

/-- The manufacturer code of the JTAG identification register, which the device's BSDL file gives (R445). -/
opaque manufacturer : Nat

/-- Free bytes and values, by the counter `State.free`. -/
opaque freeValue : Nat → Nat

end Sys2Proof.Config
end

