-- ==== Sys2Proof/Machine/Tab.lean ====
section
/-!
DEFINITION. Sparse tables: pairs of a key and a value, keys strictly rising, and no entry equal to the table's
default. Equal tables are equal data. Every file of like units (registers, rings, ports, hops, cells) is one.
-/

namespace Sys2Proof.Machine

/-- A sparse table from numbers to values; an unlisted key reads as a default that the reader gives. -/
abbrev Tab (α : Type) := List (Nat × α)

/-- The value at key k, or the default d. -/
def Tab.get {α : Type} (d : α) (k : Nat) : Tab α → α
  | [] => d
  | (j, v) :: r => if j = k then v else Tab.get d k r

/-- A table without key k. -/
def Tab.drop {α : Type} (k : Nat) (t : Tab α) : Tab α := t.filter fun e => e.1 != k

/-- Put v at key k in a table with default d: the entry goes where v is d. -/
def Tab.put {α : Type} [DecidableEq α] (d : α) (k : Nat) (v : α) : Tab α → Tab α
  | [] => if v = d then [] else [(k, v)]
  | (j, w) :: r =>
    if j < k then (j, w) :: Tab.put d k v r
    else if v = d then Tab.drop k ((j, w) :: r)
    else (k, v) :: (if j = k then r else (j, w) :: r)

/-- The canonical form: keys strictly rising from lo, no entry equal to the default. -/
def Tab.wfFrom {α : Type} [DecidableEq α] (d : α) : Nat → Tab α → Bool
  | _, [] => true
  | lo, (j, v) :: r => decide (lo ≤ j) && decide (v ≠ d) && Tab.wfFrom d (j + 1) r

/-- The canonical form of a whole table. -/
def Tab.wf {α : Type} [DecidableEq α] (d : α) (t : Tab α) : Bool := Tab.wfFrom d 0 t

/-- `f` applied over a list of numbers, one after another. -/
def forEach {α σ : Type} (l : List α) (f : α → σ → σ) (s : σ) : σ := l.foldl (fun acc a => f a acc) s

end Sys2Proof.Machine
end

