-- ==== Sys2Proof/Machine/State.lean ====
section
/-!
DEFINITION. The state of the PGW-1610, all plain data: one structure per block, each field at its reset value,
and State, State.reset, Fault and Refusal. Sparse tables (Tab) list what differs from reset.
-/

namespace Sys2Proof.Machine

/-- A request header as the AER Header Log receives it (R41). -/
structure ReqHdr where
  write : Bool
  bar : Nat
  offset : Nat
  lenDw : Nat
  fbe : Nat
  lbe : Nat
  deriving DecidableEq, Repr

/-- What leaves the controller, oldest first in `State.out`. -/
inductive Output where
  /-- A read completes successfully with data bytes (R39, R35). -/
  | readData (bar offset : Nat) (data : List Nat)
  /-- A read completes with Unsupported Request (R41). -/
  | readUnsupported (bar offset : Nat)
  /-- A read completes with Completer Abort (R41). -/
  | readAbort (bar offset : Nat)
  /-- An AER error message to the host: 0 correctable (advisory), 1 non-fatal, 2 fatal (R41). -/
  | aerMessage (level : Nat)
  /-- A posted write to host memory (R76, R94, R80, R85, R86, R88). -/
  | hostWrite (addr : Nat) (data : List Nat)
  /-- A read request to host memory (R70, R80, R88). -/
  | hostRead (addr len : Nat)
  /-- An MSI-X message of a vector, with the address and data of its table entry (R100, R383). -/
  | msix (vector addr data : Nat)
  /-- An LTR message, for Run and Trim (false) or Hold and Keep (true): the latency, value + 1,024 × scale (R346). -/
  | ltr (hold : Bool) (value : Nat)
  /-- Symbols that lane l of port p sends, in order, each a byte with a K flag as 256 + byte, and the 10-bit groups that they
  go out as, bit a the most significant: a link frame, a training burst, an ordered set (R254 to R256, R281). -/
  | symbols (p l : Nat) (syms groups : List Nat)
  /-- Lane l of port p begins to send idle: these symbols, as these groups, again and again until it sends something else
  (R256, R264). -/
  | idle (p l : Nat) (syms groups : List Nat)
  /-- Pattern bits that the generator of lane l of port p sends, in order (R275, R276). -/
  | prbs (p l : Nat) (bits : List Bool)
  /-- A line action on lane l of port p: 2 electrical idle, 4 the clock stops, 5 the clock starts, 7 a pattern ends with at least
  32 symbol times of electrical idle (R266, R267, R268, R276), 512 + j an injection that inverts bit j (R278); lane 4 stands for
  the forwarded clock. -/
  | line (p l action : Nat)
  /-- An AVSBus voltage step to the regulator, in mV (R339). -/
  | avs (mv : Nat)
  /-- The ALIVE pin: true toggles, false driven low (R389). -/
  | alive (toggling : Bool)
  /-- The hold-capacitor switches: the charge switch closed, the 20 mA load drawn (R364). -/
  | holdSwitch (chargeClosed load : Bool)
  /-- One composed and corrected pixel pair of a pipe, as it enters the codec: native codes of both pixels (R127). -/
  | pixels (pipe x y : Nat) (codes : List Nat)
  /-- The JTAG identification register, on TDO (R445). -/
  | idcode (code : Nat)
  deriving DecidableEq, Repr

/-! ### GLOBAL, HOSTIF and TIME -/

/-- The GLOBAL block: lock, long-operation status, start-up phase (R45, R53, R410, R411). -/
structure Glob where
  /-- GLOBAL_UNLOCK is unlocked (R45); reset locked. -/
  unlocked : Bool := false
  /-- GLOBAL_BUSY.BUSY (R53); reset 0. -/
  busy : Bool := false
  /-- GLOBAL_BUSY.DONE (R54); reset 0. -/
  done : Bool := false
  /-- GLOBAL_BUSY.OP (R53); reset 0. -/
  op : Nat := 0
  /-- GLOBAL_BUSY.RESULT (R54); reset 0x00. -/
  result : Nat := 0
  /-- GLOBAL_START.PHASE (R411); 0 while power-on reset is held. -/
  phase : Nat := 0
  /-- GLOBAL_START.READY (R421); reset 0. -/
  ready : Bool := false
  /-- GLOBAL_START.LAST_RESET (R409); reset 1. -/
  lastReset : Nat := 1
  /-- The JTAG instruction register (R445); IDCODE after a reset of the TAP, as IEEE 1149.1 has it (PRESUMED, log 117). -/
  jtag : JtagInstr := .idcode
  deriving DecidableEq, Repr

/-- A record of the access-error log (R42, R44). -/
structure AccErr where
  kind : Nat
  hdr : ReqHdr
  deriving DecidableEq, Repr

/-- One entry of the MSI-X table (R34); every vector is masked after reset (R409). -/
structure MsixEntry where
  addr : Nat := 0
  data : Nat := 0
  mask : Bool := true
  deriving DecidableEq, Repr

/-- The HOSTIF block and the PCIe function (R36 to R46, R101, R453 to R456). -/
structure HostIf where
  /-- The access-error log's first record (R42); none: VALID is 0. -/
  accErr : Option AccErr := none
  /-- HOSTIF_ACC_ERR_COUNT.COUNT (R42); reset 0. -/
  accErrCount : Nat := 0
  /-- HOSTIF_LINK.SPEED, negotiated generation (R456); live. -/
  speed : Nat := 0
  /-- HOSTIF_LINK.WIDTH (R456); live. -/
  width : Nat := 0
  /-- HOSTIF_LINK.REVERSED (R456); live. -/
  reversed : Bool := false
  /-- The PCIe link is in L0, L1 or a substate (R386, R412). -/
  linkUp : Bool := false
  /-- PCIe link training has begun (R412). -/
  training : Bool := false
  /-- PERST_N is deasserted (R412). -/
  perstHigh : Bool := false
  /-- log2 of the BAR2 size in units of 256 MiB (R453); reset 0. -/
  bar2Log : Nat := 0
  /-- The MSI-X table (R34). -/
  msix : Tab MsixEntry := []
  /-- The pending-bit array (R34, R101). -/
  pba : Tab Bool := []
  /-- MSI-X Enable (R101); 0 after reset. -/
  msixEnable : Bool := false
  /-- MSI-X Function Mask (R101); 0 after reset. -/
  funcMask : Bool := false
  /-- ASPM and PCI-PM L1.2 are enabled by the host (R346). -/
  l12 : Bool := false
  /-- ASPM L1 is enabled by the host in Link Control (R346); 0 after reset. -/
  aspm : Bool := false
  /-- Where the controller's own entries have put the link: 0 L0, 1 L1, 2 L1.2 (R325, R346). -/
  linkState : Nat := 0
  /-- The function is in D3hot (R454). -/
  d3hot : Bool := false
  /-- AER Uncorrectable Error Status, bits as PCI Express Base numbers them (R41). -/
  aerUncor : Nat := 0
  /-- AER Uncorrectable Error Severity (R41). -/
  aerSev : Nat := 0x00462030
  /-- AER Uncorrectable Error Mask. -/
  aerMask : Nat := 0
  /-- AER Correctable Error Status; bit 13 is Advisory Non-Fatal (R41). -/
  aerCor : Nat := 0
  /-- AER Correctable Error Mask; bit 13 set at reset, as PCI Express Base has it. -/
  aerCorMask : Nat := 0x2000
  /-- The AER Header Log (R41). -/
  headerLog : Option ReqHdr := none
  deriving DecidableEq, Repr

/-- The TIME block (R347 to R350, R457). -/
structure TimeBlk where
  /-- TIME in ns, always a multiple of 10 (R51, R347). -/
  count : Nat := 0
  /-- TIME runs from the 100 MHz reference (false: in Keep, from TIMECLK, or stopped). -/
  running : Bool := false
  /-- TIME_FLAGS.COARSE (R348); reset 0. -/
  coarse : Bool := false
  /-- TIME(E0): TIME at the first TIMECLK edge of a Keep (R348). -/
  keepBase : Nat := 0
  /-- TIMECLK edges counted in Keep so far (R348). -/
  keepEdges : Nat := 0
  /-- TIMECLK is present (R349). -/
  timeclk : Bool := true
  /-- TIME_ALARM, 64 bits (R350, R457); reset 0. -/
  alarm : Nat := 0
  /-- TIME_ALARM_CTL.ARM (R350); reset 0. -/
  arm : Bool := false
  deriving DecidableEq, Repr

/-! ### Fault units (R379 to R404) -/

/-- A first-error record (R382). -/
structure FirstRec where
  pos : Nat
  severity : Nat
  worst : Nat
  forced : Bool
  time : Nat
  deriving DecidableEq, Repr

/-- The fault set of one unit (R380, R381, R382, R404); all zero after reset. -/
structure FaultUnit where
  /-- FAULT_STATUS.STICKY. -/
  sticky : Nat := 0
  /-- FAULT_LIVE.LIVE. -/
  live : Nat := 0
  /-- FAULT_ENABLE.IRQ. -/
  enable : Nat := 0
  /-- FAULT_FIRST and FAULT_FIRST_TIME; none: VALID is 0. -/
  first : Option FirstRec := none
  /-- FAULT_MERGE.COUNT. -/
  merge : Nat := 0
  deriving DecidableEq, Repr

/-- FAULTG: the safe state (R388 to R391, R405). -/
structure FaultG where
  /-- FAULTG_SAFE.CLOVE; reset 0. -/
  clove : Bool := false
  /-- FAULTG_SAFE.FATAL; reset 0. -/
  fatal : Bool := false
  /-- ALIVE is toggling (R389); not before the end of start-up. -/
  alive : Bool := false
  /-- FAULTG_FIRST.SOURCE; reset 0. -/
  firstSource : Nat := 0
  /-- FAULTG_FIRST.SEVERITY; reset 0. -/
  firstSeverity : Nat := 0
  /-- FAULTG_FIRST.FORCED; reset 0. -/
  firstForced : Bool := false
  /-- FAULTG_FIRST.VALID; reset 0. -/
  firstValid : Bool := false
  /-- FAULTG_FIRST_TIME; reset 0. -/
  firstTime : Nat := 0
  /-- The highest severity among the Halt and Fatal detections since Clove was entered (R388). -/
  cloveSeverity : Nat := 0
  /-- SYNs with RESUME = 1 that frame starts still send (R390). -/
  resumeFrames : Nat := 0
  /-- FAULTG_TEST.RAN; reset 0. -/
  testRan : Bool := false
  /-- FAULTG_TEST.FAILED; reset 0. -/
  testFailed : Bool := false
  deriving DecidableEq, Repr

/-- Per event source: the next SEQ and the last time stamp (R98). -/
structure EvSeq where
  seq : Nat := 0
  last : Nat := 0
  deriving DecidableEq, Repr

/-! ### Rings, jobs and engines (R60 to R102) -/

/-- A completion entry that waits for space (R72). -/
structure Comp where
  sq : Nat
  slot : Nat
  tag : Nat
  opcode : Nat
  status : Nat
  detail : Nat
  time : Nat
  deriving DecidableEq, Repr

/-- A ring context beside its BASE, CFG and CTL registers (R62 to R66). -/
structure Ring where
  /-- RING_HW_INDEX; reset 0. -/
  hw : Nat := 0
  /-- RING_SW_INDEX; reset 0. -/
  sw : Nat := 0
  /-- The tail that the ring's engine knows: a doorbell reaches it through the engine's queue (R69). -/
  seen : Nat := 0
  /-- The phase bit of the present pass (R76). -/
  phase : Bool := false
  /-- RING_STATUS.ARMED (R100). -/
  armed : Bool := false
  /-- RING_STATUS.STOPPING (R64). -/
  stopping : Bool := false
  /-- The accepted doorbells of a class-0 ring: the tail each set, and TIME then (R324). -/
  rung : List (Nat × Nat) := []
  /-- RING_DROPPED.COUNT (R99). -/
  dropped : Nat := 0
  /-- Records dropped since the last LOST record (R99). -/
  lost : Nat := 0
  /-- On a completion ring: the entries that wait for space in it, in the order the commands finished (R72, R70). -/
  waiting : List Comp := []
  deriving DecidableEq, Repr

/-- How far a command has come. -/
inductive Stage where
  /-- Fetched and checked, not started (R70). -/
  | fetched
  /-- Fetched, waiting for a parking slot (R93) or an update slot (R199). -/
  | stalled
  /-- Handed to the unit that performs it. -/
  | running
  /-- A LAYER_WRITE held back (R91). -/
  | parked
  /-- A LAYER_BIND waiting for a latch point (R81). -/
  | binding
  /-- A SURFACE_RETIRE waiting until its range is unreferenced (R82). -/
  | retiring
  /-- A FENCE; true once the latch point it waits for has come (R79). -/
  | fence (latched : Bool)
  deriving DecidableEq, Repr

/-- A command between its fetch and its completion. -/
structure Job where
  ring : Nat
  slot : Nat
  /-- The ring engine that fetched it. -/
  engine : Nat
  /-- The 16 words of its descriptor (R73). -/
  desc : List Nat
  stage : Stage
  /-- Progress that its opcode keeps: ports still to flush (R83), a CMD's TAG (R296), rows, bytes. -/
  aux : Nat := 0
  deriving DecidableEq, Repr

/-- An engine: the scheduler of a ring engine (R67 to R70), its health (R393, R458). -/
structure Engine where
  /-- Doorbells of class 1 to 3 rings on their way to it (R69). -/
  bells : List Nat := []
  /-- The ring and slot whose descriptor is being read. -/
  fetch : Option (Nat × Nat) := none
  /-- The descriptor fetched and checked, not yet started. -/
  job : Option Job := none
  /-- The class-0 ring last served, plus 1 (R68). -/
  last0 : Nat := 0
  /-- The class-1, 2 and 3 rings last served, plus 1 (R68). -/
  last : List Nat := [0, 0, 0]
  /-- Fetches left of the round's grants of classes 1, 2 and 3 (R68). -/
  grants : List Nat := [0, 0, 0]
  /-- The engine has failed or been withdrawn (ENGINE_STATUS.FAILED, R458). -/
  failed : Bool := false
  /-- A takeover of it runs (R393). -/
  takeover : Bool := false
  /-- CAUSE of that takeover (R401). -/
  cause : Nat := 1
  /-- ENGINE_CE_COUNT.COUNT (R399). -/
  ce : Nat := 0
  /-- The engine executes (ENGINE_STATUS.RUNNING); 0 before phase ENGINES, in Hold and Keep, after a failure. -/
  running : Bool := false
  deriving DecidableEq, Repr

/-- An entry of an engine's journal (R393). -/
inductive JournalEntry where
  /-- A descriptor of a ring was fetched, with the turns of the scheduler after it. -/
  | fetched (ring slot last0 : Nat) (last grants : List Nat)
  /-- A command of a ring was started. -/
  | started (ring slot : Nat)
  /-- A command was handed to the unit that performs it. -/
  | handed (ring slot : Nat)
  /-- A command's completion was written. -/
  | completed (ring slot : Nat)
  /-- An event record of a source was written. -/
  | event (source : Nat)
  deriving DecidableEq, Repr

/-- A bounds-log record (R102). -/
structure BoundsRec where
  addr : Nat
  ring : Nat
  opcode : Nat
  field : Nat
  deriving DecidableEq, Repr

/-- A span: its bounds log and its spares (R102, R406). -/
structure Span where
  /-- SPAN_BOUNDS_ADDR and INFO; none: VALID is 0. -/
  bounds : Option BoundsRec := none
  /-- SPAN_BOUNDS_COUNT.COUNT. -/
  boundsCount : Nat := 0
  /-- SPAN_ENGINE_MAP.SPARE_FOR; 0xF: none. -/
  spareFor : Nat := 0xF
  /-- SPAN_PIPE_MAP.SLOT0 to SLOT3. -/
  slots : List Nat := [0, 1, 2, 3]
  /-- SPAN_PIPE_MAP.FAILED, bit j for pipe slot j. -/
  pipeFailed : Nat := 0
  /-- The port whose pipe takeover runs (R394). -/
  pipeTakeover : Option Nat := none
  /-- CAUSE of that takeover (R401). -/
  pipeCause : Nat := 1
  /-- SRAM rows replaced: array, row (R396, R402). -/
  sramRepairs : List (Nat × Nat) := []
  /-- Corrected errors of SRAM rows since power-on reset, keyed by array × 65,536 + row (R396). -/
  sramCe : Tab Nat := []
  /-- The span's clock and supplies run (false in Hold's retention and in Keep, R335). -/
  running : Bool := false
  deriving DecidableEq, Repr

/-! ### The non-volatile store (R354 to R378) -/

/-- A physical page of the store: its header cell and its 2,048 data bytes (R354). An empty page names partition 0xFF. -/
structure Phys where
  /-- LPAGE_PART; 0xFF: empty. -/
  part : Nat := 0xFF
  /-- LPAGE. -/
  lpage : Nat := 0
  /-- REPLACES: the page a spare replaces; 0xFF otherwise. -/
  replaces : Nat := 0xFF
  /-- SEQ, write sequence number of the logical page. -/
  seq : Nat := 0
  /-- DCRC. -/
  dcrc : Nat := 0
  /-- WEAR, writes made to this physical page. -/
  wear : Nat := 0
  /-- HCHK is right. -/
  hchk : Bool := true
  /-- Data bytes that are not 0, by offset. -/
  data : Tab Nat := []
  deriving DecidableEq, Repr

/-- A store operation, queued or running (R360). -/
inductive NvsOp where
  /-- Register READ (R378): partition, page, offset, length. -/
  | regRead (part page off len : Nat)
  /-- Register WRITE. -/
  | regWrite (part page off len : Nat)
  /-- Register SAVE. -/
  | regSave
  /-- SET_PASSWORD of a partition; true: the write password (R363). -/
  | setPassword (part : Nat) (write : Bool)
  /-- Ring NVS_READ of a job: ring, slot, then as above, host address. -/
  | ringRead (ring slot part page off len host : Nat)
  /-- Ring NVS_WRITE, with the bytes read from the host buffer. -/
  | ringWrite (ring slot part page off : Nat) (data : List Nat)
  /-- Ring NVS_SAVE. -/
  | ringSave (ring slot : Nat)
  /-- An internal append of a log entry: kind, TIME, payload words (R368, R369). -/
  | append (kind time : Nat) (payload : List Nat)
  /-- An internal rewrite of page k, 20 to 23, of the device spare map (R402). -/
  | spareMap (page : Nat)
  /-- The power-down save (R373). -/
  | powerSave
  deriving DecidableEq, Repr

/-- The values that a save writes, as copied at Keep entry (R336, R373). -/
structure SaveCopy where
  life : Nat
  cycles : Nat
  time : Nat
  epoch : Nat
  tileSeconds : Tab Nat
  record : List Nat
  deriving DecidableEq, Repr

/-- The NVS block and the store behind it. -/
structure Nvs where
  /-- The 256 physical pages (R354). -/
  pages : Tab Phys := []
  /-- Retired physical page → wear spare, the replacement map (R359). -/
  replaced : Tab Nat := []
  /-- NVS_LOCKS.FAILS, one count per partition 0 to 3 (R362). -/
  fails : List Nat := [0, 0, 0, 0]
  /-- NVS_LOCKS.LOCKED (R362). -/
  locked : Nat := 0
  /-- NVS_STATUS.READING (R378). -/
  reading : Bool := false
  /-- NVS_STATUS.LAST_OP. -/
  lastOp : Nat := 0
  /-- NVS_STATUS.RESULT. -/
  result : Nat := 0
  /-- NVS_STATUS.REASON. -/
  reason : Nat := 0
  /-- NVS_STATUS.SAVE_VALID. -/
  saveValid : Bool := false
  /-- NVS_STATUS.RECORD_DROPPED. -/
  recordDropped : Bool := false
  /-- Counter sets, 0 A and 1 B, whose save left out a record that had entries; kept with the set (R375). -/
  leftOut : Tab Bool := []
  /-- NVS_STATUS.SAVE_KIND. -/
  saveKind : Nat := 0
  /-- NVS_PASS, 64 bits, write only (R378). -/
  pass : Nat := 0
  /-- NVS_NEWPASS, 64 bits, write only (R378). -/
  newPass : Nat := 0
  /-- NVS_HOLD.CAP_UF (R364). -/
  capUf : Nat := 0
  /-- The level of the VHOLD ball now, in mV. -/
  vhold : Nat := 0
  /-- NVS_HOLD.VHOLD_MV: VHOLD at the last check or measurement. -/
  vholdMv : Nat := 0
  /-- NVS_ENERGY.AVAIL_UJ (R364). -/
  availUj : Nat := 0
  /-- NVS_ENERGY.NEED_UJ (R364). -/
  needUj : Nat := 0
  /-- The level of PWRFAIL_N (R365). -/
  pwrfailHigh : Bool := true
  /-- VDD_AON is within its recommended range (R365). -/
  supplyOk : Bool := true
  /-- A capacitance measurement runs: the charge switch is open (R364). -/
  measuring : Bool := false
  /-- TIME of the last measurement (R364). -/
  lastMeasure : Nat := 0
  /-- NVS_LIFE.SECONDS (R370). -/
  life : Nat := 0
  /-- NVS_CYCLES.COUNT (R370). -/
  cycles : Nat := 0
  /-- NVS_SAVE_SEQ.SSEQ (R372). -/
  saveSeq : Nat := 0
  /-- NVS_LOG_HEAD.ESEQ (R369); the next entry number. -/
  logHead : Nat := 1
  /-- NVS_LAST_TIME (R371). -/
  lastTime : Nat := 0
  /-- TILE_SECONDS by tile index (R370). -/
  tileSeconds : Tab Nat := []
  /-- The queue of store operations, oldest first (R360). -/
  queue : List NvsOp := []
  /-- The store operation that runs (R360). -/
  current : Option NvsOp := none
  /-- An internal append refused by the Mace check waits for its retry (R365). -/
  retry : Bool := false
  /-- Internal appends that found the queue full and are held by their producers (R369). -/
  heldAppends : List NvsOp := []
  /-- The copy of the save values taken at Keep entry (R336). -/
  keepCopy : Option SaveCopy := none
  /-- The store scan of phase STORE has ended since power-on reset (R375). -/
  scanned : Bool := false
  deriving DecidableEq, Repr

/-! ### Power states (R325 to R353) -/

/-- POWER_STATUS.STATE (R325). -/
inductive PowerState where
  | run | trim | hold | keep | off
  deriving DecidableEq, Repr

/-- The code of a power state (R325). -/
def PowerState.code : PowerState → Nat
  | .run => 0 | .trim => 1 | .hold => 2 | .keep => 3 | .off => 4

/-- The power state of a TARGET code (R353). -/
def PowerState.ofCode : Nat → Option PowerState
  | 0 => some .run | 1 => some .trim | 2 => some .hold | 3 => some .keep | 4 => some .off | _ => none

/-- Where a running transition stands. -/
inductive Move where
  /-- No transition runs. -/
  | none
  /-- Run or Trim asked for from Trim or Run: waits for a latch point (R330). -/
  | switch (target : PowerState)
  /-- Entry to Hold, or to Keep through Hold: the step of R335 being waited for, 2 to 7. -/
  | entry (step : Nat) (keep : Bool)
  /-- Keep entry after Hold: R336. -/
  | keepEntry
  /-- The wake of R344: 0 the voltage rises, 1 memory and ports resume, 2 the accrual pass, 3 STATE is due. -/
  | wake (step : Nat)
  /-- Ordered Off: the step of R337 being waited for: 2 passes, 3 voltage, 6 save. -/
  | off (step : Nat)
  /-- Power failure: R338: 0 voltage rises (Hold), 1 the save runs. -/
  | fail (step : Nat)
  deriving DecidableEq, Repr

/-- The POWER block. -/
structure Power where
  /-- POWER_STATUS.STATE; reset 0, Run. -/
  state : PowerState := .run
  /-- The running transition; MOVING reads whether there is one (R329). -/
  move : Move := .none
  /-- POWER_STATUS.GOAL; reset 0. -/
  goal : PowerState := .run
  /-- POWER_STATUS.SERVING (R342). -/
  serving : Bool := false
  /-- POWER_STATUS.RESUME; reset 0, Run. -/
  resume : PowerState := .run
  /-- POWER_IDLE_COUNT.COUNT (R331). -/
  idleCount : Nat := 0
  /-- A doorbell was accepted, a command started or completed, a pass ran, or a residency cell moved, in the open window
  (R331). -/
  activity : Bool := false
  /-- POWER_WAKE_SRC, 6 bits (R341). -/
  wakeSrc : Nat := 0
  /-- Wake sources held while an entry runs (R332). -/
  heldWake : Nat := 0
  /-- POWER_AVS_STATUS.CONFIRMED_MV (R339). -/
  confirmedMv : Nat := 0
  /-- The voltage the ramp goes to. -/
  rampTo : Nat := 0
  /-- The voltage of the step that is outstanding; none: RAMPING is 0 (R339). -/
  avsStep : Option Nat := none
  /-- Attempts made for the outstanding step (R340). -/
  avsTries : Nat := 0
  /-- TIME when the running transition started (R351). -/
  since : Nat := 0
  /-- STATE when the running transition started (R351). -/
  before : PowerState := .run
  /-- The entry is a self-entered Hold (R331). -/
  selfEntry : Bool := false
  /-- The transition came from the POWER_REQ register: GLOBAL_BUSY is set (R330). -/
  fromReg : Bool := false
  /-- The ring and slot of the POWER_REQ command that asked for the transition (R330). -/
  fromRing : Option (Nat × Nat) := none
  /-- Device memory is in self-refresh (R327). -/
  selfRefresh : Bool := false
  /-- The core switches are open (R336). -/
  coreOff : Bool := false
  /-- The reference runs (R336, R344). -/
  refOn : Bool := true
  /-- The Hold-entry self-test runs (R399). -/
  selfTest : Bool := false
  /-- A telemetry poll runs: hops asked, as port × 128 + hop − 1, that have not answered (R343). -/
  poll : Option (List Nat) := none
  /-- A TILE event has come of the running poll (R343). -/
  pollEvent : Bool := false
  /-- TIME of the last poll (R343). -/
  lastPoll : Nat := 0
  /-- In Keep: genlock edges counted since the last loss (R341). -/
  keepEdges : Nat := 0
  /-- In Keep: genlock has been lost (R341). -/
  keepLost : Bool := false
  /-- Event records that wait for the host interface (R326, R344): ring code and the eight words. -/
  heldEvents : List (Nat × List Nat) := []
  deriving DecidableEq, Repr

/-! ### Geometry, scan-out, layers (R12 to R26, R103 to R126) -/

/-- A rectangle of the raster. -/
structure Rect where
  x : Nat
  y : Nat
  w : Nat
  h : Nat
  deriving DecidableEq, Repr

/-- The geometry of a family descriptor, bytes 0x00 to 0x0F as the check copied them (R15, R16). -/
structure Family where
  valid : Bool := false
  bistable : Bool := false
  spareEmitter : Bool := false
  /-- DC_MODE: false ledger, true common-alternation. -/
  alternation : Bool := false
  /-- DEPTH: 0, 1, 2 for 10, 12, 14 bits; 3 invalid. -/
  depth : Nat := 0
  tileW : Nat := 0
  tileH : Nat := 0
  spareThreshold : Nat := 0
  ambientThreshold : Nat := 0
  deriving DecidableEq, Repr

/-- A placement entry, bytes 0x00 to 0x0F as the check copied them (R17). -/
structure Placement where
  x : Nat := 0
  y : Nat := 0
  family : Nat := 0
  seed : Nat := 0
  matrix : Nat := 0
  deriving DecidableEq, Repr

/-- A port's chain as the check accepted it (R23). -/
structure Chain where
  tiles : Nat := 0
  looped : Bool := false
  deriving DecidableEq, Repr

/-- The geometry check and the span SRAM copies it made (R23, R24, R462). -/
structure Geom where
  /-- SCAN_GEOM_STATUS.BUSY; reset 0. -/
  busy : Bool := false
  /-- SCAN_GEOM_STATUS.VALID; reset 0. -/
  valid : Bool := false
  /-- SCAN_GEOM_STATUS.ERROR; reset 0. -/
  error : Nat := 0
  /-- SCAN_GEOM_STATUS.PORT; reset 0. -/
  port : Nat := 0
  /-- SCAN_GEOM_STATUS.HOP; reset 0. -/
  hop : Nat := 0
  /-- While BUSY: device memory as it stood when the check started and after each host write since (R462). -/
  versions : List (List Host.Cell) := []
  /-- The SRAM copy has been filled by an accepted check. -/
  copied : Bool := false
  /-- W and H of the accepted geometry. -/
  width : Nat := 0
  height : Nat := 0
  /-- The accepted family geometry, by descriptor (R16). -/
  families : Tab Family := []
  /-- The accepted placement entries, by tile index p × 128 + h − 1 (R17). -/
  tiles : Tab Placement := []
  /-- The accepted TILES and LOOPED of every port (R23). -/
  chains : Tab Chain := []
  /-- The device address of the family table when the check accepted it (R16: bytes from 0x10 are read in place). -/
  familyBase : Nat := 0
  /-- The device address of the placement table when the check accepted it. -/
  tileBase : Nat := 0
  deriving DecidableEq, Repr

/-- SCAN_STATUS.STATE (R110). -/
inductive ScanState where
  | stopped | acquiring | running | stopping | held
  deriving DecidableEq, Repr

/-- The code of a scan-out state (R110). -/
def ScanState.code : ScanState → Nat
  | .stopped => 0 | .acquiring => 1 | .running => 2 | .stopping => 3 | .held => 4

/-- Where the frame timing generator stands between its marks (R103, R104). -/
inductive Mark where
  /-- A frame start comes next. -/
  | frameStart
  /-- A latch point comes next. -/
  | latch
  deriving DecidableEq, Repr

/-- The frame timing generator and genlock (R103 to R113). -/
structure Scan where
  /-- SCAN_STATUS.STATE; reset 0. -/
  state : ScanState := .stopped
  /-- SCAN_STATUS.LOCKED (R107). -/
  locked : Bool := false
  /-- SCAN_STATUS.HOLDOVER (R107). -/
  holdover : Bool := false
  /-- SCAN_STATUS.SLIPS; reset 0. -/
  slips : Nat := 0
  /-- SCAN_FRAME; reset 0; cleared only by power-on reset. -/
  frame : Nat := 0
  /-- SCAN_LATCH_FRAME; reset 0. -/
  latchFrame : Nat := 0
  /-- SCAN_GENLOCK_MEAS.PERIOD: the last measured period; 0x7F_FFFF when no edge has come. -/
  measured : Nat := 0x7FFFFF
  /-- The last edge that counts as a reference, in always-on cycles (R106); none: the next edge is a new reference. -/
  reference : Option Nat := none
  /-- Start of the running window of R106, in always-on cycles. -/
  windowFrom : Nat := 0
  /-- Consecutive in-range periods (R107). -/
  inRange : Nat := 0
  /-- Consecutive out-of-range periods while locked (R107). -/
  outRange : Nat := 0
  /-- The last accepted period; none: no period was ever accepted (R107). -/
  period : Option Nat := none
  /-- A lock has ever been held (R107, R111, R155). -/
  everLocked : Bool := false
  /-- A lock has been held since scan-out started (R113, R345). -/
  lockHeld : Bool := false
  /-- The period held at the last loss of lock (R109). -/
  lossPeriod : Option Nat := none
  /-- The first frame start after lock is still to be re-phased (R108). -/
  rephase : Bool := false
  /-- Its first edge was passed over and a frame start in holdover has come since: the next one waits for an edge that
  re-phases it (R108). -/
  rephaseWait : Bool := false
  /-- The last accepted edge, in always-on cycles (R107). -/
  lastAccepted : Option Nat := none
  /-- The instant at which an accepted edge places the next frame start, in always-on cycles (R107). -/
  placed : Option Nat := none
  /-- The last active edge, in always-on cycles; none: none has come (SCAN_GENLOCK_MEAS). -/
  lastEdge : Option Nat := none
  /-- STATE became RUNNING after Hold or Keep, and no frame start has come since (R113, R345). -/
  returning : Bool := false
  /-- The instant of the last frame start, or of the return to RUNNING, in always-on cycles. -/
  lastStart : Option Nat := none
  /-- Which mark comes next. -/
  next : Mark := .frameStart
  /-- A fetch window is open (R104). -/
  windowOpen : Bool := false
  /-- The frame that the next SYN names (R104, R111). -/
  show_ : Nat := 0
  /-- The next latch point closes the window and opens none: a hand-over to self-refresh is under way (R113). -/
  handover : Bool := false
  /-- The closing latch point of a stop or hand-over has come: the next frame start sends the last SYN (R112, R113). -/
  closed : Bool := false
  /-- The scan-out, layer and residency commits have reached the frame timing generator (R124). -/
  commitScan : Bool := false
  commitLayer : Bool := false
  commitRes : Bool := false
  /-- The open frame has a content change (R114). -/
  changed : Bool := false
  /-- The first window after a start, wake or enumeration is still to be sent whole (R333). -/
  firstWindow : Bool := true
  deriving DecidableEq, Repr

/-- A surface as LAYER_BIND names it (R81). -/
structure Surface where
  addr : Nat := 0
  w : Nat := 0
  h : Nat := 0
  pitch : Nat := 0
  format : Nat := 0
  encoding : Nat := 0
  bound : Bool := false
  deriving DecidableEq, Repr

/-! ### Device memory controller (R30 to R32, R397, R419, R420) -/

/-- A memory request that waits for its channel (R31, R32). -/
structure MemReq where
  channel : Nat
  /-- Priority class 0 to 4. -/
  cls : Nat
  /-- The requester group: span 0 to 7, or 8 for the host interface. -/
  group : Nat
  /-- The requester within the group: a pipe i as i, an engine e as 64 + e, the host's accesses as 0, scrubbing as 16. -/
  who : Nat
  deriving DecidableEq, Repr

/-- A memory channel (R397). -/
structure Channel where
  /-- Corrected errors per row, for the last 256 rows to have one, newest last. -/
  rows : List (Nat × Nat) := []
  /-- Rows remapped, as the row words of R402. -/
  remaps : List Nat := []
  /-- Rows that wait for a post-package repair at the next start-up, each with the CAUSE code of R401. -/
  repairs : List (Nat × Nat) := []
  /-- Repairs made. -/
  repaired : Nat := 0
  /-- The channel is lost. -/
  lost : Bool := false
  /-- Round robin of each class: the group last served, plus 1 (R32). -/
  groups : Tab Nat := []
  /-- Round robin of each class and group, by class × 16 + group: the requester last served, plus 1 (R32). -/
  whos : Tab Nat := []
  deriving DecidableEq, Repr

/-- The memory controller (R30 to R32, R397, R419 to R421). -/
structure Memc where
  /-- Fitted capacity in GiB, 16, 32 or 64; 0 before it is known (R30, R411). -/
  fittedGiB : Nat := 0
  /-- MEMC_STATUS.TRAINED; reset 0. -/
  trained : Bool := false
  /-- MEMC_STATUS.INIT_DONE; reset 0. -/
  initDone : Bool := false
  /-- MEMC_STATUS.INITIALISING. -/
  initialising : Bool := false
  /-- MEMC_STATUS.CHANNELS_OK. -/
  channelsOk : Nat := 0
  /-- MEMC_REPAIRS.DONE; reset 0. -/
  repairsDone : Nat := 0
  /-- The 16 channels. -/
  channels : Tab Channel := []
  /-- Requests that wait, oldest first (R31). -/
  waiting : List MemReq := []
  deriving DecidableEq, Repr

/-! ### Pipes, EMIT and the fuses (R122, R123, R127 to R149, R415 to R418) -/

/-- The alert that ALERT_SHOW names (R89). -/
structure AlertSurf where
  surf : Surface
  alpha : Nat
  x : Nat
  y : Nat
  deriving DecidableEq, Repr

/-- What a pipe took at its last load under R146: device memory, for the matrices, the output and the stress curves,
and the EMIT settings as they stood then. -/
structure Load where
  mem : List Host.Cell
  capacity : Nat
  matrixBase : Nat
  knotBase : Nat
  deltaBase : Nat
  /-- EMIT_CTL, 4 bits. -/
  emitCtl : Nat
  /-- EMIT_PQ_CFG.PEAK, from which S and S′ of R132 are formed. -/
  peak : Nat
  deriving DecidableEq, Repr

/-- A pipe (R122, R123, R127, R333). -/
structure Pipe where
  /-- Its loaded tables (R146). -/
  load : Option Load := none
  /-- SPAN_LB_STATUS.FILL in KiB. -/
  fill : Nat := 0
  /-- SPAN_LB_STATUS.URGENT. -/
  urgent : Bool := false
  /-- SPAN_LB_STATUS.UNDERRUNS. -/
  underruns : Nat := 0
  /-- Alert data in the reserved lane, in KiB. -/
  lane : Nat := 0
  /-- The tiles of the open window that the pipe serves, in order, with the segments still to process:
  tile index and raster row of the tile; the head is in progress. -/
  todo : List (Nat × Nat) := []
  /-- The next pixel within the head segment. -/
  col : Nat := 0
  /-- EMIT RANGE has been detected in this window (R147). -/
  ranged : Bool := false
  /-- AGE RANGE has been detected in this window (R175). -/
  ageRanged : Bool := false
  /-- LAYER EXCEEDED has been detected in this window (R120). -/
  exceeded : Bool := false
  /-- The pipe skips the open frame (R333). -/
  skipping : Bool := false
  /-- Frames skipped in a row (R333). -/
  skips : Nat := 0
  /-- The last frame sent was neither abandoned nor yielded (R333). -/
  sentWhole : Bool := true
  /-- A content change, reload, sweep or fade since the last sent frame opened (R333). -/
  dirty : Bool := true
  /-- The alert that the pipe composes (R121, R318). -/
  alert : Option AlertSurf := none
  /-- The frame of the open window was yielded to an alert sweep (R321). -/
  yielded : Bool := false
  /-- A window has opened since STATE last became RUNNING (R461). -/
  opened : Bool := false
  /-- The frame whose window the pipe has open (R319). -/
  frame : Nat := 0
  /-- The period in force when that window opened (R155). -/
  period : Nat := 0
  /-- N as it stood at the latch point that opened that window (R154). -/
  n : Nat := 0x3C
  /-- A reload was asked for before a latch point and the pipe has opened no window since (R146). -/
  reload : Bool := false
  /-- The region of an alert change that has reached the span and waits for the alert point (R318). -/
  waiting : Option (List Rect) := none
  /-- The region of the running sweep (R319). -/
  sweep : Option (List Rect) := none
  /-- The working registers and surfaces that the pipe took when it opened its window (R125). -/
  work : Tab Word := []
  layers : Tab Surface := []
  deriving DecidableEq, Repr

/-- EMIT block status (R146, R147). -/
structure Emit where
  /-- EMIT_STATUS.PENDING; reset 0. -/
  pending : Bool := false
  deriving DecidableEq, Repr

/-- The fuses and the trims applied from them (R415 to R418). -/
structure Fuse where
  /-- The fuse words as last read, in the layout of FUSE_WORD; an unblown word is 0. They outlast every reset. -/
  words : Tab Nat := []
  /-- FUSE_STATUS.READ_DONE. -/
  readDone : Bool := false
  /-- FUSE_STATUS.TRIMS_DONE. -/
  trimsDone : Bool := false
  /-- FUSE_STATUS.UE. -/
  ue : Bool := false
  /-- FUSE_STATUS.CE. -/
  ce : Nat := 0
  /-- FUSE_STATUS.STEPS. -/
  steps : Nat := 0
  /-- Selections and trims that do not hold their reset code: field number → applied code (R417). -/
  applied : Tab Nat := []
  /-- POWER_VOLT.RUN_MV, from fuse word 4. -/
  runMv : Nat := 0
  /-- POWER_VOLT.RET_MV, from fuse word 5. -/
  retMv : Nat := 0
  /-- FUSE_ID, from words 0 to 2. -/
  id : Nat := 0
  /-- FUSE_REV, from word 3. -/
  rev : Nat := 0
  /-- A fuse reload runs (R418). -/
  reloading : Bool := false
  deriving DecidableEq, Repr

/-! ### Ports and lanes (R249 to R280, R281 to R308) -/

/-- A PRBS checker beside its SYNC (R277). -/
structure Checker where
  /-- Its register, the newest bit lowest. -/
  reg : Nat := 0
  /-- Bits loaded since it was started or restarted. -/
  got : Nat := 0
  /-- Correct predictions in a row. -/
  right : Nat := 0
  /-- Which of the last 64 bits since SYNC was set were wrong, the newest lowest. -/
  recent : Nat := 0
  deriving DecidableEq, Repr

/-- A lane position of a port: 0 D0, 1 D1, 2 DS, 3 U0 (R280). Its GEN, CHK, PATTERN and INTERVAL are in `regs`. -/
structure Lane where
  /-- LANE_STATUS.STATE: 0 OFF, 1 TRAINING, 2 ACTIVE, 3 IDLE, 4 PRBS, 5 SPARE, 6 RETIRED, 7 LOST. -/
  state : Nat := 0
  /-- A receiving lane is aligned (R257). -/
  aligned : Bool := false
  /-- LANE_STATUS.CLOCK: the forwarded clock of a receiving lane has edges. -/
  clock : Bool := false
  /-- LANE_STATUS.SYNC (R277). -/
  sync : Bool := false
  /-- LANE_STATUS.SYNC_LOSSES, modulo 256. -/
  syncLosses : Nat := 0
  /-- LANE_CV, saturating (R279). -/
  cv : Nat := 0
  /-- LANE_DISP, saturating. -/
  disp : Nat := 0
  /-- LANE_PRBS_ERR, saturating. -/
  prbsErr : Nat := 0
  /-- LANE_SYMBOLS, 64 bits, saturating. -/
  symbols : Nat := 0
  /-- LANE_INJECTED, saturating (R278). -/
  injected : Nat := 0
  /-- Running disparity of the transmitter and of the receiver; true: positive (R254). -/
  txRd : Bool := false
  rxRd : Bool := false
  /-- Alignment was lost and has not been regained (R257). -/
  lostAlign : Bool := false
  /-- Symbols received since the lane aligned, and since the last comma (R257). -/
  pos : Nat := 0
  since : Nat := 0
  /-- The places of the last code violations and disparity errors among them, newest first, at most 65 (R257). -/
  errs : List Nat := []
  /-- The symbols received of the link frame in progress, newest first (R258, R260). -/
  frame : List Nat := []
  /-- The symbols received of a lane alarm in progress, newest first, its ALM left out; none: none is in progress (R269). -/
  alarm : Option (List Nat) := none
  /-- The generator's register (R275). -/
  gen : Nat := 0
  /-- The checker (R277). -/
  checker : Checker := {}
  /-- LANE_DFE, 30 bits, as the taps froze (R263). -/
  taps : Nat := 0
  deriving DecidableEq, Repr

/-- Who sent a CMD (R296). -/
inductive CmdOwner where
  /-- TILE_CMD of a ring and slot (R85). -/
  | tile (ring slot : Nat)
  /-- CONFIG of an enumeration (R305). -/
  | config
  /-- SPARE_SELECT (R165, R172, R305). -/
  | spare
  /-- READ_TEL of a telemetry poll (R343). -/
  | poll
  deriving DecidableEq, Repr

/-- A CMD to one hop: waiting, or outstanding (R296). -/
structure Cmd where
  hop : Nat
  tag : Nat
  payload : List Nat
  owner : CmdOwner
  /-- Its packet has been handed to the link: it is the hop's outstanding CMD. -/
  sent : Bool := false
  deriving DecidableEq, Repr

/-- Where the enumeration of a port stands (R305, R306). -/
inductive EnumStage where
  /-- None runs. -/
  | idle
  /-- DEPTH settles; `whole`: CONFIG follows whatever DEPTH is (false: a part of a split whole chain, R306). -/
  | settle (whole : Bool)
  /-- CONFIG of a hop is outstanding, with its attempt, 1 to 3. -/
  | config (hop attempt : Nat)
  deriving DecidableEq, Repr

/-- What a port does when its port idle has ended (R267, R264, R274). -/
inductive AfterIdle where
  | held | down | bringUp | test
  deriving DecidableEq, Repr

/-- A link frame whose packet area is fixed (R460, R281). -/
structure LinkFrame where
  /-- The packet area. -/
  packets : List Nat
  /-- FPTR. -/
  fptr : Nat
  /-- The window's capacity in bits. -/
  cap : Nat
  /-- The window bits laid out so far. -/
  bits : List Bool := []
  /-- Headers placed in H0 and H1. -/
  headers : List Nat := []
  /-- Blocks that start in the window. -/
  starts : Nat := 0
  /-- The frame whose blocks the window holds; none: no block yet. -/
  frame : Option Nat := none
  /-- Rings and slots of the broadcast TILE_CMDs whose last byte lies in this frame (R85). -/
  ends : List (Nat × Nat) := []
  deriving DecidableEq, Repr

/-- A packet received and accepted, not yet acted on: type, hop, body (R283). -/
structure Packet where
  type : Nat
  hop : Nat
  body : List Nat
  deriving DecidableEq, Repr

/-- A port. -/
structure Port where
  /-- PORT_STATUS.STATE: 0 DOWN, 1 TRAINING, 2 UP, 3 HELD, 4 TEST, 5 FAILED, 6 IDLING; reset 0. -/
  state : Nat := 0
  /-- PORT_STATUS.ROLE: 0 NONE, 1 FEED, 2 RETURN; reset 0. -/
  role : Nat := 0
  /-- PORT_STATUS.SPLIT. -/
  split : Bool := false
  /-- PORT_STATUS.SPLIT_HOP; reset 0. -/
  splitHop : Nat := 0
  /-- PORT_STATUS.NO_PARTNER. -/
  noPartner : Bool := false
  /-- PORT_STATUS.U_LOST. -/
  uLost : Bool := false
  /-- PORT_LANES.IN_SERVICE: D0 and D1 at reset (R252). -/
  inService : Nat := 3
  /-- PORT_LANES.IDLE. -/
  idle : Nat := 0
  /-- PORT_LANES.RETIRED, restored at start-up (R270). -/
  retired : Nat := 0
  /-- DS carries link frames for an alert sweep (R322). -/
  dsSweep : Bool := false
  /-- The four lane positions. -/
  lanes : Tab Lane := []
  /-- PORT_ALARM.HOP, MASK and COUNT; reset 0. -/
  alarmHop : Nat := 0
  alarmMask : Nat := 0
  alarmCount : Nat := 0
  /-- PORT_CRC_ERR; reset 0. -/
  crcErr : Nat := 0
  /-- PORT_FRAME_ERR; reset 0. -/
  frameErr : Nat := 0
  /-- PORT_ENUM.DEPTH, of the frames received last. -/
  depth : Nat := 0
  /-- PORT_ENUM.FOUND; reset 0. -/
  found : Nat := 0
  /-- PORT_ENUM.MISMATCH; reset 0. -/
  mismatch : Nat := 0
  /-- PORT_ENUM.DONE; reset 0. -/
  done : Bool := false
  /-- The running enumeration; BUSY reads whether there is one. -/
  enum : EnumStage := .idle
  /-- An abandoned enumeration runs again when the port is next UP (R305). -/
  enumAgain : Bool := false
  /-- The first hop of the part the last ENUM numbered (R305, R306). -/
  partFrom : Nat := 1
  /-- The hops of the part that the last ENUM numbered. -/
  partLen : Nat := 0
  /-- The chain joins again: the enumeration's end raises CHAIN kind 5 (R306). -/
  joining : Bool := false
  /-- What follows the running port idle. -/
  afterIdle : AfterIdle := .held
  /-- A RETURN port has received CK since its bring-up (R306). -/
  sawCk : Bool := false
  /-- A RETURN port has lost its received CK (R273). -/
  ckLost : Bool := false
  /-- Its partner, a FEED port, has begun port idle, and this RETURN port has not (R267). -/
  peerIdle : Bool := false
  /-- The pixels of its part are sent from the next window that opens (R305, R306). -/
  serves : Bool := false
  /-- The port is in Clove (R302, R388). -/
  clove : Bool := false
  /-- Repeats of the RESUME SYN that the port still owes (R390). -/
  resumeLeft : Nat := 0
  /-- The port re-sends DSC until it stops (R303). -/
  dsc : Bool := false
  /-- Bytes of the packet that an earlier link frame began (R285). -/
  txRest : List Nat := []
  /-- CLV and DSC packets that wait. -/
  txSafe : List (List Nat) := []
  /-- ALR packets that wait. -/
  txAlr : List (List Nat) := []
  /-- SYN packets that wait. -/
  txSyn : List (List Nat) := []
  /-- BIS and CMD packets that wait. -/
  txCmd : List (List Nat) := []
  /-- Broadcast TILE_CMDs whose packets have not left: the packet, ring and slot (R85). -/
  bcasts : List (List Nat × Nat × Nat) := []
  /-- Credit bytes of BIS and CMD packets (R285). -/
  credit : Nat := 0
  /-- FSEQ of the next downlink frame (R258). -/
  fseq : Nat := 0
  /-- Link frames fixed and not yet sent (R460). -/
  frames : List LinkFrame := []
  /-- FSEQ of the frame that is next in order; none: any (R282). -/
  rxSeq : Option Nat := none
  /-- Frames received and not yet passed on, oldest first, each with its lane; none: it fails its check by itself (R259). -/
  rxHeld : List (Nat × Option (List Nat)) := []
  /-- Bytes of the packet stream not yet parsed. -/
  rxPart : List Nat := []
  /-- Parsing resumes at the next FPTR (R282). -/
  rxLost : Bool := true
  /-- Accepted packets not yet acted on, oldest first. -/
  rx : List Packet := []
  /-- CMDs waiting or outstanding, oldest first (R296). -/
  cmds : List Cmd := []
  /-- The last controller TAG less 0x80, plus 1, and the last TILE_CMD TAG, plus 1. -/
  tagOwn : Nat := 0
  tagTile : Nat := 0
  deriving DecidableEq, Repr

/-- A hop of a FEED port's chain (R308). -/
structure Hop where
  /-- PRESENT: enumerated and reachable. -/
  present : Bool := false
  configured : Bool := false
  mismatch : Bool := false
  telValid : Bool := false
  silent : Bool := false
  crack : Nat := 0
  fault : Nat := 0
  temp : Nat := 0
  ambient : Nat := 0
  deriving DecidableEq, Repr

/-! ### Codec contexts (R227 to R248) -/

/-- A block of a segment: its pixels' components, flat, and what its coding needs (R229, R230). -/
structure Block where
  hop : Nat
  tile : Nat
  width : Nat
  row : Nat
  col : Nat
  depth : Nat
  frame : Nat
  codes : List Nat
  prev : List Nat
  last : Bool := false
  deriving DecidableEq, Repr

/-- A codec context (R244 to R248). -/
structure Codec where
  /-- CODEC_CTL, GOV and DEG as they took effect at the last latch point. -/
  ctl : Nat := 0xC
  gov : Nat := 0x100880
  deg : Nat := 0xC0F0
  /-- Skip mode (MODE 3). -/
  skip : Bool := false
  /-- The open block. -/
  open_ : Option Block := none
  /-- Closed blocks not yet laid out, oldest first. -/
  closed : List Block := []
  /-- The codes of the last finished row of each tile, by tile index. -/
  rows : Tab (List Nat) := []
  /-- The codes of the segment in progress. -/
  row : List Nat := []
  /-- Window bits, of the open frame's blocks laid out so far (R244). -/
  laid : Nat := 0
  /-- Raw bits of the open frame's closed blocks. -/
  raw : Nat := 0
  /-- Coded and raw blocks laid out of the open frame. -/
  nCoded : Nat := 0
  nRaw : Nat := 0
  /-- The open frame was abandoned (R122). -/
  abandoned : Bool := false
  /-- CODEC_FRAME_BITS, RAW_BITS, BLOCKS; reset 0. -/
  frameBits : Nat := 0
  rawBits : Nat := 0
  blocksCoded : Nat := 0
  blocksRaw : Nat := 0
  /-- CODEC_COUNTS; reset 0. -/
  wakes : Nat := 0
  skips : Nat := 0
  /-- The next SYN of the port carries SKIP: the odd frame just closed was not sent (R246). -/
  skipSyn : Bool := false
  /-- The last closed frames since the count of FRAMES restarted, newest first, at most 255: abandoned, and S (R245). -/
  history : List (Bool × Nat) := []
  /-- The frame that the last latch point closed, if it closed one: abandoned, and S (R246). -/
  justClosed : Option (Bool × Nat) := none
  deriving DecidableEq, Repr

/-! ### AGE (R150 to R175) -/

/-- The AGE block. -/
structure Age where
  /-- AGE_STATUS.MAP_READY; reset 0. -/
  mapReady : Bool := false
  /-- AGE_STATUS.CLEARING. -/
  clearing : Bool := false
  /-- AGE_STATUS.SEEDED; reset 0. -/
  seeded : Bool := false
  /-- A seed pass runs (R162). -/
  seeding : Bool := false
  /-- The seed pass follows a restore (R111, R162). -/
  seedRestore : Bool := false
  /-- AGE_EPOCH (R171). -/
  epoch : Nat := 0
  /-- N as it took effect at the last latch point (R154). -/
  n : Nat := 0x3C
  /-- Cardamom records as the pipes take them, by tile index: the SRAM copies (R164). -/
  cards : Tab Nat := []
  /-- A0 of the colours that fade, as the engaging pass had it, by tile index × 4 + colour (R165). -/
  a0 : Tab Nat := []
  /-- Missed counts of the raster rows of each pipe, by pipe × 16,384 + row (R156). -/
  missed : Tab Nat := []
  /-- Engagement entries whose log write failed, until the next knot pass: TIME, then the payload words (R167). -/
  unlogged : List (List Nat) := []
  /-- The frame in which port p last took a knot step, plus 1 (R161). -/
  stepped : Tab Nat := []
  /-- TIME of the latch point that closed the last window before Hold (R157). -/
  heldFrom : Nat := 0
  /-- TIME_GAP was set since then (R157). -/
  heldGap : Bool := false
  deriving DecidableEq, Repr

/-! ### BIST (R176 to R208) -/

/-- What the table check copied of a bistable family (R207). -/
structure BistFam where
  /-- Words of bytes 0x38 to 0x7F. -/
  params : List Nat := []
  /-- The 16 words of the contrast-voltage table. -/
  vops : List Nat := []
  /-- The 16 band schedules: their phase words. -/
  schedules : List (List Nat) := []
  deriving DecidableEq, Repr

/-- A phase of a pass: COM, polarity as applied, DUR, and the SEG code of each segment (R191, R294). -/
structure Phase where
  com : Nat
  pol : Bool
  dur : Nat
  segs : List Nat
  deriving DecidableEq, Repr

/-- A cell that a pass drives or takes: its grid place, running target word (levels), owner, and RUN. -/
structure PassCell where
  cx : Nat
  cy : Nat
  target : Nat
  int : Bool
  slot : Nat
  run : Bool
  deriving DecidableEq, Repr

/-- A pass (R188 to R197). -/
structure Pass where
  tile : Nat
  common : Nat
  alternation : Bool
  parity : Bool
  band : Nat
  vop : Nat
  /-- Completed phases (R193). -/
  done : Nat := 0
  /-- Phases whose packets have been queued (R191). -/
  sent : Nat := 0
  phases : List Phase
  /-- SEQ of its first phase (R294). -/
  seq0 : Nat := 0
  /-- One byte per segment: from-level [3:0], running target [6:4], driven [7] (R205). -/
  segs : List Nat
  cells : List PassCell
  /-- Ledger of each segment, 16-bit two's complement (R195). -/
  ledgers : List Nat
  /-- A recovery pass of R204. -/
  recovery : Bool := false
  /-- It comes from the recovery record of R206. -/
  fromRecord : Bool := false
  /-- A recovery pass: the completed phases of the pass that it recovers (R205). -/
  base : Nat := 0
  deriving DecidableEq, Repr

/-- A drive channel of a port (R188). -/
structure Drive where
  tile : Option Nat := none
  /-- The next common of the sweep. -/
  next : Nat := 0
  pass : Option Pass := none
  deriving DecidableEq, Repr

/-- How the cells of a request have fared (R200). -/
structure Tally where
  /-- Cells not yet settled. -/
  left : Nat := 0
  /-- A pass has taken a cell of it. -/
  taken : Bool := false
  /-- Cells that a pass of it changed. -/
  changed : Nat := 0
  /-- Cells handed on. -/
  handed : Nat := 0
  /-- DETAIL of the first cell dropped. -/
  dropped : Option Nat := none
  deriving DecidableEq, Repr

/-- A ring update in an update slot (R199). -/
structure Update where
  ring : Nat
  slot : Nat
  cx : Nat
  cy : Nat
  cw : Nat
  ch : Nat
  addr : Nat
  pitch : Nat
  tally : Tally := {}
  deriving DecidableEq, Repr

/-- Why an internal request exists (R201, R206, R218). -/
inductive InternalKind where
  /-- A mirror request of a residency cell: tile index × 64 + cell. -/
  | mirror (key : Nat)
  /-- A return request of a residency cell. -/
  | back (key : Nat)
  /-- An update of the recovery record, run again. -/
  | rerun
  deriving DecidableEq, Repr

/-- An internal request: queued or in flight. -/
structure Internal where
  kind : InternalKind
  /-- RES_CTL.ENABLE has been cleared since it was made: nothing follows from its end (R219). -/
  void : Bool := false
  cx : Nat
  cy : Nat
  cw : Nat
  ch : Nat
  addr : Nat
  pitch : Nat
  tally : Tally := {}
  deriving DecidableEq, Repr

/-- An update entry of the recovery record (R205). -/
structure RecUpdate where
  slot : Nat
  cx : Nat
  cy : Nat
  cw : Nat
  ch : Nat
  addr : Nat
  pitch : Nat
  deriving DecidableEq, Repr

/-- A pass entry of the recovery record (R205). -/
structure RecPass where
  tile : Nat
  common : Nat
  alternation : Bool
  parity : Bool
  band : Nat
  vop : Nat
  done : Nat
  segs : List Nat
  deriving DecidableEq, Repr

/-- The BIST block. -/
structure Bist where
  /-- BIST_STATUS.TABLES_VALID; reset 0. -/
  tablesValid : Bool := false
  /-- BIST_STATUS.STATE_READY; reset 0. -/
  stateReady : Bool := false
  /-- BIST_STATUS.INITIALISING. -/
  initialising : Bool := false
  /-- BIST_STATUS.CHECKING. -/
  checking : Bool := false
  /-- BIST_STATUS.RECOVERING. -/
  recovering : Bool := false
  /-- BIST_CHECK_RESULT; reset 0. -/
  checkResult : Nat := 0
  /-- The copies of the checked families, by descriptor. -/
  fams : Tab BistFam := []
  /-- Vop of each tile's last pass (R187). -/
  vop : Tab Nat := []
  /-- Band of each tile's last pass. -/
  band : Tab Nat := []
  /-- SEQ of each tile's next phase (R294). -/
  seq : Tab Nat := []
  /-- The 64 drive channels, by port × 2 + channel. -/
  drives : Tab Drive := []
  /-- The tile last taken by each drive channel, plus 1 (R188). -/
  lastTile : Tab Nat := []
  /-- Cells that an interrupted pass drove for the owner they still pend for: INT, SLOT, and the cell (R200, R204). -/
  redriven : List (Bool × Nat × Nat × Nat) := []
  /-- Update slots in use, by slot id (R199). -/
  updates : Tab (Option Update) := []
  /-- Internal requests that wait, oldest first. -/
  queue : List Internal := []
  /-- Internal requests in flight, by internal number. -/
  flights : Tab (Option Internal) := []
  /-- Passes that were interrupted (R204). -/
  interrupted : List Pass := []
  /-- The recovery record held (R205): update and pass entries. -/
  recUpdates : List RecUpdate := []
  recPasses : List RecPass := []
  deriving DecidableEq, Repr

/-! ### RES (R209 to R226) -/

/-- The record of a residency cell (R209). -/
structure ResCell where
  /-- State code of R214. -/
  state : Nat := 0
  /-- BSTATE: 0 STALE, 1 RETURN, 2 MATCH. -/
  bstate : Nat := 0
  /-- The policy in force. -/
  policy : Nat := 0
  still : Nat := 0
  ret : Nat := 0
  /-- The stored signature; none: the next frame is a change. -/
  sig : Option Nat := none
  /-- Consecutive dark TEL reports of its tile (R209, R212). -/
  dark : Nat := 0
  /-- The open frame may be a capture frame of the cell: no valid capture was cleared in it by a host update (R220). -/
  fresh : Bool := true
  /-- A capture is valid. -/
  captured : Bool := false
  /-- The capture passed the test. -/
  passed : Bool := false
  /-- The first frame of the fade. -/
  n0 : Nat := 0
  /-- F of the open frame. -/
  f : Nat := 32768
  /-- A request of it is queued or in flight. -/
  asked : Bool := false
  /-- The content has changed since the request was made. -/
  stale : Bool := false
  /-- A host update has written a target of the cell since the request was made (R215, R220). -/
  touched : Bool := false
  /-- The mirror request of an UPDATING cell has ended, well or not, and the move is still to be decided (R217, R222). -/
  ended : Option Bool := none
  /-- A move to EMISSIVE is known and still to be made: the kind of its event, 2 or 4; 0: none (R217, R220, R222). -/
  due : Nat := 0
  /-- The tile's chain was enumerated again, and the cell has opened no frame since (R223). -/
  entry : Bool := false
  /-- CRC of the open frame's pixels so far. -/
  crc : Nat := 0xFFFFFFFF
  /-- Pixels of the open frame seen. -/
  seen : Nat := 0
  /-- Sums of the bistable cells in progress, by column × 3 + component. -/
  sums : Tab Nat := []
  /-- Σe of the open frame's capture. -/
  err : Nat := 0
  /-- A target byte of the capture could not be written (R224). -/
  bad : Bool := false
  deriving DecidableEq, Repr

/-- The RES block: the values that took effect at the last latch point, and the records. -/
structure Res where
  /-- RES_TIMING as in force. -/
  timing : Nat := 0x3C1E
  /-- RES_AMBIENT as in force. -/
  ambient : Nat := 0x20040
  /-- RES_REP as in force. -/
  rep : Nat := 0xC0
  /-- RES_RETURN as in force. -/
  back : Nat := 0
  /-- TH and TH_RET (R211). -/
  th : Nat := 0
  thRet : Nat := 0
  /-- Records, by tile index × 64 + cell number. -/
  cells : Tab ResCell := []
  /-- F is 32,768 on every cell from the next latch point on (R219). -/
  off : Bool := true
  deriving DecidableEq, Repr

/-! ### Saffron alerts (R310 to R324, R461) -/

/-- An alert command that has not completed (R316). -/
structure AlertCmd where
  ring : Nat
  slot : Nat
  /-- TIME of the doorbell that added it. -/
  since : Nat
  deriving DecidableEq, Repr

/-- The alert sequencer (R316, R324). -/
structure Alert where
  /-- The working alert state; SHOWN reads whether there is one. -/
  work : Option AlertSurf := none
  /-- Surfaces of earlier alerts that are still shown until the sweeps end (R315). -/
  old : List AlertSurf := []
  /-- The command whose sweeps run or are held. -/
  cmd : Option AlertCmd := none
  /-- The change waits for STATE to become RUNNING (R316). -/
  waiting : Bool := false
  /-- Pipes whose sweep the command waits for (R323); a pipe joins at its alert point. -/
  await : List Nat := []
  /-- SCAN_ALERT_LATENCY; reset 0. -/
  latency : Nat := 0
  /-- SCAN_ALERT_COUNTS.CHANGES; reset 0. -/
  changes : Nat := 0
  /-- SCAN_ALERT_COUNTS.YIELDED; reset 0. -/
  yielded : Nat := 0
  deriving DecidableEq, Repr

/-! ### The whole state -/

/-- The state of the controller and its queue of waiting commands. -/
structure State where
  /-- Commands that wait, first in first out. -/
  pending : List Instr := []
  /-- What has left the controller, oldest first. -/
  out : List Output := []
  /-- The model's own counter: the argument of the next free value. -/
  free : Nat := 0
  /-- The writable bits of every register, and the shadows of RWS fields, where they differ from reset; by offset. -/
  regs : Tab Word := []
  /-- The working copies of RWS fields (R49), by offset. -/
  work : Tab Word := []
  /-- The holding registers of _LO writes (R52), by offset. -/
  hold : Tab Word := []
  /-- Device memory: bytes that are not 0 (R30). -/
  mem : List Host.Cell := []
  /-- Device memory is lost (R391, R397). -/
  memLost : Bool := false
  /-- No completion entry or event record is written: a power failure runs or has run (R338), or Off. -/
  noRecords : Bool := false
  glob : Glob := {}
  host : HostIf := {}
  time : TimeBlk := {}
  faultg : FaultG := {}
  /-- The 182 fault sets (R380). -/
  faults : Tab FaultUnit := []
  /-- SEQ and last time stamp per event source (R98). -/
  evSeq : Tab EvSeq := []
  /-- The 8,192 ring contexts (R62). -/
  rings : Tab Ring := []
  /-- Commands started and not completed, in the order they started. -/
  jobs : List Job := []
  /-- The 72 engines (R9). -/
  engines : Tab Engine := []
  /-- The engines' checkpoints and journals in span SRAM, by engine (R27, R393). -/
  ckpts : Tab Engine := []
  journals : Tab (List JournalEntry) := []
  /-- The 8 spans (R9). -/
  spans : Tab Span := []
  nvs : Nvs := {}
  power : Power := {}
  geom : Geom := {}
  scan : Scan := {}
  /-- The working surfaces of the 64 layers (R81). -/
  layers : Tab Surface := []
  /-- The 40 pipes (R9). -/
  pipes : Tab Pipe := []
  emitter : Emit := {}
  fuse : Fuse := {}
  memc : Memc := {}
  /-- The 32 ports (R9). -/
  ports : Tab Port := []
  /-- The hops of the chains, by FEED port × 256 + hop (R308). -/
  hops : Tab Hop := []
  /-- The 40 codec contexts (R9). -/
  codecs : Tab Codec := []
  age : Age := {}
  bist : Bist := {}
  res : Res := {}
  alert : Alert := {}
  deriving DecidableEq, Repr

/-- The machine right after reset: power-on reset held, PHASE 0 (R407, R410), every field at its reset value. -/
def State.reset : State := {}

/-- Why a step stops with a fault: nothing of this block's spec does, so no constructor is raised. -/
inductive Fault where
  /-- Raised by nobody: every command of the spec has an effect in every state. Safe. -/
  | none
  deriving DecidableEq, Repr

/-- Why a command is refused by the model. -/
inductive Refusal where
  /-- The command's meaning is not modelled yet; raised by Dispatch. Safe: nothing follows from it. -/
  | notModelled (mnemonic : String)
  deriving DecidableEq, Repr

end Sys2Proof.Machine
end

