-- ==== Sys2Proof/Machine/Ops.lean ====
section
/-!
DEFINITION. The named operations over the state that every block shares: device memory, stored registers, unit
tables, time stamps, MSI-X messages (R100, R101), ring entries (R76), event records (R94 to R99), completions
(R72, R76) and the detection of a fault source (R381 to R384).
-/

namespace Sys2Proof.Machine

/-! ### Outputs and free values -/

/-- One more output, the newest last. -/
def State.emit (o : Output) (s : State) : State := { s with out := s.out ++ [o] }

/-- Advance the counter of free values (DESIGN CHOICE, log 1). -/
def State.tickFree (s : State) : State := { s with free := s.free + 1 }

/-! ### Device memory (R30) -/

/-- The byte at device address a of a memory; one that nothing has written reads 0 (DESIGN CHOICE, log 3). -/
def Mem.byte (m : List Host.Cell) (a : Nat) : Nat := (Tab.get (0#8) a m).toNat

/-- The little-endian value of n bytes at a. -/
def Mem.le (m : List Host.Cell) (a : Nat) : Nat → Nat
  | 0 => 0
  | n + 1 => Mem.byte m a + 256 * Mem.le m (a + 1) n

/-- The n bytes at a. -/
def Mem.bytes (m : List Host.Cell) (a n : Nat) : List Nat := (List.range n).map fun i => Mem.byte m (a + i)

/-- A memory with one byte written. -/
def Mem.put (a v : Nat) (m : List Host.Cell) : List Host.Cell := Tab.put (0#8) a (BitVec.ofNat 8 v) m

/-- A memory with a list of bytes written from a upwards. -/
def Mem.puts (a : Nat) : List Nat → List Host.Cell → List Host.Cell
  | [], m => m
  | b :: bs, m => Mem.puts (a + 1) bs (Mem.put a b m)

/-- The canonical form of a memory: addresses strictly rising, no entry that reads as an unlisted byte does. -/
def Mem.wf (m : List Host.Cell) : Bool := Tab.wf (0#8) m

/-- The usable capacity in bytes (R30): 59/64 of the fitted capacity. -/
def State.capacity (s : State) : Nat := s.memc.fittedGiB * 2 ^ 30 * 59 / 64

/-- The byte at device address a. -/
def State.byte (s : State) (a : Nat) : Nat := Mem.byte s.mem a

/-- The n-byte little-endian value at device address a (R3). -/
def State.le (s : State) (a n : Nat) : Nat := Mem.le s.mem a n

/-- The n-byte value at a, or 0 when any byte of it lies beyond the usable capacity (R147). -/
def State.leIn (s : State) (a n : Nat) : Nat := if a + n ≤ s.capacity then Mem.le s.mem a n else 0

/-- Write bytes to device memory from a upwards. -/
def State.puts (a : Nat) (l : List Nat) (s : State) : State := { s with mem := Mem.puts a l s.mem }

/-- Write the n low bytes of v at a, little-endian (R3). -/
def State.putLe (a n v : Nat) (s : State) : State := s.puts a (leBytes n v)

/-! ### Stored registers -/

/-- What the host wrote, or the reset value: the shadow of an RWS field (R6, R50). -/
def State.rd (s : State) (r : Reg) : Nat := (Tab.get (word r.init) r.addr s.regs).toNat

/-- Set the stored value of a register. -/
def State.wr (r : Reg) (v : Nat) (s : State) : State := { s with regs := Tab.put (word r.init) r.addr (word v) s.regs }

/-- Bits [hi:lo] of a stored register. -/
def State.f (s : State) (r : Reg) (hi lo : Nat) : Nat := fld (s.rd r) hi lo

/-- Bit i of a stored register. -/
def State.b (s : State) (r : Reg) (i : Nat) : Bool := bit (s.rd r) i

/-- The working copy of a shadowed register (R49). -/
def State.wk (s : State) (r : Reg) : Nat := (Tab.get (word r.init) r.addr s.work).toNat

/-- Set the working copy of a shadowed register (R49). -/
def State.setWk (r : Reg) (v : Nat) (s : State) : State :=
  { s with work := Tab.put (word r.init) r.addr (word v) s.work }

/-- The held _LO value of a wide register (R52). -/
def State.held (s : State) (r : Reg) : Nat := (Tab.get (0#32) r.addr s.hold).toNat

/-- Set the held _LO value of a wide register (R52). -/
def State.setHeld (r : Reg) (v : Nat) (s : State) : State :=
  { s with hold := Tab.put (0#32) r.addr (word v) s.hold }

/-- The 64-bit value of a _LO/_HI pair (R51). -/
def State.pair (s : State) (lo hi : Reg) : Nat := s.rd lo + 2 ^ 32 * s.rd hi

/-! ### Units -/

/-- Fault unit u. -/
def State.fault (s : State) (u : Nat) : FaultUnit := Tab.get {} u s.faults
/-- Replace fault unit u. -/
def State.setFault (u : Nat) (v : FaultUnit) (s : State) : State := { s with faults := Tab.put {} u v s.faults }

/-- Ring context n. -/
def State.ring (s : State) (n : Nat) : Ring := Tab.get {} n s.rings
/-- Replace ring context n. -/
def State.setRing (n : Nat) (v : Ring) (s : State) : State := { s with rings := Tab.put {} n v s.rings }
/-- Change ring context n. -/
def State.modRing (n : Nat) (g : Ring → Ring) (s : State) : State := s.setRing n (g (s.ring n))

/-- Engine e. -/
def State.engine (s : State) (e : Nat) : Engine := Tab.get {} e s.engines
/-- Replace engine e. -/
def State.setEngine (e : Nat) (v : Engine) (s : State) : State := { s with engines := Tab.put {} e v s.engines }
/-- Change engine e. -/
def State.modEngine (e : Nat) (g : Engine → Engine) (s : State) : State := s.setEngine e (g (s.engine e))

/-- An engine that executes writes an entry to its journal (R393). -/
def State.journal (e : Nat) (x : JournalEntry) (s : State) : State :=
  if (s.engine e).running then { s with journals := Tab.put [] e (Tab.get [] e s.journals ++ [x]) s.journals } else s

/-- Engine e writes a checkpoint of its whole state to span SRAM; its journal restarts from it (R393). -/
def State.checkpoint (e : Nat) (s : State) : State :=
  { s with ckpts := Tab.put {} e (s.engine e) s.ckpts, journals := Tab.put [] e [] s.journals }

/-- Span i. -/
def State.span (s : State) (i : Nat) : Span := Tab.get {} i s.spans
/-- Replace span i. -/
def State.setSpan (i : Nat) (v : Span) (s : State) : State := { s with spans := Tab.put {} i v s.spans }
/-- Change span i. -/
def State.modSpan (i : Nat) (g : Span → Span) (s : State) : State := s.setSpan i (g (s.span i))

/-- The engine that serves duty j of a span (R10). -/
def State.dutyEngine (s : State) (sp j : Nat) : Nat := if (s.span sp).spareFor = j then 9 * sp + 8 else 9 * sp + j

/-- The engine that serves submission ring n (R67, R10). -/
def State.ringEngine (s : State) (n : Nat) : Nat := s.dutyEngine (fld (s.rd (.ringCfg n)) 11 9) (4 + n % 4)

/-- The port engine of port p executes (R28, R10). -/
def State.portEngineOn (s : State) (p : Nat) : Bool := (s.engine (s.dutyEngine (p / 4) (p % 4))).running

/-- Port p. -/
def State.port (s : State) (p : Nat) : Port := Tab.get {} p s.ports
/-- Replace port p. -/
def State.setPort (p : Nat) (v : Port) (s : State) : State := { s with ports := Tab.put {} p v s.ports }
/-- Change port p. -/
def State.modPort (p : Nat) (g : Port → Port) (s : State) : State := s.setPort p (g (s.port p))

/-- Lane position l of port p. -/
def State.lane (s : State) (p l : Nat) : Lane := Tab.get {} l (s.port p).lanes
/-- Change lane position l of port p. -/
def State.modLane (p l : Nat) (g : Lane → Lane) (s : State) : State :=
  s.modPort p fun q => { q with lanes := Tab.put {} l (g (s.lane p l)) q.lanes }

/-- Hop h of FEED port p's chain. -/
def State.hop (s : State) (p h : Nat) : Hop := Tab.get {} (p * 256 + h) s.hops
/-- Change hop h of FEED port p's chain. -/
def State.modHop (p h : Nat) (g : Hop → Hop) (s : State) : State :=
  { s with hops := Tab.put {} (p * 256 + h) (g (s.hop p h)) s.hops }

/-- Pipe i. -/
def State.pipe (s : State) (i : Nat) : Pipe := Tab.get {} i s.pipes
/-- Change pipe i. -/
def State.modPipe (i : Nat) (g : Pipe → Pipe) (s : State) : State :=
  { s with pipes := Tab.put {} i (g (s.pipe i)) s.pipes }

/-- Codec context i. -/
def State.codec (s : State) (i : Nat) : Codec := Tab.get {} i s.codecs
/-- Change codec context i. -/
def State.modCodec (i : Nat) (g : Codec → Codec) (s : State) : State :=
  { s with codecs := Tab.put {} i (g (s.codec i)) s.codecs }

/-- Drive channel k: port × 2 + channel. -/
def State.drive (s : State) (k : Nat) : Drive := Tab.get {} k s.bist.drives
/-- Change drive channel k. -/
def State.modDrive (k : Nat) (g : Drive → Drive) (s : State) : State :=
  { s with bist.drives := Tab.put {} k (g (s.drive k)) s.bist.drives }

/-- The ring update in an update slot. -/
def State.update (s : State) (k : Nat) : Option Update := Tab.get none k s.bist.updates
/-- Replace the ring update in an update slot. -/
def State.setUpdate (k : Nat) (v : Option Update) (s : State) : State :=
  { s with bist.updates := Tab.put none k v s.bist.updates }

/-- The internal request of an internal number. -/
def State.flight (s : State) (k : Nat) : Option Internal := Tab.get none k s.bist.flights
/-- Replace the internal request of an internal number. -/
def State.setFlight (k : Nat) (v : Option Internal) (s : State) : State :=
  { s with bist.flights := Tab.put none k v s.bist.flights }

/-- The record of a residency cell, by tile index × 64 + cell number. -/
def State.cell (s : State) (k : Nat) : ResCell := Tab.get {} k s.res.cells
/-- Change the record of a residency cell. -/
def State.modCell (k : Nat) (g : ResCell → ResCell) (s : State) : State :=
  { s with res.cells := Tab.put {} k (g (s.cell k)) s.res.cells }

/-! ### Time (R98, R347) -/

/-- TIME of the island of event source src: the always-on TIME plus that island's skew, below 2 µs (R98). -/
def State.islandTime (s : State) (src : Nat) : Nat :=
  if src < 0x1000 ∧ src ≠ 1 ∧ src ≠ 13 then s.time.count else s.time.count + Config.islandSkew src s.time.count % 1001

/-! ### MSI-X (R100, R101) -/

/-- MSI-X table entry v. -/
def State.msixEntry (s : State) (v : Nat) : MsixEntry := Tab.get {} v s.host.msix

/-- Send the message of vector v: nothing while MSI-X is disabled, a pending bit while it is masked (R101). -/
def sendMsix (v : Nat) (s : State) : State :=
  if !s.host.msixEnable then s
  else if s.host.funcMask || (s.msixEntry v).mask then { s with host.pba := Tab.put false v true s.host.pba }
  else s.emit (.msix v (s.msixEntry v).addr (s.msixEntry v).data)

/-! ### Ring entries (R61, R66, R76, R100) -/

/-- Base address of ring n (R62). -/
def State.ringBase (s : State) (n : Nat) : Nat := s.pair (.ringBaseLo n) (.ringBaseHi n)
/-- k of ring n: it holds 2^k entries (R61). -/
def State.ringLog (s : State) (n : Nat) : Nat := s.f (.ringCfg n) 8 4
/-- The number of entries of ring n. -/
def State.ringSize (s : State) (n : Nat) : Nat := 2 ^ s.ringLog n
/-- KIND of ring n: 0 submission, 1 completion, 2 event. -/
def State.ringKind (s : State) (n : Nat) : Nat := s.f (.ringCfg n) 1 0
/-- CLASS of ring n. -/
def State.ringClass (s : State) (n : Nat) : Nat := s.f (.ringCfg n) 3 2
/-- SPAN of ring n. -/
def State.ringSpan (s : State) (n : Nat) : Nat := s.f (.ringCfg n) 11 9
/-- CQ of ring n. -/
def State.ringCq (s : State) (n : Nat) : Nat := s.f (.ringCfg n) 28 16
/-- ENABLE of ring n. -/
def State.ringOn (s : State) (n : Nat) : Bool := s.b (.ringCtl n) 0
/-- IRQ_EN of ring n. -/
def State.ringIrq (s : State) (n : Nat) : Bool := s.b (.ringCtl n) 1
/-- VECTOR of ring n. -/
def State.ringVector (s : State) (n : Nat) : Nat := s.f (.ringCtl n) 26 16

/-- A completion or event ring has no free slot (R66). -/
def State.ringFull (s : State) (n : Nat) : Bool := ((s.ring n).hw + 1) % s.ringSize n == (s.ring n).sw

/-- Raise the vector of ring n if it is armed and its interrupt enabled; ARMED clears when the message is
generated (R100, R101). -/
def ringInterrupt (n : Nat) (s : State) : State :=
  if s.ringIrq n && (s.ring n).armed && s.host.msixEnable then
    (sendMsix (s.ringVector n) s).modRing n fun r => { r with armed := false }
  else s

/-- Write one entry to a completion or event ring that has a free slot: one posted write with the PHASE bit in
word 1, HW_INDEX advances, the phase inverts on a wrap, and the interrupt follows (R76, R100). -/
def ringWrite (n : Nat) (words : List Nat) (s : State) : State :=
  let r := s.ring n
  let body := (words.take 1) ++ [wd words 1 + at_ (b2n r.phase) 31] ++ words.drop 2
  let next := (r.hw + 1) % s.ringSize n
  let s := s.emit (.hostWrite (s.ringBase n + r.hw * (4 * words.length)) (bytesOfWords body))
  let s := s.setRing n { r with hw := next, phase := if next = 0 then !r.phase else r.phase }
  ringInterrupt n s

/-! ### Events (R94 to R99) -/

/-- The SOURCE of fault unit u in FAULT events (R95, R384). -/
def eventSource (u : Nat) : Nat :=
  if u < 14 then u
  else if u < 22 then 0x1000 + (u - 14)
  else if u < 94 then 0x2000 + (u - 22)
  else if u < 126 then 0x3000 + (u - 94)
  else if u < 158 then 0x1000 + (u - 126) / 4
  else if u < 166 then 0x1000 + (u - 158)
  else 13

/-- The sequence number and time stamp of the next record of a source; time stamps of one source never
decrease (R98). -/
def stamp (src : Nat) (s : State) : Nat × Nat × State :=
  let q := Tab.get ({} : EvSeq) src s.evSeq
  let t := max q.last (s.islandTime src)
  (q.seq, t, { s with evSeq := Tab.put {} src { seq := (q.seq + 1) % 65536, last := t } s.evSeq })

/-- The eight words of an event record, PHASE left 0 (R94). -/
def eventWords (src seq code sev t : Nat) (payload : List Nat) : List Nat :=
  [src + at_ seq 16, code + at_ sev 8, t % 2 ^ 32, t / 2 ^ 32 % 2 ^ 32] ++
  ((List.range 4).map fun i => wd payload i % 2 ^ 32)

/-- Write the waiting LOST record of ring n into a free slot (R99). -/
def writeLost (n : Nat) (s : State) : State :=
  if (s.ring n).lost = 0 || s.ringFull n then s
  else
    let lost := (s.ring n).lost
    let (q, t, s) := stamp 1 s
    (ringWrite n (eventWords 1 q 10 0 t [lost]) s).modRing n fun r => { r with lost := 0 }

/-- Deliver a record to event ring n: a LOST record that waits goes first; a record that meets a FULL ring is
dropped and counted (R99). -/
def deliverEvent (n : Nat) (words : List Nat) (s : State) : State :=
  let s := writeLost n s
  if s.ringFull n then
    s.modRing n fun r => { r with dropped := inc16 r.dropped, lost := add32 r.lost 1 }
  else ringWrite n words s

/-- Route the words of a record by its code (R97): discarded when the route is disabled. -/
def routeEvent (code : Nat) (words : List Nat) (s : State) : State :=
  let route := s.rd (.hostifEventRoute code)
  if bit route 16 && s.ringOn (fld route 12 0) then deliverEvent (fld route 12 0) words s else s

/-- Raise an event record: SEQ advances whatever becomes of it (R98); nothing is written once FATAL is 1 (R391) or
after a power failure (R338); while the core is off it waits for the host interface (R326). -/
def raiseEventAs (exempt : Bool) (src code sev : Nat) (payload : List Nat) (s : State) : State :=
  let (q, t, s) := stamp src s
  let words := eventWords src q code sev t payload
  -- the record of a port comes from its port engine, which enters it in its journal
  let s := if src / 0x1000 = 3 then s.journal (s.dutyEngine (src % 32 / 4) (src % 4)) (.event src) else s
  if s.faultg.fatal && !exempt then s
  else if s.noRecords then s
  else if s.power.coreOff then { s with power.heldEvents := s.power.heldEvents ++ [(code, words)] }
  else routeEvent code words s

/-- Raise an event of severity 0 (R94). -/
def raiseEvent (src code : Nat) (payload : List Nat) (s : State) : State := raiseEventAs false src code 0 payload s

/-- The host interface is clocked again: the records that waited are written in order (R326, R344). -/
def flushHeldEvents (s : State) : State :=
  forEach s.power.heldEvents (fun e st => routeEvent e.1 e.2 st) { s with power.heldEvents := [] }

/-! ### Fault sources (R379, R386) -/

/-- Positions of fault unit u (R379). -/
def positions (u : Nat) : Nat :=
  if u < 22 then 16 else if u < 94 then 4 else if u < 126 then 12 else if u < 166 then 2 else 3

/-- The source index of position k of unit u (R379). -/
def sourceIndex (u k : Nat) : Nat :=
  if u < 22 then 16 * u + k
  else if u < 94 then 352 + 4 * (u - 22) + k
  else if u < 126 then 640 + 12 * (u - 94) + k
  else if u < 166 then 1024 + 2 * (u - 126) + k
  else 1104 + 3 * (u - 166) + k

/-- The unit and position of source index i (R379). -/
def sourceUnit (i : Nat) : Nat × Nat :=
  if i < 352 then (i / 16, i % 16)
  else if i < 640 then (22 + (i - 352) / 4, (i - 352) % 4)
  else if i < 1024 then (94 + (i - 640) / 12, (i - 640) % 12)
  else if i < 1104 then (126 + (i - 1024) / 2, (i - 1024) % 2)
  else (166 + (i - 1104) / 3, (i - 1104) % 3)

/-- The severity of position k of unit u, none where R386 assigns no source: 0 Note, 1 Degrade, 2 Halt, 3 Fatal. -/
def severity (u k : Nat) : Option Nat :=
  if u < 14 then
    match u, k with
    | 1, 0 | 1, 1 | 1, 2 => some 0
    | 2, 0 | 2, 1 => some 0
    | 3, 0 => some 0
    | 3, 1 => some 2
    | 4, 0 | 4, 3 | 4, 4 => some 0
    | 4, 1 | 4, 2 => some 1
    | 5, 0 => some 3
    | 6, 0 => some 3
    | 7, 0 | 8, 0 | 9, 0 => some 0
    | 10, 0 | 10, 1 | 10, 2 | 10, 3 | 10, 4 | 10, 5 => some 0
    | 11, 0 | 11, 1 | 11, 2 | 11, 3 => some 0
    | 12, 0 => some 0
    | 13, 0 => some 0
    | 13, 1 => some 2
    | _, _ => none
  else if u < 22 then [some 0, some 0, some 0, some 1, some 2, some 1, some 2, some 1].getD k none
  else if u < 94 then [some 0, some 1, some 2].getD k none
  else if u < 126 then [some 1, some 1, some 1, some 1, some 2, some 0, some 0].getD k none
  else if u < 166 then [some 0, some 0].getD k none
  else [some 0, some 1, some 2].getD k none

/-- The order in which one cycle's detections of a unit are recorded: the one of highest severity and lowest
position first, the others ascending (R382, R384). `ks` is ascending. -/
def detectOrder (u : Nat) (ks : List Nat) : List Nat :=
  let ks := ks.filter fun k => (severity u k).isSome
  let top := ks.foldl (fun m k => max m ((severity u k).getD 0)) 0
  match ks.find? (fun k => (severity u k).getD 0 == top) with
  | none => []
  | some k => k :: ks.filter (fun j => j != k)

/-- One detection of source k of unit u: live and sticky bits, the first-error record or a merge, the FAULT event
and the vector of a sticky bit that changes from 0 to 1 (R381 to R384). `persist`: the condition lasts;
`mergeOnly`: the unit is being replaced, so the detection counts as a merge there (R382) (DEDUCED, log 65). -/
def detectOne (u k : Nat) (forced persist mergeOnly exempt : Bool) (s : State) : State :=
  match severity u k with
  | none => s
  | some sev =>
    let f := s.fault u
    let writes := f.first.isNone && !mergeOnly
    let first := if writes then some { pos := k, severity := sev, worst := sev, forced := forced,
                                       time := s.islandTime (eventSource u) : FirstRec }
                 else f.first.map fun r => { r with worst := max r.worst sev }
    let merge := if writes then f.merge else inc16 f.merge
    let changed := !bit f.sticky k
    let s := s.setFault u { f with first := first, merge := merge, sticky := withBit f.sticky k true,
                                   live := if persist then withBit f.live k true else f.live }
    if changed then
      let s := raiseEventAs exempt (eventSource u) 0 sev
        [sourceIndex u k, k + at_ sev 8 + at_ (b2n forced) 16 + at_ (b2n writes) 17, merge, s.scan.frame % 2 ^ 32] s
      if bit f.enable k then sendMsix (s.f (.faultgVector (sourceIndex u k)) 10 0) s else s
    else s

/-- A detection of a Note or Degrade source, which takes no action beyond R381 to R384 (R387). -/
def detectNote (u k : Nat) (s : State) : State := detectOne u k false false false false s

/-- The condition of source k of unit u ends: its live bit clears and its sticky bit stays (R381). -/
def clearLive (u k : Nat) (s : State) : State :=
  s.setFault u { s.fault u with live := withBit (s.fault u).live k false }

/-- A RW1C write of 1s to sticky bits of unit u: no effect where the live bit reads 1 or the source is Fatal (R381). -/
def clearSticky (u bits : Nat) (s : State) : State :=
  let f := s.fault u
  let clear := (List.range 16).filter fun k => bit bits k && bit f.sticky k && !bit f.live k && severity u k != some 3
  s.setFault u { f with sticky := clear.foldl (fun st k => withBit st k false) f.sticky }

/-- Fault unit numbers of the arrayed units (R379). -/
def spanUnit (i : Nat) : Nat := 14 + i
/-- Engine e's fault unit. -/
def engineUnit (e : Nat) : Nat := 22 + e
/-- Port p's fault unit. -/
def portUnit (p : Nat) : Nat := 94 + p
/-- Codec context i's fault unit. -/
def codecUnit (i : Nat) : Nat := 126 + i
/-- Memory channel m's fault unit. -/
def channelUnit (m : Nat) : Nat := 166 + m

/-! ### Completions (R70, R72, R76) -/

/-- The four words of a completion entry, PHASE left 0 (R76); DESC_INDEX is the slot without the pass that keeps the keys
of outstanding commands apart. -/
def compWords (c : Comp) : List Nat :=
  [c.slot % 65536 + at_ (c.tag % 65536) 16, c.status + at_ (c.opcode % 256) 8 + at_ c.sq 16, c.detail % 2 ^ 32, c.time % 2 ^ 32]

/-- Write completion entries that wait on ring cq while it has space (R72). -/
def drainCompletions (cq : Nat) : Nat → State → State
  | 0, s => s
  | k + 1, s =>
    match (s.ring cq).waiting with
    | [] => s
    | c :: rest =>
      if s.ringFull cq then s
      else drainCompletions cq k (ringWrite cq (compWords c) (s.modRing cq fun r => { r with waiting := rest }))

/-- A submission ring has stopped: no fetch, no command and no completion entry of it, on whichever completion ring it
waits, is left (R64). -/
def stopCheck (n : Nat) (s : State) : State :=
  let busy := s.jobs.any (fun j => j.ring == n) || s.rings.any (fun q => q.2.waiting.any fun c => c.sq == n) ||
    (List.range 72).any fun e => (match (s.engine e).fetch with | some (r, _) => r == n | none => false)
  if (s.ring n).stopping && !busy then s.modRing n fun r => { r with stopping := false } else s

/-- Write or hold the completion entry of a finished command (R72, R76); nothing is written once FATAL is 1 (R391)
or after a power failure (R338), and an entry for a ring that is not enabled is discarded (R64), as is that of a
command from before a PCIe reset, whose ring stands 8,192 higher (R408). -/
def writeCompletion (n slot tag opcode status detail : Nat) (s : State) : State :=
  let cq := s.ringCq n
  let c : Comp := { sq := n, slot := slot, tag := tag, opcode := opcode, status := status, detail := detail,
                    time := s.islandTime (0x2000 + s.ringEngine n) }
  let s := s.journal (s.ringEngine n) (.completed n slot)
  if s.faultg.fatal || s.noRecords || 8192 ≤ n || !s.ringOn cq then s
  else if s.ringFull cq || !(s.ring cq).waiting.isEmpty then
    s.modRing cq fun r => { r with waiting := r.waiting ++ [c] }
  else ringWrite cq (compWords c) s

/-- A FENCE of ring n completes when its conditions hold (R79): every other command of the ring has completed or,
unless WAIT_PARKED, is parked; and the latch point came, or scan-out is STOPPED. -/
def fenceCheck (n : Nat) (s : State) : State :=
  let others := s.jobs.filter fun j => j.ring == n && (match j.stage with | .fence _ => false | _ => true)
  match s.jobs.find? (fun j => j.ring == n && (match j.stage with | .fence _ => true | _ => false)) with
  | none => s
  | some j =>
    let flags := fld (wd j.desc 0) 15 8
    let earlier := others.all fun o => o.stage == .parked && !bit flags 1
    let latched := !bit flags 0 || s.scan.state == .stopped || j.stage == .fence true
    if earlier && latched then
      writeCompletion n j.slot (fld (wd j.desc 0) 31 16) (fld (wd j.desc 0) 7 0) 0 0
        { s with jobs := s.jobs.filter (fun x => x != j), power.activity := true }
    else s

/-- A command finishes: it leaves the list, its completion entry is written, and its ring's FENCE and stop are
looked at again (R64, R70, R79). -/
def finishJob (j : Job) (status detail : Nat) (s : State) : State :=
  let s := { s with jobs := s.jobs.filter (fun x => !(x.ring == j.ring && x.slot == j.slot)), power.activity := true }
  let s := writeCompletion j.ring j.slot (fld (wd j.desc 0) 31 16) (fld (wd j.desc 0) 7 0) status detail s
  stopCheck j.ring (fenceCheck j.ring s)

/-- The job of a ring and slot. -/
def State.jobAt (s : State) (n slot : Nat) : Option Job := s.jobs.find? fun j => j.ring == n && j.slot == slot

/-- The oldest running command of an opcode fetched from a ring and slot, whether or not a PCIe reset has come since
(R408). -/
def State.jobOf (s : State) (op n slot : Nat) : Option Job :=
  s.jobs.find? fun j => j.ring % 8192 == n && j.slot % 65536 == slot && fld (wd j.desc 0) 7 0 == op && j.stage == .running

/-- Is a key of ring n taken by an outstanding command, or by a CMD packet of one (R70, R85, R296)? -/
def State.keyTaken (s : State) (n key : Nat) : Bool :=
  s.jobs.any (fun j => j.ring == n && j.slot == key) ||
    s.ports.any fun q => q.2.bcasts.any (fun b => b.2 == (n, key)) || q.2.cmds.any (fun c => c.owner == .tile n key) ||
      q.2.frames.any fun f => f.ends.contains (n, key)

/-- The key of a command fetched from a slot: the slot, or where an older command of that slot is still outstanding the
slot with the least pass number that tells them apart (R70). -/
def State.slotKey (s : State) (n slot : Nat) : Nat :=
  (((List.range (s.jobs.length + 1)).map fun k => slot + 65536 * k).find? fun key => !s.keyTaken n key).getD slot

/-- Replace the job of its ring and slot. -/
def State.setJob (j : Job) (s : State) : State :=
  { s with jobs := s.jobs.map fun x => if x.ring == j.ring && x.slot == j.slot then j else x }

/-- The opcode of a job. -/
def Job.opcode (j : Job) : Nat := fld (wd j.desc 0) 7 0

/-! ### Memory requests (R30, R31) -/

/-- A request joins the wait of a channel. -/
def memRequest (channel cls group who : Nat) (s : State) : State :=
  { s with memc.waiting := s.memc.waiting ++ [{ channel := channel, cls := cls, group := group, who := who }] }

/-- A request joins the wait of every channel: an aligned 4 KiB spans them all (R30). -/
def memRequestAll (cls group who : Nat) (s : State) : State :=
  forEach (List.range 16) (fun m st => memRequest m cls group who st) s

/-- A request joins the wait of the channel that device address a selects (R30). -/
def memRequestAt (cls group who a : Nat) (s : State) : State := memRequest (a / 256 % 16) cls group who s

/-- Requests for the n bytes at a, one to a channel for each 256-byte granule (R30). -/
def memRequestRange (cls group who a n : Nat) (s : State) : State :=
  forEach (List.range ((a + n + 255) / 256 - a / 256)) (fun k st => memRequest ((a / 256 + k) % 16) cls group who st) s

/-- The requester number of engine e in its span's group. -/
def engineWho (e : Nat) : Nat := 64 + e

/-! ### Long operations (R53, R54) -/

/-- A register-initiated long operation starts: BUSY and OP (R53). -/
def startLong (op : Nat) (s : State) : State := { s with glob.busy := true, glob.op := op }

/-- A register-initiated long operation ends: RESULT, DONE and BUSY in one cycle (R54). -/
def endLong (result : Nat) (s : State) : State :=
  { s with glob.busy := false, glob.done := true, glob.result := result }

end Sys2Proof.Machine
end

