-- ==== Sys2Proof/Machine/Record.lean ====
section
/-!
DEFINITION. The recovery record of the bistable layer (R205): what it holds now, its bytes, and its loading. The
spec gives the sizes and the contents of the entries, not the places within an entry.
-/

namespace Sys2Proof.Machine

/-- The update entries of the record now: those still held, then the ring updates that hold slots. -/
def recordUpdates (s : State) : List RecUpdate :=
  (s.bist.recUpdates ++ (List.range 64).filterMap fun k => (s.update k).map fun u =>
    { slot := k, cx := u.cx, cy := u.cy, cw := u.cw, ch := u.ch, addr := u.addr, pitch := u.pitch : RecUpdate }).take 64

/-- The record entry of a pass; a recovery pass is recorded with the completed phases of the pass that it recovers (DEDUCED,
log 112). -/
def Pass.toRec (p : Pass) : RecPass :=
  { tile := p.tile, common := p.common, alternation := p.alternation, parity := p.parity, band := p.band, vop := p.vop,
    done := if p.recovery then p.base else p.done, segs := p.segs }

/-- The pass entries of the record now: those still held, then the interrupted and the running passes that do not come from
them. -/
def recordPasses (s : State) : List RecPass :=
  let live := s.bist.interrupted ++ (List.range 64).filterMap fun k => (s.drive k).pass
  (s.bist.recPasses ++ (live.filter fun p => !p.fromRecord).map Pass.toRec).take 64

/-- The 32 bytes of an update entry (DESIGN CHOICE, log 56). -/
def updateBytes (u : RecUpdate) : List Nat :=
  leBytes 4 u.slot ++ leBytes 2 u.cx ++ leBytes 2 u.cy ++ leBytes 2 u.cw ++ leBytes 2 u.ch ++ leBytes 8 u.addr ++
    leBytes 4 u.pitch ++ List.replicate 8 0

/-- The 784 bytes of a pass entry. -/
def passBytes (p : RecPass) : List Nat :=
  leBytes 2 p.tile ++ leBytes 2 p.common ++ [b2n p.alternation, b2n p.parity, p.band, 0] ++ leBytes 2 p.vop ++
    leBytes 2 p.done ++ List.replicate 4 0 ++ (p.segs ++ List.replicate 768 0).take 768

/-- The bytes of the record; none for a record with no entries (R205, R374). -/
def recordBytes (s : State) : List Nat :=
  let u := recordUpdates s
  let p := recordPasses s
  if u.isEmpty && p.isEmpty then []
  else leBytes 4 u.length ++ leBytes 4 p.length ++ List.replicate 56 0 ++ u.flatMap updateBytes ++ p.flatMap passBytes

/-- An update entry from its bytes. -/
def readUpdate (b : List Nat) : RecUpdate :=
  let at' := fun o n => leVal ((b.drop o).take n)
  { slot := at' 0 4, cx := at' 4 2, cy := at' 6 2, cw := at' 8 2, ch := at' 10 2, addr := at' 12 8, pitch := at' 20 4 }

/-- A pass entry from its bytes. -/
def readRecPass (b : List Nat) : RecPass :=
  let at' := fun o n => leVal ((b.drop o).take n)
  { tile := at' 0 2, common := at' 2 2, alternation := at' 4 1 == 1, parity := at' 5 1 == 1, band := at' 6 1,
    vop := at' 8 2, done := at' 10 2, segs := (b.drop 16).take 768 }

/-- Start-up loads the record again (R205, R375). -/
def installRecord (b : List Nat) (s : State) : State :=
  if b.isEmpty then { s with bist.recUpdates := [], bist.recPasses := [] }
  else
    let nu := leVal (b.take 4)
    let np := leVal ((b.drop 4).take 4)
    { s with bist.recUpdates := (List.range nu).map fun i => readUpdate ((b.drop (64 + 32 * i)).take 32),
             bist.recPasses := (List.range np).map fun i => readRecPass ((b.drop (64 + 32 * nu + 784 * i)).take 784) }

end Sys2Proof.Machine
end

