-- ==== Sys2Proof/Machine/Crc.lean ====
section
/-!
DEFINITION. The checks: CRC-32 of R169 and the link frame check FCRC of R281.
-/

namespace Sys2Proof.Machine

/-- Eight shifts of the reflected IEEE 802.3 polynomial. -/
def crc32Byte : Nat → Nat → Nat
  | 0, c => c
  | k + 1, c => crc32Byte k (if c % 2 = 1 then Nat.xor (c / 2) 0xEDB88320 else c / 2)

/-- CRC-32 state after a list of bytes. -/
def crc32From (c : Nat) (l : List Nat) : Nat := l.foldl (fun c b => crc32Byte 8 (Nat.xor c (b % 256))) c

/-- CRC-32: IEEE 802.3 polynomial, reflected, initial value and final XOR 0xFFFF_FFFF (R169). -/
def crc32 (l : List Nat) : Nat := Nat.xor (crc32From 0xFFFFFFFF l) 0xFFFFFFFF

/-- Eight shifts of x^16 + x^12 + x^5 + 1, bit 7 first. -/
def crc16Byte : Nat → Nat → Nat
  | 0, c => c
  | k + 1, c => crc16Byte k (if c / 0x8000 = 1 then Nat.xor (c * 2 % 0x10000) 0x1021 else c * 2 % 0x10000)

/-- FCRC of R281: initial value 0xFFFF, no final XOR, each byte from bit 7 down. -/
def fcrc (l : List Nat) : Nat := l.foldl (fun c b => crc16Byte 8 (Nat.xor c (b % 256 * 256))) 0xFFFF

end Sys2Proof.Machine
end

