-- ==== Sys2Proof/Machine/Geom.lean ====
section
/-!
DEFINITION. The wall's geometry: the tables of R15 and R17, the check of R23, R24 and R462, and where a tile lies and
which port feeds it (R9, R19, R20, R29).
-/

namespace Sys2Proof.Machine

/-! ### The tables as the check reads them -/

/-- A little-endian 4-byte word at a, as the running check sees it: each version of a racing word is possible, and
which one is taken is left open (R462). -/
def checkWord (s : State) (a : Nat) : Nat :=
  match s.geom.versions with
  | [] => s.le a 4
  | m :: ms =>
    let vs := (m :: ms).map fun v => Mem.le v a 4
    if vs.all (· == Mem.le m a 4) then Mem.le m a 4 else vs.getD (Config.geomPick s.free a % vs.length) 0

/-- Family descriptor f of the family table at base, bytes 0x00 to 0x0F (R15). -/
def readFamily (s : State) (base f : Nat) : Family :=
  let w0 := checkWord s (base + f * 128)
  let w1 := checkWord s (base + f * 128 + 4)
  let w2 := checkWord s (base + f * 128 + 8)
  { valid := bit w0 0, bistable := bit w0 1, spareEmitter := bit w0 2, alternation := bit w0 3, depth := fld w0 5 4,
    tileW := fld w1 15 0, tileH := fld w1 31 16, spareThreshold := fld w2 15 0, ambientThreshold := fld w2 31 16 }

/-- Placement entry i of the table at base, bytes 0x00 to 0x0F (R17). -/
def readPlacement (s : State) (base i : Nat) : Placement :=
  let w0 := checkWord s (base + i * 32)
  let w1 := checkWord s (base + i * 32 + 4)
  let w2 := checkWord s (base + i * 32 + 8)
  { x := fld w0 15 0, y := fld w0 31 16, family := fld w1 3 0, seed := fld w1 31 16, matrix := fld w2 11 0 }

/-! ### Settings in force -/

/-- SCAN_FAMILY_BASE. -/
def State.familyBase (s : State) : Nat := s.pair .scanFamilyBaseLo .scanFamilyBaseHi
/-- SCAN_TILE_TABLE_BASE. -/
def State.tileTableBase (s : State) : Nat := s.pair .scanTileTableBaseLo .scanTileTableBaseHi
/-- SCAN_CHAIN.TILES of port p as set. -/
def State.setTiles (s : State) (p : Nat) : Nat := s.f (.scanChain p) 7 0
/-- SCAN_CHAIN.LOOPED of port p as set. -/
def State.setLooped (s : State) (p : Nat) : Bool := s.b (.scanChain p) 8
/-- SCAN_GEOM_RATE.RATE. -/
def State.geomRate (s : State) : Nat := s.f .scanGeomRate 15 0

/-- The native depth in bits of a DEPTH code (R15). -/
def depthBits (d : Nat) : Nat := if d = 0 then 10 else if d = 1 then 12 else 14

/-! ### The check (R24) -/

/-- Do two rectangles share a pixel? -/
def Rect.meets (a b : Rect) : Bool := decide (a.x < b.x + b.w ∧ b.x < a.x + a.w ∧ a.y < b.y + b.h ∧ b.y < a.y + a.h)

/-- What the check has gathered so far: tiles visited, and their rectangles. -/
structure CheckAcc where
  tiles : Tab Placement
  rects : List Rect
  deriving DecidableEq, Repr

/-- The outcome of the check: ERROR, PORT, HOP, with what was gathered. -/
abbrev CheckResult := Except (Nat × Nat × Nat) CheckAcc

/-- Codes 2 to 6 for the tile at hop h of port p (R24). -/
def checkTile (s : State) (fams : List Family) (w h : Nat) (p hop : Nat) (acc : CheckAcc) : CheckResult :=
  let i := p * 128 + (hop - 1)
  if s.capacity < s.tileTableBase + i * 32 + 32 then .error (2, p, hop)
  else
    let e := readPlacement s s.tileTableBase i
    let f := fams.getD e.family {}
    if !f.valid || f.depth = 3 || f.tileW < 64 || 512 < f.tileW || f.tileH < 64 || 512 < f.tileH ||
        f.tileW % 16 ≠ 0 || f.tileH % 16 ≠ 0 then .error (3, p, hop)
    else if e.x % 16 ≠ 0 || e.y % 16 ≠ 0 then .error (4, p, hop)
    else if w < e.x + f.tileW || h < e.y + f.tileH then .error (5, p, hop)
    else
      let r : Rect := { x := e.x, y := e.y, w := f.tileW, h := f.tileH }
      if acc.rects.any r.meets then .error (6, p, hop)
      else .ok { tiles := acc.tiles ++ [(i, e)], rects := r :: acc.rects }

/-- The tiles of a port, hops from h on, n of them. -/
def checkTiles (s : State) (fams : List Family) (w h p : Nat) : Nat → Nat → CheckAcc → CheckResult
  | 0, _, acc => .ok acc
  | n + 1, hop, acc =>
    match checkTile s fams w h p hop acc with
    | .error e => .error e
    | .ok acc => checkTiles s fams w h p n (hop + 1) acc

/-- A_p of R21: pixels of port p's tiles. -/
def areaOf (fams : List Family) (ts : List (Nat × Placement)) (p : Nat) : Nat :=
  (ts.filter fun t => t.1 / 128 == p).foldl
    (fun a t => a + (fams.getD t.2.family {}).tileW * (fams.getD t.2.family {}).tileH) 0

/-- Q_p of R148: pixels × depth of port p's tiles. -/
def bitsOf (fams : List Family) (ts : List (Nat × Placement)) (p : Nat) : Nat :=
  (ts.filter fun t => t.1 / 128 == p).foldl
    (fun a t => a + (fams.getD t.2.family {}).tileW * (fams.getD t.2.family {}).tileH *
      depthBits (fams.getD t.2.family {}).depth) 0

/-- The port-wide tests 7 to 9 (R21, R148, R24). A_p × F × 1.0005 ≤ 320,000,000 with F = RATE / 100 is
A_p × RATE × 10,005 ≤ 320,000,000 × 1,000,000. -/
def checkPort (s : State) (fams : List Family) (p : Nat) (acc : CheckAcc) : CheckResult :=
  let q := Nat.xor p 1
  if 320000000 * 1000000 < areaOf fams acc.tiles p * s.geomRate * 10005 then .error (7, p, 0)
  else if 38250000000000000 < bitsOf fams acc.tiles p * s.geomRate * 96048 then .error (8, p, 0)
  else if s.setLooped p && (s.setTiles p = 0 || s.setTiles q ≠ 0 || s.setLooped q) then .error (9, p, 0)
  else .ok acc

/-- Every port from p on, n of them (R24). -/
def checkPorts (s : State) (fams : List Family) (w h : Nat) : Nat → Nat → CheckAcc → CheckResult
  | 0, _, acc => .ok acc
  | n + 1, p, acc =>
    match checkTiles s fams w h p (s.setTiles p) 1 acc with
    | .error e => .error e
    | .ok acc =>
      match checkPort s fams p acc with
      | .error e => .error e
      | .ok acc => checkPorts s fams w h n (p + 1) acc

/-- The 16 family descriptors as the check reads them. -/
def checkFamilies (s : State) : List Family := (List.range 16).map (readFamily s s.familyBase)

/-- The whole check in the order of R24. -/
def geomCheck (s : State) : CheckResult :=
  let w := s.f .scanWallSize 15 0
  let h := s.f .scanWallSize 31 16
  if w = 0 then .error (1, 0, 0)
  else if s.capacity < s.familyBase + 2048 then .error (2, 0, 0)
  else if (List.range 32).all (fun p => s.setTiles p == 0) then .error (10, 0, 0)
  else checkPorts s (checkFamilies s) w h 32 0 { tiles := [], rects := [] }

/-! ### The accepted geometry -/

/-- The accepted chain of port p. -/
def State.chain (s : State) (p : Nat) : Chain := Tab.get {} p s.geom.chains
/-- The accepted placement of tile index i. -/
def State.placement (s : State) (i : Nat) : Placement := Tab.get {} i s.geom.tiles
/-- The accepted geometry of the family of tile index i. -/
def State.familyOf (s : State) (i : Nat) : Family := Tab.get {} (s.placement i).family s.geom.families
/-- The rectangle of tile index i. -/
def State.rectOf (s : State) (i : Nat) : Rect :=
  { x := (s.placement i).x, y := (s.placement i).y, w := (s.familyOf i).tileW, h := (s.familyOf i).tileH }
/-- Does tile index i describe a tile of the accepted geometry (R17)? -/
def State.isTile (s : State) (i : Nat) : Bool := decide (i % 128 < (s.chain (i / 128)).tiles)
/-- The tile indices of port p's own chain. -/
def State.chainTiles (s : State) (p : Nat) : List Nat := (List.range (s.chain p).tiles).map fun h => p * 128 + h
/-- Every tile index of the accepted geometry, ascending. -/
def State.allTiles (s : State) : List Nat := (List.range 32).flatMap s.chainTiles
/-- The partner port of port p (R9). -/
def partner (p : Nat) : Nat := Nat.xor p 1
/-- The address of a 64-bit family field at offset o, read in place (R16). -/
def State.familyAddr (s : State) (fam o : Nat) : Nat := s.leIn (s.geom.familyBase + fam * 128 + o) 8
/-- Raw bits of a frame of port p's chain: 3 × Q_p (R148, R244). -/
def State.rawFrame (s : State) (p : Nat) : Nat :=
  3 * (s.chainTiles p).foldl (fun a i => a + (s.familyOf i).tileW * (s.familyOf i).tileH * depthBits (s.familyOf i).depth) 0

/-- A host write to device memory while a check runs makes one more version of the tables (R462). -/
def noteVersion (s : State) : State :=
  if s.geom.busy then { s with geom.versions := s.geom.versions ++ [s.mem] } else s

end Sys2Proof.Machine
end

