-- ==== Sys2Proof/Machine/Link.lean ====
section
/-!
DEFINITION. The Syras packets (R283, R284, R289, R294, R296, R302, R303) as the ports hand them to their transmit
queues (R285), and what the geometry and the splits say of who feeds which hop (R20, R29, R273, R306).
-/

namespace Sys2Proof.Machine

/-- A packet: header, body, CRC-32 (R283). -/
def packetBytes (type hop : Nat) (body : List Nat) : List Nat :=
  let b := [type, hop] ++ leBytes 2 body.length ++ body
  b ++ leBytes 4 (crc32 b)

/-! ### Time of the frame (R155, R113) -/

/-- SCAN_GENLOCK_PERIOD.NOMINAL. -/
def State.nominal (s : State) : Nat := s.f .scanGenlockPeriod 22 0

/-- The period p of R155: the last accepted genlock period, or NOMINAL while no lock has been held. -/
def State.framePeriod (s : State) : Nat := if s.scan.everLocked then s.scan.period.getD s.nominal else s.nominal

/-! ### Which port feeds a hop -/

/-- A FEED port of the accepted geometry has tiles (R250). -/
def State.isFeed (s : State) (p : Nat) : Bool := decide (0 < (s.chain p).tiles)

/-- The role that the accepted geometry gives port p (R250): 0 NONE, 1 FEED, 2 RETURN. -/
def roleOf (s : State) (p : Nat) : Nat :=
  if s.isFeed p then 1 else if (s.chain (partner p)).looped then 2 else 0

/-- The FEED port whose chain port p serves: itself, or its partner for a RETURN port (R20). -/
def State.chainOf (s : State) (p : Nat) : Nat := if s.isFeed p then p else partner p

/-- The port that feeds hop h of FEED port p's chain (R20, R273, R306). -/
def State.feeder (s : State) (p h : Nat) : Nat :=
  if (s.port p).split && decide ((s.port p).splitHop ≤ h) && (s.port p).splitHop ≠ 0 then partner p else p

/-- The port that feeds a tile index. -/
def State.tileFeeder (s : State) (i : Nat) : Nat := s.feeder (i / 128) (i % 128 + 1)

/-- A hop is within reach: its port is UP or HELD, and no cut leaves it on neither feed (R20, R202). -/
def State.reachable (s : State) (i : Nat) : Bool :=
  let q := s.port (s.tileFeeder i)
  (q.state == 2 || q.state == 3) && (s.hop (i / 128) (i % 128 + 1)).present

/-- The tiles that port p feeds, by tile index, ascending. -/
def State.fedTiles (s : State) (p : Nat) : List Nat :=
  (s.chainTiles (s.chainOf p)).filter fun i => s.tileFeeder i == p

/-- The depth bits of a tile. -/
def State.tileDepth (s : State) (i : Nat) : Nat := depthBits (s.familyOf i).depth

/-! ### Packets handed to a port -/

/-- Does a port send packets downlink: every port but a RETURN port in whole operation (R286, R306)? -/
def Port.sends (q : Port) : Bool := !(q.role == 2 && !q.split)

/-- A CLV packet: SEVERITY is the highest since Clove was entered (R302, R388). -/
def sendClv (p : Nat) (s : State) : State :=
  s.modPort p fun q =>
    if q.sends then { q with txSafe := q.txSafe ++ [packetBytes 7 0 [s.faultg.cloveSeverity, 0, 0, 0]] } else q

/-- A DSC packet (R303). -/
def sendDsc (p : Nat) (s : State) : State :=
  s.modPort p fun q => { q with txSafe := if q.sends then q.txSafe ++ [packetBytes 8 0 []] else q.txSafe, dsc := true }

/-- A SYN packet with SHOW and FLAGS (R289). -/
def sendSyn (p shown flags : Nat) (s : State) : State :=
  s.modPort p fun q =>
    if q.sends then
      { q with txSyn := q.txSyn ++ [packetBytes 1 0 (leBytes 4 shown ++ [flags, 0, 0, 0] ++ leBytes 4 s.framePeriod)] }
    else q

/-- An ALR packet to a hop (R292). -/
def sendAlr (p hop : Nat) (body : List Nat) (s : State) : State :=
  s.modPort p fun q => { q with txAlr := q.txAlr ++ [packetBytes 2 hop body] }

/-- A BIS phase packet to a hop (R294). -/
def sendBis (p hop : Nat) (body : List Nat) (s : State) : State :=
  s.modPort p fun q => { q with txCmd := q.txCmd ++ [packetBytes 3 hop body] }

/-- A CMD packet (R296). -/
def sendCmd (p hop tag : Nat) (payload : List Nat) (s : State) : State :=
  s.modPort p fun q => { q with txCmd := q.txCmd ++ [packetBytes 4 hop ([tag, 0] ++ payload)] }

/-- The ports that are UP. -/
def State.upPorts (s : State) : List Nat := (List.range 32).filter fun p => (s.port p).state == 2

/-- Hand the oldest waiting CMD of each hop that has none outstanding to the link (R296). -/
def pumpCmds (p : Nat) (s : State) : State :=
  forEach (List.range (s.port p).cmds.length) (fun i st =>
    match (st.port p).cmds[i]? with
    | some c =>
      if !c.sent && !((st.port p).cmds.any fun d => d.sent && d.hop == c.hop) then
        sendCmd p c.hop c.tag c.payload
          (st.modPort p fun q => { q with cmds := q.cmds.set i { c with sent := true } })
      else st
    | none => st) s

/-- A CMD of the controller's own, TAG 0x80 to 0xFF (R296). -/
def ownCmd (p hop : Nat) (payload : List Nat) (owner : CmdOwner) (s : State) : State :=
  let tag := 0x80 + (s.port p).tagOwn % 128
  pumpCmds p (s.modPort p fun q =>
    { q with tagOwn := (q.tagOwn + 1) % 128, cmds := q.cmds ++ [{ hop := hop, tag := tag, payload := payload, owner := owner }] })

/-- SPARE_SELECT to a tile: colour c, MODE, first frame (R165, R298). -/
def spareSelect (i c mode n0 : Nat) (s : State) : State :=
  ownCmd (s.tileFeeder i) (i % 128 + 1) ([3, c, mode] ++ leBytes 4 n0) .spare s

/-- A CHAIN event of port p (R307): kind, HOP, DEPTH, and word 2. -/
def chainEvent (p kind hop depth word2 : Nat) (s : State) : State :=
  raiseEvent (0x3000 + p) 2 [kind, p + at_ hop 8 + at_ depth 16, word2, 0] s

/-! ### Line actions -/

/-- A line action of a lane, seen from outside. -/
def lineAct (p l action : Nat) (s : State) : State := s.emit (.line p l action)

end Sys2Proof.Machine
end

