-- ==== Sys2Proof/Machine/Symbols.lean ====
section
/-!
DEFINITION. The line code of the lanes (R254 to R256): the 8b/10b tables and running disparity, the bursts and ordered sets,
and what a receiver makes of a group; and the pattern generators and checkers (R275 to R277). A symbol is a byte, plus 256 for
a K-symbol; a group is its ten bits with bit a, the first sent, the most significant.
-/

namespace Sys2Proof.Machine

/-! ### The tables (R254) -/

/-- The abcdei blocks of D0 to D31 for negative running disparity (PRESUMED, log 107: the standard 8b/10b table). -/
def sixTable : List Nat :=
  [0b100111, 0b011101, 0b101101, 0b110001, 0b110101, 0b101001, 0b011001, 0b111000,
   0b111001, 0b100101, 0b010101, 0b110100, 0b001101, 0b101100, 0b011100, 0b010111,
   0b011011, 0b100011, 0b010011, 0b110010, 0b001011, 0b101010, 0b011010, 0b111010,
   0b110011, 0b100110, 0b010110, 0b110110, 0b001110, 0b101110, 0b011110, 0b101011]

/-- The fghj blocks of D.x.0 to D.x.7 for negative running disparity. -/
def fourTable : List Nat := [0b1011, 0b1001, 0b0101, 0b1100, 0b1101, 0b1010, 0b0110, 0b1110]

/-- The fghj blocks of K28.0 to K28.7 for negative running disparity; for positive each is inverted. -/
def fourTableK : List Nat := [0b1011, 0b0110, 0b1010, 0b1100, 0b1101, 0b0101, 0b1001, 0b0111]

/-- The abcdei block of D.x at a running disparity: unbalanced blocks and D7 are inverted where it is positive. -/
def enc6 (rd : Bool) (x : Nat) : Nat :=
  let v := wd sixTable x
  if rd && (ones v 6 != 3 || x == 7) then 63 - v else v

/-- The abcdei block of K28. -/
def enc6K (rd : Bool) : Nat := if rd then 0b110000 else 0b001111

/-- The alternate fghj block of D.x.7 and the K.x.7. -/
def enc4A (rd : Bool) : Nat := if rd then 0b1000 else 0b0111

/-- The fghj block of D.x.y at the running disparity after the abcdei block. -/
def enc4 (rd : Bool) (x y : Nat) : Nat :=
  if y = 7 && (if rd then x == 11 || x == 13 || x == 14 else x == 17 || x == 18 || x == 20) then enc4A rd
  else
    let v := wd fourTable y
    if rd && (ones v 4 != 2 || y == 3) then 15 - v else v

/-- The fghj block of K28.y. -/
def enc4K (rd : Bool) (y : Nat) : Nat := if rd then 15 - wd fourTableK y else wd fourTableK y

/-- Running disparity after an abcdei block. -/
def rdAfter6 (rd : Bool) (v : Nat) : Bool :=
  if 3 < ones v 6 || v == 0b000111 then true else if ones v 6 < 3 || v == 0b111000 then false else rd

/-- Running disparity after an fghj block. -/
def rdAfter4 (rd : Bool) (v : Nat) : Bool :=
  if 2 < ones v 4 || v == 0b0011 then true else if ones v 4 < 2 || v == 0b1100 then false else rd

/-- Running disparity after a group. -/
def rdAfter (rd : Bool) (g : Nat) : Bool := rdAfter4 (rdAfter6 rd (g / 16)) (g % 16)

/-- The group of a symbol at a running disparity (R254). -/
def encodeGroup (rd : Bool) (sym : Nat) : Nat :=
  let x := sym % 32
  let y := sym / 32 % 8
  if sym < 256 then
    let six := enc6 rd x
    six * 16 + enc4 (rdAfter6 rd six) x y
  else if x = 28 then enc6K rd * 16 + enc4K (rdAfter6 rd (enc6K rd)) y
  else enc6 rd x * 16 + enc4A (rdAfter6 rd (enc6 rd x))

/-- The groups of symbols, from a running disparity on, and the one that they leave. -/
def encodeGroups : Bool → List Nat → List Nat × Bool
  | rd, [] => ([], rd)
  | rd, x :: l =>
    let g := encodeGroup rd x
    let r := encodeGroups (rdAfter rd g) l
    (g :: r.1, r.2)

/-- The symbol that a group of one disparity column stands for; the K-symbols that R255 does not assign are none. -/
def decodeIn (rd : Bool) (g : Nat) : Option Nat :=
  let six := g / 16
  let four := g % 16
  let rd' := rdAfter6 rd six
  if six = enc6K rd then ((List.range 7).find? fun y => enc4K rd' y == four).map fun y => 256 + 32 * y + 28
  else
    match (List.range 32).find? fun x => enc6 rd x == six with
    | none => none
    | some x =>
      match (List.range 8).find? fun y => enc4 rd' x y == four with
      | some y => some (32 * y + x)
      | none => if x = 23 && four = enc4A rd' then some (256 + 0xF7) else none

/-- What a receiver counts a group as (R254): its symbol; its symbol plus 1,024 for a disparity error; 512 for a code
violation. With it, the running disparity that follows: after a disparity error it is the group's own, and after a code
violation that of its two blocks (PRESUMED, log 107). -/
def receiveGroup (rd : Bool) (g : Nat) : Nat × Bool :=
  match decodeIn rd g with
  | some x => (x, rdAfter rd g)
  | none =>
    match decodeIn (!rd) g with
    | some x => (x + 1024, rdAfter (!rd) g)
    | none => (512, rdAfter rd g)

/-- A comma: the seven-bit pattern that K28.1 and K28.5 begin with, and no other sequence of groups holds
(DEDUCED, log 108). -/
def isComma (g : Nat) : Bool := g / 8 == 0b0011111 || g / 8 == 0b1100000

/-! ### Assigned symbols, bursts and ordered sets (R255, R256, R266, R267, R273, R276) -/

/-- K28.5, COM. -/
def symCom : Nat := 256 + 0xBC
/-- K28.1, LFS. -/
def symLfs : Nat := 256 + 0x3C
/-- K28.2, BEND. -/
def symBend : Nat := 256 + 0x5C
/-- K28.3, LEI. -/
def symLei : Nat := 256 + 0x7C
/-- K23.7, PEI. -/
def symPei : Nat := 256 + 0xF7
/-- K28.6, PRB. -/
def symPrb : Nat := 256 + 0xDC
/-- K28.4, ALM. -/
def symAlm : Nat := 256 + 0x9C
/-- K28.0, REV. -/
def symRev : Nat := 256 + 0x1C
/-- D10.2. -/
def symD102 : Nat := 0x4A
/-- D21.5. -/
def symD215 : Nat := 0xB5

/-- The four symbols that idle repeats (R256). -/
def idleSymbols : List Nat := [symCom, symD215, symCom, symD102]

/-- A training burst of n symbols (R256). -/
def burst (n : Nat) : List Nat :=
  ((List.range (n - 4)).map fun k => if k % 2 = 0 then symCom else symD102) ++ List.replicate 4 symBend

/-- A lane sends symbols: its running disparity goes on (R254). -/
def sendSymbols (p l : Nat) (syms : List Nat) (s : State) : State :=
  let r := encodeGroups (s.lane p l).txRd syms
  (s.modLane p l fun x => { x with txRd := r.2 }).emit (.symbols p l syms r.1)

/-- A lane begins to send idle (R256). -/
def sendIdle (p l : Nat) (s : State) : State :=
  s.emit (.idle p l idleSymbols (encodeGroups (s.lane p l).txRd idleSymbols).1)

/-! ### Receiving (R257, R260, R269, R279) -/

/-- What a lane passes on. -/
inductive RxOut where
  /-- The 256 symbols of a link frame, as received. -/
  | frame (syms : List Nat)
  /-- A valid lane alarm: HOP and MASK. -/
  | alarm (hop mask : Nat)
  /-- The lane has been lost under case 3 of R257. -/
  | lost
  deriving DecidableEq, Repr

/-- The places of the last errors meet case 3 of R257: more than 64 in 65,536 consecutive symbols. -/
def Lane.worn (x : Lane) : Bool := x.errs.length == 65 && decide (x.pos < wd x.errs 64 + 65536)

/-- An aligned lane has met a condition of R257 for losing its alignment: 4 errors in 16 consecutive symbols, or 512 with no
comma. -/
def Lane.slips (x : Lane) : Bool := (decide (4 ≤ x.errs.length) && decide (x.pos < wd x.errs 3 + 16)) || decide (512 ≤ x.since)

/-- A symbol of an aligned lane, ordered sets taken out (R260): within a lane alarm, within a link frame, or between frames,
where only an LFS counts (DESIGN CHOICE, log 59). -/
def Lane.symbol (x : Lane) (m : Nat) : Lane × List RxOut :=
  match x.alarm with
  | some l =>
    if l.length < 2 then ({ x with alarm := some (m :: l) }, [])
    else
      let hop := wd l 1
      let mask := wd l 0
      ({ x with alarm := none },
       if hop < 256 && mask < 256 && m == Nat.xor (Nat.xor hop mask) 0xFF then [.alarm hop mask] else [])
  | none =>
    if m = symAlm then ({ x with alarm := some [] }, [])
    else if x.frame.isEmpty then (if m = symLfs then { x with frame := [m] } else x, [])
    else if x.frame.length < 255 then ({ x with frame := m :: x.frame }, [])
    else ({ x with frame := [] }, [.frame (m :: x.frame).reverse])

/-- One group arrives on a lane: while the lane is aligned it is counted, may cost the alignment or the lane, and goes to the
frame in progress (R254, R257, R260, R279). -/
def Lane.group (x : Lane) (g : Nat) : Lane × List RxOut :=
  if !x.aligned then (x, [])
  else
    let (m, rd) := receiveGroup x.rxRd g
    let bad := decide (512 ≤ m)
    let x := { x with
      rxRd := rd, pos := x.pos + 1, since := if isComma g then 0 else x.since + 1, cv := add32 x.cv (b2n (m == 512))
      disp := add32 x.disp (b2n (decide (1024 ≤ m))), errs := if bad then (x.pos :: x.errs).take 65 else x.errs }
    if bad && x.worn then ({ x with frame := [], alarm := none }, [.lost])
    else if x.slips then
      ({ x with aligned := false, lostAlign := true, frame := [], alarm := none, state := if x.state = 2 then 1 else x.state }, [])
    else x.symbol m

/-- Groups arrive on a lane, in order. -/
def Lane.groups : List Nat → Lane → Lane × List RxOut
  | [], x => (x, [])
  | g :: l, x =>
    let (x, a) := x.group g
    let (x, b) := Lane.groups l x
    (x, a ++ b)

/-- The groups, taken at one bit position, align a lane: within 64 symbols 8 commas, with no code violation between them
(R257). -/
def aligns (gs : List Nat) : Bool :=
  let ok := fun (l : List Nat) =>
    match l.findIdx? isComma with
    | none => false
    | some a =>
      let b := l.length - 1 - (l.reverse.findIdx? isComma).getD 0
      let m := (l.drop a).take (b + 1 - a)
      8 ≤ (m.filter isComma).length &&
        m.all fun g => (decodeIn false g).isSome || (decodeIn true g).isSome
  decide (gs.length ≤ 64) && ok gs

/-- A lane aligns on groups that meet `aligns`: its counts of R257 start again, and its running disparity is that of the last
group received. -/
def Lane.align (gs : List Nat) (x : Lane) : Lane :=
  { x with aligned := true, lostAlign := false, pos := 0, since := 0, errs := [], frame := [], alarm := none
           rxRd := gs.foldl (fun rd g => (receiveGroup rd g).2) x.rxRd }

/-! ### Patterns (R275 to R277) -/

/-- The degree of a PATTERN's polynomial. -/
def prbsDegree (pattern : Nat) : Nat := [7, 15, 23, 31].getD pattern 7

/-- The other tap of a PATTERN's polynomial. -/
def prbsTap (pattern : Nat) : Nat := [6, 14, 18, 28].getD pattern 6

/-- The next bit of a register of a PATTERN, its newest bit lowest. -/
def prbsNext (pattern reg : Nat) : Bool := bit reg (prbsDegree pattern - 1) != bit reg (prbsTap pattern - 1)

/-- A register with one more bit shifted in. -/
def prbsShift (pattern reg : Nat) (b : Bool) : Nat := (2 * reg + b2n b) % 2 ^ prbsDegree pattern

/-- A PATTERN is sent inverted: all but PRBS7. -/
def prbsInverts (pattern : Nat) : Bool := pattern != 0

/-- The next n line bits of a generator, and its register after them (R275). -/
def prbsBits (pattern : Nat) : Nat → Nat → List Bool × Nat
  | 0, reg => ([], reg)
  | n + 1, reg =>
    let b := prbsNext pattern reg
    let r := prbsBits pattern n (prbsShift pattern reg b)
    ((b != prbsInverts pattern) :: r.1, r.2)

/-- One received line bit at a lane's checker (R277): it loads its register, then predicts; 64 correct predictions in a row set
SYNC, and the reference then runs free; 16 wrong bits of 64 clear SYNC and start it again (DEDUCED, log 109). -/
def Lane.checkBit (pattern : Nat) (x : Lane) (line : Bool) : Lane :=
  let c := x.checker
  let b := line != prbsInverts pattern
  let next := prbsNext pattern c.reg
  if x.sync then
    let wrong := b != next
    let recent := (2 * c.recent + b2n wrong) % 2 ^ 64
    let x := { x with prbsErr := add32 x.prbsErr (b2n wrong),
                      checker := { c with reg := prbsShift pattern c.reg next, recent := recent } }
    if 16 ≤ ones recent 64 then { x with sync := false, syncLosses := (x.syncLosses + 1) % 256, checker := {} } else x
  else if c.got < prbsDegree pattern then
    { x with checker := { c with reg := prbsShift pattern c.reg b, got := c.got + 1 } }
  else
    let right := if b = next then c.right + 1 else 0
    { x with sync := decide (64 ≤ right),
             checker := { c with reg := prbsShift pattern c.reg b, right := right, recent := 0 } }

/-- The ten bits of a group, bit a first. -/
def groupBits (g : Nat) : List Bool := (List.range 10).map fun k => bit g (9 - k)

/-- PATTERN of lane position l of port p. -/
def State.pattern (s : State) (p l : Nat) : Nat := s.f (.lanePrbsCtl p l) 3 2

/-- The generator of lane l of port p runs. -/
def State.generates (s : State) (p l : Nat) : Bool := s.b (.lanePrbsCtl p l) 0

/-- The checker of lane l of port p runs. -/
def State.checks (s : State) (p l : Nat) : Bool := s.b (.lanePrbsCtl p l) 1

/-- Port p is in TEST with LOOPBACK: each lane's transmitter is joined to its own receiver (R276). -/
def State.loops (s : State) (p : Nat) : Bool := (s.port p).state == 4 && s.b (.portCtl p) 2

/-- The checker of a lane takes line bits, if it runs (R277). -/
def checkBits (p l : Nat) (bits : List Bool) (s : State) : State :=
  if s.checks p l then s.modLane p l fun x => bits.foldl (Lane.checkBit (s.pattern p l)) x else s

/-- The generator of a lane sends its next n bits, the first inverted by an injection if `flip` is set; under LOOPBACK the
lane's own checker takes them (R275, R276, R278). -/
def sendPattern (p l n : Nat) (flip : Bool) (s : State) : State :=
  let r := prbsBits (s.pattern p l) n (s.lane p l).gen
  let bits := match r.1 with
    | b :: rest => (b != flip) :: rest
    | [] => []
  let s := (s.modLane p l fun x => { x with gen := r.2 }).emit (.prbs p l bits)
  if s.loops p then checkBits p l bits s else s

end Sys2Proof.Machine
end

