-- ==== Sys2Proof/Machine/Codec.lean ====
section
/-!
DEFINITION. The link codec (R227 to R248): residuals, tokens and matches, the choice of coded or raw, the layout in
the windows of link frames, stream mode for the stress checkpoints, and what the contexts count.
-/

namespace Sys2Proof.Machine

/-! ### Blocks as code words -/

/-- A code word: its reservation (R238), its width and its value, most significant bit first (R234). -/
structure CodeWord where
  reserve : Nat
  width : Nat
  value : Nat
  deriving DecidableEq, Repr

/-- The bits of a value, most significant first (R234). -/
def bitsOfNat : Nat → Nat → List Bool
  | 0, _ => []
  | w + 1, v => bit v w :: bitsOfNat w v

/-- The prediction of R230 from the left and upper neighbours. -/
def predict (a b : Option Nat) (depth : Nat) : Nat :=
  match a, b with
  | some a, some b => (a + b) / 2
  | some a, none => a
  | none, some b => b
  | none, none => 2 ^ (depth - 1)

/-- The mapped residual m of component x against pred at B bits (R230). -/
def residual (x pred depth : Nat) : Nat :=
  let half := 2 ^ (depth - 1)
  let r : Int := (((x : Int) - pred + half) % (2 ^ depth : Nat)) - half
  if 0 ≤ r then (2 * r).toNat else (-2 * r - 1).toNat

/-- The component that a mapped residual stands for (R230). -/
def unresidual (m pred depth : Nat) : Nat :=
  let r : Int := if m % 2 = 0 then (m / 2 : Nat) else -(((m + 1) / 2 : Nat) : Int)
  (((pred : Int) + r) % (2 ^ depth : Nat)).toNat

/-- The residual code of m at B bits: width and value (R231). -/
def residualCode (m depth : Nat) : Nat × Nat :=
  if 510 < m then (5 + depth, 31 * 2 ^ depth + m)
  else
    let c := (m + 1).log2
    let (pw, pv) := match c with
      | 0 => (2, 0) | 1 => (2, 1) | 2 => (3, 4) | 3 => (3, 5) | 4 => (4, 12) | 5 => (4, 13) | 6 => (5, 28)
      | 7 => (5, 29) | _ => (5, 30)
    (pw + c, pv * 2 ^ c + (m - (2 ^ c - 1)))

/-- Component c of pixel i of a flat list of pixels. -/
def comp (l : List Nat) (i c : Nat) : Nat := l.getD (3 * i + c) 0

/-- The number of pixels of a block. -/
def Block.count (b : Block) : Nat := b.codes.length / 3

/-- The raw bits of a block (R229). -/
def Block.raw (b : Block) : Nat := 3 * b.depth * b.count

/-- The longest match at pixel i of the block with the row above at column u + o, up to `fuel` pixels (R233). -/
def matchRun (b : Block) (i src : Nat) : Nat → Nat
  | 0 => 0
  | f + 1 =>
    if i < b.count ∧ src < b.width ∧ (List.range 3).all (fun c => comp b.codes i c == comp b.prev src c) then
      1 + matchRun b (i + 1) (src + 1) f
    else 0

/-- The offsets in the order of R236. -/
def matchOffsets : List Int :=
  0 :: ((List.range 15).flatMap fun k : Nat => [-((k : Int) + 1), (k : Int) + 1]) ++ [-16]

/-- The match that the encoder takes at pixel i: length and offset, the first longest (R236). -/
def bestMatch (b : Block) (i : Nat) : Nat × Int :=
  matchOffsets.foldl (fun best o =>
    let src : Int := (b.col : Int) + i + o
    if src < 0 then best
    else
      let l := matchRun b i src.toNat 64
      if best.1 < l then (l, o) else best) (0, 0)

/-- The code words of the pixel token of pixel i (R232). -/
def pixelToken (b : Block) (i : Nat) : List CodeWord :=
  (List.range 3).map fun c =>
    let left := if i = 0 then none else some (comp b.codes (i - 1) c)
    let up := if b.row = 0 then none else some (comp b.prev (b.col + i) c)
    let (w, v) := residualCode (residual (comp b.codes i c) (predict left up b.depth) b.depth) b.depth
    if c = 0 then { reserve := 6 + b.depth, width := 1 + w, value := v }
    else { reserve := 5 + b.depth, width := w, value := v }

/-- The tokens of a block from pixel i on, as code words (R236). -/
def tokensFrom (b : Block) (noMatch : Bool) : Nat → Nat → List CodeWord
  | 0, _ => []
  | f + 1, i =>
    if b.count ≤ i then []
    else
      let (l, o) := if noMatch || b.row = 0 then (0, 0) else bestMatch b i
      if 2 ≤ l then
        { reserve := 6 + b.depth, width := 12, value := 2048 + (l - 2) * 32 + unsigned o 5 } ::
          tokensFrom b noMatch f (i + l)
      else pixelToken b i ++ tokensFrom b noMatch f (i + 1)

/-- The tokens of a block. -/
def Block.tokens (b : Block) (noMatch : Bool) : List CodeWord := tokensFrom b noMatch (b.count + 1) 0

/-- The bits that code words take with no padding. -/
def tokenBits (ws : List CodeWord) : Nat := ws.foldl (fun a w => a + w.width) 0

/-- The measure of a closed block not yet laid out, and whether it counts as coded (R244, R248). -/
def Block.measure (b : Block) (noMatch : Bool) : Nat × Bool :=
  let t := tokenBits (b.tokens noMatch) + 64
  if t ≤ b.raw then (t, true) else (b.raw, false)

/-- The header of a block (R229). -/
def Block.header (b : Block) (raw : Bool) (len : Nat) : Nat :=
  b2n raw + at_ ((b.hop - 1) % 128) 1 + at_ (b.count - 1) 8 + at_ len 16 + at_ (b2n b.last) 31

/-- The raw bits of a block, in order. -/
def Block.rawBitList (b : Block) : List Bool := b.codes.flatMap (bitsOfNat b.depth)

/-! ### Stream mode (R228, R169) -/

/-- A block in stream mode: inline header and span, with no padding. -/
def streamBlock (b : Block) : List Bool :=
  let ws := b.tokens false
  if tokenBits ws + 64 ≤ b.raw then
    bitsOfNat 32 ({ b with hop := 1 }.header false (tokenBits ws)) ++ ws.flatMap fun w => bitsOfNat w.width w.value
  else bitsOfNat 32 ({ b with hop := 1 }.header true b.raw) ++ b.rawBitList

/-- A row of 32-bit pixels in stream mode: blocks of 256 pixels, one closed at the row end. -/
def streamRow (w v : Nat) (prev row : List Nat) : List Bool :=
  (List.range (divUp w 256)).flatMap fun k =>
    streamBlock { hop := 1, tile := 0, width := w, row := v, col := 256 * k, depth := 32, frame := 0,
                  codes := (row.drop (768 * k)).take 768, prev := prev, last := decide (w ≤ 256 * (k + 1)) }

/-- The rows of a tile in stream mode. -/
def streamRows (w : Nat) : Nat → List Nat → List (List Nat) → List Bool
  | _, _, [] => []
  | v, prev, r :: rs => streamRow w v prev r ++ streamRows w (v + 1) r rs

/-- Bits to bytes, bit 7 first, the last byte filled with 0 (R234). -/
def bytesOfBits : List Bool → List Nat
  | [] => []
  | a :: b :: c :: d :: e :: f :: g :: h :: r =>
    (b2n a * 128 + b2n b * 64 + b2n c * 32 + b2n d * 16 + b2n e * 8 + b2n f * 4 + b2n g * 2 + b2n h) :: bytesOfBits r
  | l => [((l ++ List.replicate 8 false).take 8).foldl (fun n x => 2 * n + b2n x) 0]

/-- Bytes to bits. -/
def bitsOfBytes (l : List Nat) : List Bool := l.flatMap (bitsOfNat 8)

/-- Read w bits from the front of a bit list. -/
def readBits (w : Nat) (l : List Bool) : Option (Nat × List Bool) :=
  if l.length < w then none else some ((l.take w).foldl (fun n x => 2 * n + b2n x) 0, l.drop w)

/-- Read a residual code at B bits (R231). -/
def readResidual (depth : Nat) (l : List Bool) : Option (Nat × List Bool) :=
  match l with
  | false :: false :: r => some (0, r)
  | false :: true :: r => (readBits 1 r).map fun x => (x.1 + 1, x.2)
  | true :: false :: false :: r => (readBits 2 r).map fun x => (x.1 + 3, x.2)
  | true :: false :: true :: r => (readBits 3 r).map fun x => (x.1 + 7, x.2)
  | true :: true :: false :: false :: r => (readBits 4 r).map fun x => (x.1 + 15, x.2)
  | true :: true :: false :: true :: r => (readBits 5 r).map fun x => (x.1 + 31, x.2)
  | true :: true :: true :: false :: false :: r => (readBits 6 r).map fun x => (x.1 + 63, x.2)
  | true :: true :: true :: false :: true :: r => (readBits 7 r).map fun x => (x.1 + 127, x.2)
  | true :: true :: true :: true :: false :: r => (readBits 8 r).map fun x => (x.1 + 255, x.2)
  | true :: true :: true :: true :: true :: r => readBits depth r
  | _ => none

/-- Decode the tokens of a coded block of n pixels that starts at column col, given the pixels decoded so far of the
block (flat); the whole span must be used (R230 to R233, R243). -/
def decodeTokens (w v col n : Nat) (prev : List Nat) : Nat → List Nat → List Bool → Option (List Nat)
  | 0, _, _ => none
  | f + 1, acc, bits =>
    let i := acc.length / 3
    if n ≤ i then (if bits.isEmpty && i = n then some acc else none)
    else
      match bits with
      | [] => none
      | true :: r =>
        match readBits 11 r with
        | none => none
        | some (x, r) =>
          let l := x / 32 + 2
          let src : Int := (col : Int) + i + signed (x % 32) 5
          if v = 0 || src < 0 || (w : Int) < src + l || n < i + l then none
          else decodeTokens w v col n prev f (acc ++ (prev.drop (3 * src.toNat)).take (3 * l)) r
      | false :: r =>
        let one := fun (st : Option (List Nat × List Bool)) (c : Nat) =>
          match st with
          | none => none
          | some (px, r) =>
            (readResidual 32 r).map fun m =>
              let left := if i = 0 then none else some (comp acc (i - 1) c)
              let up := if v = 0 then none else some (comp prev (col + i) c)
              (px ++ [unresidual m.1 (predict left up 32) 32], m.2)
        match (List.range 3).foldl one (some ([], r)) with
        | none => none
        | some (px, r) => decodeTokens w v col n prev f (acc ++ px) r

/-- Read n 32-bit raw components. -/
def readRaw : Nat → List Bool → Option (List Nat)
  | 0, [] => some []
  | 0, _ => none
  | n + 1, l => match readBits 32 l with
    | none => none
    | some (x, r) => (readRaw n r).map (x :: ·)

/-- Decode one row of a tile in stream mode: the row's pixels and the bits left (R243's conditions are errors). -/
def decodeRow (w v : Nat) (prev : List Nat) : Nat → List Nat → List Bool → Option (List Nat × List Bool)
  | 0, _, _ => none
  | f + 1, acc, bits =>
    let col := acc.length / 3
    if w ≤ col then some (acc, bits)
    else
      match readBits 32 bits with
      | none => none
      | some (h, r) =>
        let n := fld h 15 8 + 1
        let len := fld h 30 16
        if w < col + n || bit h 31 != decide (col + n = w) || fld h 7 1 ≠ 0 || r.length < len then none
        else
          let px := if bit h 0 then (if len = 96 * n then readRaw (3 * n) (r.take len) else none)
                    else decodeTokens w v col n prev (n + 1) [] (r.take len)
          match px with
          | none => none
          | some px => decodeRow w v prev f (acc ++ px) (r.drop len)

/-- Decode the rows of a tile; none for any error. -/
def decodeRows (w : Nat) : Nat → Nat → List Nat → List Bool → Option (List (List Nat))
  | 0, _, _, _ => some []
  | h + 1, v, prev, bits =>
    match decodeRow w v prev (w + 1) [] bits with
    | none => none
    | some (row, r) => (decodeRows w h (v + 1) row r).map (row :: ·)

/-! ### Contexts and ports -/

/-- The pipe that serves port p (R10, R394). -/
def State.pipeOf (s : State) (p : Nat) : Nat :=
  let k := wd (s.span (p / 4)).slots (p % 4)
  if k = 4 then 32 + p / 4 else 4 * (p / 4) + k

/-- The span that holds pipe i. -/
def pipeSpan (i : Nat) : Nat := if i < 32 then i / 4 else i - 32

/-- The slot of pipe i in its span. -/
def pipeSlot (i : Nat) : Nat := if i < 32 then i % 4 else 4

/-- The port that pipe i serves, if it serves one (R10, R20). -/
def State.portOf (s : State) (i : Nat) : Option Nat :=
  ((List.range 4).map fun j => 4 * pipeSpan i + j).find? fun p => s.pipeOf p == i

/-- Has pipe i failed? -/
def State.pipeBad (s : State) (i : Nat) : Bool := bit (s.span (pipeSpan i)).pipeFailed (pipeSlot i)

/-- CODEC_CTL.NO_MATCH as in force. -/
def Codec.noMatch (c : Codec) : Bool := bit c.ctl 1

/-- The bits of closed blocks that port p has yet to send (R248's BACKLOG, in bits). -/
def backlogBits (s : State) (p : Nat) : Nat :=
  let c := s.codec (s.pipeOf p)
  (s.port p).frames.foldl (fun a f => a + f.bits.length) 0 +
    c.closed.foldl (fun a b => a + (b.measure c.noMatch).1) 0

/-- Close the open block of a context, if there is one (R227, R241) (DEDUCED, log 58). -/
def closeBlock (i : Nat) (last : Bool) (s : State) : State :=
  match (s.codec i).open_ with
  | none => s
  | some b => s.modCodec i fun c =>
      { c with open_ := none, closed := c.closed ++ [{ b with last := last }], raw := c.raw + b.raw }

/-- One pixel enters the encoder: its tile, local row and column, and codes (R227, R287). -/
def pushPixel (i tile row col : Nat) (codes : List Nat) (s : State) : State :=
  let w := (s.familyOf tile).tileW
  let c := s.codec i
  let b : Block := match c.open_ with
    | some b => { b with codes := b.codes ++ codes }
    | none => { hop := tile % 128 + 1, tile := tile, width := w, row := row, col := col, depth := s.tileDepth tile,
                frame := (s.pipe i).frame, codes := codes,
                prev := if row = 0 then [] else Tab.get [] tile c.rows }
  let full := (if col = 0 then [] else c.row) ++ codes
  let last := decide (col + 1 = w)
  let s := s.modCodec i fun c =>
    { c with open_ := some b, row := full, rows := if last then Tab.put [] tile full c.rows else c.rows }
  if last then closeBlock i true s else if b.count = 256 then closeBlock i false s else s

/-- A context begins the open frame afresh. -/
def Codec.newFrame (c : Codec) : Codec :=
  { c with laid := 0, raw := 0, nCoded := 0, nRaw := 0, abandoned := false, rows := [], row := [] }

/-- S of the open frame (R244). -/
def frameBits (c : Codec) (frame : Nat) : Nat :=
  c.laid + (c.closed.filter (·.frame == frame)).foldl (fun a b => a + (b.measure c.noMatch).1) 0

/-- The statistics of the frame that a latch point closes (R244, R248). -/
def closeFrameStats (i : Nat) (s : State) : State :=
  let c := s.codec i
  let waiting := (c.closed.filter (·.frame == (s.pipe i).frame)).map fun b => (b.measure c.noMatch).2
  s.modCodec i fun c => { c with
    frameBits := min (frameBits c (s.pipe i).frame) 0xFFFFFFFF
    rawBits := min c.raw 0xFFFFFFFF
    blocksCoded := min (c.nCoded + (waiting.filter id).length) 0xFFFF
    blocksRaw := min (c.nRaw + (waiting.filter (!·)).length) 0xFFFF }

/-- C1 of R244 for a period p. -/
def oneLane (p : Nat) : Nat := p * 3825 / 64

/-! ### Filling link frames (R285, R460, R237 to R239) -/

/-- What a packet area takes from the queues, in the order of R285. `bytes` so far, FPTR. -/
structure Area where
  bytes : List Nat
  fptr : Nat
  port : Port
  deriving DecidableEq, Repr

/-- Put one packet into an area; what does not fit goes on in the next frame. -/
def Area.add (a : Area) (pkt : List Nat) : Area :=
  let room := 240 - a.bytes.length
  { bytes := a.bytes ++ pkt.take room, fptr := if a.fptr = 0xFF then a.bytes.length else a.fptr,
    port := { a.port with txRest := pkt.drop room } }

/-- Take packets from the four queues while room is left. `blocks`: closed blocks wait, so BIS and CMD packets spend
credit (R285). -/
def Area.fill (blocks : Bool) : Nat → Area → Area
  | 0, a => a
  | f + 1, a =>
    if 240 ≤ a.bytes.length then a
    else
      match a.port.txSafe, a.port.txAlr, a.port.txSyn, a.port.txCmd with
      | x :: r, _, _, _ => Area.fill blocks f ({ a with port := { a.port with txSafe := r } }.add x)
      | [], x :: r, _, _ => Area.fill blocks f ({ a with port := { a.port with txAlr := r } }.add x)
      | [], [], x :: r, _ => Area.fill blocks f ({ a with port := { a.port with txSyn := r } }.add x)
      | [], [], [], x :: r =>
        if !blocks then Area.fill blocks f ({ a with port := { a.port with txCmd := r } }.add x)
        else if x.length ≤ a.port.credit then
          Area.fill blocks f ({ a with port := { a.port with txCmd := r, credit := a.port.credit - x.length } }.add x)
        else a
      | [], [], [], [] => a

/-- Fix the packet area and the window capacity of one more link frame (R460). -/
def fixFrame (blocks : Bool) (q : Port) : Port :=
  let a := Area.fill blocks 250 { bytes := q.txRest.take 240, fptr := 0xFF, port := { q with txRest := q.txRest.drop 240 } }
  let waits := fun (b : List Nat × Nat × Nat) =>
    a.port.txCmd.contains b.1 || (!a.port.txRest.isEmpty && a.port.txRest.isSuffixOf b.1)
  { a.port with
    bcasts := a.port.bcasts.filter waits
    frames := a.port.frames ++ [{ packets := a.bytes, fptr := a.fptr, cap := (240 - a.bytes.length) * 8,
                                  ends := (a.port.bcasts.filter fun b => !waits b).map (·.2) }] }

/-- A writing position: windows finished since the start, the current window's bits and room, later windows' rooms. -/
structure Pos where
  full : List (List Bool)
  cur : List Bool
  room : Nat
  rooms : List Nat
  deriving DecidableEq, Repr

/-- Every window from the start. -/
def Pos.windows (p : Pos) : List (List Bool) := p.full ++ [p.cur]

/-- Bits written. -/
def Pos.size (p : Pos) : Nat := p.windows.foldl (fun a w => a + w.length) 0

/-- Go on to the first window with n bits left, padding with 0 up to it (R238); none when the windows end
(DEDUCED, log 80). -/
def seekRoom (n : Nat) : List Nat → List (List Bool) → List Bool → Nat → Option Pos
  | [], full, cur, room => if cur.length + n ≤ room then some ⟨full, cur, room, []⟩ else none
  | r :: rs, full, cur, room =>
    if cur.length + n ≤ room then some ⟨full, cur, room, r :: rs⟩
    else seekRoom n rs (full ++ [cur ++ List.replicate (room - cur.length) false]) [] r

/-- Write code words (R238). -/
def placeWords : List CodeWord → Pos → Option Pos
  | [], p => some p
  | w :: ws, p =>
    match seekRoom w.reserve p.rooms p.full p.cur p.room with
    | none => none
    | some p => placeWords ws { p with cur := p.cur ++ bitsOfNat w.width w.value }

/-- Write raw bits across window ends (R238). -/
def placeRaw (bits : List Bool) : List Nat → List (List Bool) → List Bool → Nat → Option Pos
  | [], full, cur, room =>
    if cur.length + bits.length ≤ room then some ⟨full, cur ++ bits, room, []⟩ else none
  | r :: rs, full, cur, room =>
    if cur.length + bits.length ≤ room then some ⟨full, cur ++ bits, room, r :: rs⟩
    else placeRaw (bits.drop (room - cur.length)) rs (full ++ [cur ++ bits.take (room - cur.length)]) [] r

/-- Bytes of packets that wait: no more link frames than that can be filled with packets alone. -/
def Port.queued (q : Port) : Nat :=
  q.txRest.length + ((q.txSafe ++ q.txAlr ++ q.txSyn ++ q.txCmd).map List.length).sum

/-- Lay a block out both ways from the front frame's write position; further frames are fixed until both forms fit
(R235, R460). `head`: bits of an inline header. -/
def layBoth (b : Block) (noMatch : Bool) (head : Nat) : Nat → Port → Option (Pos × Pos × Port)
  | 0, _ => none
  | k + 1, q =>
    match q.frames with
    | [] => none
    | f :: fs =>
      let start : Pos := ⟨[], f.bits ++ List.replicate head false, f.cap, fs.map (·.cap)⟩
      match placeWords (b.tokens noMatch) start, placeRaw b.rawBitList start.rooms [] start.cur start.room with
      | some c, some r => some (c, r, q)
      | _, _ => layBoth b noMatch head k (fixFrame true q)

/-- Store the windows of a laid-out block in the frames they belong to. -/
def storeWindows (frame : Nat) : List (List Bool) → List LinkFrame → List LinkFrame
  | [], fs => fs
  | _, [] => []
  | w :: ws, f :: fs => { f with bits := w, frame := if w.isEmpty then f.frame else some frame } :: storeWindows frame ws fs

/-- Overwrite 32 bits at place n with a header. -/
def patchHeader (n h : Nat) (bits : List Bool) : List Bool := bits.take n ++ bitsOfNat 32 h ++ bits.drop (n + 32)

/-- Start blocks in the front frame's window while closed blocks of its frame wait (R237, R239, R287). -/
def fillWindow (forceRaw noMatch : Bool) (openFrame : Nat) : Nat → Port → Codec → Port × Codec
  | 0, q, c => (q, c)
  | k + 1, q, c =>
    match q.frames, c.closed with
    | f :: fs, b :: rest =>
      if f.cap ≤ f.bits.length || (f.frame.isSome && f.frame != some b.frame) then (q, c)
      else
        let inline := decide (2 ≤ f.starts)
        let mine := fun n => if b.frame = openFrame then c.laid + n else c.laid
        if inline && decide (f.cap < f.bits.length + 32) then
          ({ q with frames := { f with bits := f.bits ++ List.replicate (f.cap - f.bits.length) false } :: fs },
           { c with laid := mine (f.cap - f.bits.length) })
        else
          let head := if inline then 32 else 0
          match layBoth b noMatch head (64 + q.queued) q with
          | none => (q, c)
          | some (pc, pr, q) =>
            let from_ := f.bits.length + head
            let coded := !forceRaw && decide (pc.size - from_ + 64 ≤ b.raw)
            let p := if coded then pc else pr
            let len := p.size - from_
            let h := b.header (!coded) len
            let frames := storeWindows b.frame p.windows q.frames
            let frames := match frames with
              | [] => []
              | g :: gs => { g with starts := g.starts + 1,
                                    bits := if inline then patchHeader f.bits.length h g.bits else g.bits,
                                    headers := if inline then g.headers else g.headers ++ [h],
                                    frame := some b.frame } :: gs
            fillWindow forceRaw noMatch openFrame k { q with frames := frames }
              { c with closed := rest, laid := mine (head + len),
                       nCoded := c.nCoded + b2n (coded && b.frame == openFrame),
                       nRaw := c.nRaw + b2n (!coded && b.frame == openFrame) }
    | _, _ => (q, c)

/-- The 256 symbols of a link frame: symbols 1 to 253, and FCRC (R281). A K-symbol is its byte plus 256. -/
def frameSymbols (fseq : Nat) (f : LinkFrame) : List Nat :=
  let window := bytesOfBits f.bits
  let area := (f.packets ++ List.replicate 240 0).take (240 - window.length)
  let pframe := if f.bits.isEmpty then 0 else (f.frame.getD 0) % 256
  let body := [fseq % 256, f.fptr, pframe] ++ leBytes 2 f.bits.length ++ leBytes 4 (wd f.headers 0) ++
    leBytes 4 (wd f.headers 1) ++ area ++ window
  (256 + 0x3C) :: body ++ [fcrc body / 256, fcrc body % 256]

/-- Does a lane of a port carry its link frames: U0 of a RETURN port, else a downlink data lane in service and not in lane
idle, or DS for an alert sweep (R258, R286, R322)? -/
def Port.carries (q : Port) (l : Nat) : Bool :=
  if q.role = 2 then l == 3
  else decide (l < 3) && (bit q.inService l || (l == 2 && q.dsSweep)) && !bit q.idle l

/-- A port fills its next link frame and sends it on lane l (R285, R258). A RETURN port in whole operation sends uplink
frames with DEPTH 0 and fill only (R286). -/
def sendFrame (p l : Nat) (s : State) : State :=
  let q := s.port p
  if q.role = 2 && !q.split then
    sendSymbols p l (frameSymbols q.fseq { packets := [], fptr := 0xFF, cap := 0 })
      (s.setPort p { q with fseq := (q.fseq + 1) % 256 })
  else
    let i := s.pipeOf p
    let c := s.codec i
    let q := if q.frames.isEmpty then fixFrame (!c.closed.isEmpty) q else q
    let (q, c) := fillWindow (bit c.ctl 0) c.noMatch (s.pipe i).frame 2048 q c
    match q.frames with
    | [] => s
    | f :: fs =>
      let s := sendSymbols p l (frameSymbols q.fseq f)
        ((s.setPort p { q with frames := fs, fseq := (q.fseq + 1) % 256, credit := min (q.credit + 1) 2048 }).modCodec i
          fun _ => c)
      forEach f.ends (fun e st => match st.jobAt e.1 e.2 with | some j => finishJob j 0 0 st | none => st) s

/-- The 320 ns of a link frame begin on lane l of a port: it sends its next link frame, or 2,560 bits of the pattern that its
generator runs (R252, R258, R276). -/
def fillLane (p l : Nat) (s : State) : State :=
  if s.generates p l then sendPattern p l 2560 false s
  else if (s.port p).state = 2 && (s.port p).carries l then sendFrame p l s
  else s

/-- LINK_FRAME_FILL: the lanes of port p named by the bits of `lanes` come to their next link frames in the same symbol time;
they take their numbers in the order D0, D1, DS (R258, R285). -/
def linkFrameFill (p lanes : Nat) (s : State) : State :=
  forEach ((List.range 4).filter (bit lanes)) (fun l st => fillLane p l st) s

/-- BLOCK_DROP_DEADLINE: closed blocks of an earlier frame that still wait are dropped at block boundaries (R288). -/
def blockDrop (p : Nat) (s : State) : State :=
  s.modCodec (s.pipeOf p) fun c =>
    { c with closed := c.closed.filter fun b => s.scan.windowOpen && b.frame == (s.pipe (s.pipeOf p)).frame }

end Sys2Proof.Machine
end

