-- ==== Sys2Proof/Machine/Residency.lean ====
section
/-!
DEFINITION. Fennel's records (R209 to R226): the cells of a tile, their moves, F of a frame, and its events.
-/

namespace Sys2Proof.Machine

/-- RES_CTL.ENABLE. -/
def State.resOn (s : State) : Bool := s.b .resCtl 0

/-- Residency cells of tile index i: numbers 8j + i (R209). -/
def State.resCells (s : State) (i : Nat) : List Nat :=
  if !(s.familyOf i).bistable then []
  else (List.range (divUp (s.familyOf i).tileH 64)).flatMap fun j =>
    (List.range (divUp (s.familyOf i).tileW 64)).map fun k => 8 * j + k

/-- The tile-local rectangle of residency cell n of tile i (R209). -/
def State.resRect (s : State) (i n : Nat) : Rect :=
  let x := 64 * (n % 8)
  let y := 64 * (n / 8)
  { x := x, y := y, w := min 64 ((s.familyOf i).tileW - x), h := min 64 ((s.familyOf i).tileH - y) }

/-- Every residency cell of the accepted geometry: tile index × 64 + cell number. -/
def State.allCells (s : State) : List Nat := s.allTiles.flatMap fun i => (s.resCells i).map fun n => 64 * i + n

/-- A RESIDENCY event (R225): none while EVENTS is 0. -/
def resEvent (kind key frame : Nat) (s : State) : State :=
  if s.b .resCtl 1 then
    let i := key / 64
    raiseEvent 12 6 [kind, i / 128 + at_ (i % 128 + 1) 8 + at_ (key % 64) 16, frame % 2 ^ 32, 0] s
  else s

/-- F of a cell in frame n from its state and policy (R214, R216); a cell whose chain was enumerated again re-enters with
32,768 under every policy (R223) (DEDUCED, log 110). -/
def ResCell.factor (c : ResCell) (n : Nat) : Nat :=
  match c.policy with
  | 1 => 32768
  | 2 => if c.entry then 32768 else 0
  | 3 => 32768
  | _ =>
    match c.state with
    | 2 => 1024 * (31 - min 31 (n - c.n0))
    | 3 => 0
    | 4 => 1024 * (min 31 (n - c.n0) + 1)
    | _ => 32768

/-- The policy that the working registers give a cell: the highest-numbered enabled region that contains its top-left
pixel, else the default (R216). -/
def State.policyOf (s : State) (key : Nat) : Nat :=
  let i := key / 64
  let x := (s.placement i).x + (s.resRect i (key % 64)).x
  let y := (s.placement i).y + (s.resRect i (key % 64)).y
  let hit := (List.range 16).reverse.find? fun n =>
    let px := fld (s.wk (.resRegionPos n)) 15 0
    let py := fld (s.wk (.resRegionPos n)) 31 16
    bit (s.wk (.resRegionCtl n)) 0 && decide (px ≤ x ∧ x < px + fld (s.wk (.resRegionSize n)) 15 0 ∧
      py ≤ y ∧ y < py + fld (s.wk (.resRegionSize n)) 31 16)
  match hit with
  | some n => fld (s.wk (.resRegionCtl n)) 2 1
  | none => fld (s.wk .resDefault) 1 0

/-- AMBIENT_THRESHOLD of a tile's family. -/
def State.ambientLimit (s : State) (i : Nat) : Nat := (s.familyOf i).ambientThreshold

/-- A tile is bright (R212). -/
def State.bright (s : State) (i : Nat) : Bool :=
  let h := s.hop (i / 128) (i % 128 + 1)
  h.telValid && decide (s.ambientLimit i < h.ambient)

/-- The tile of a cell is dark: DARK_REPORTS consecutive dark reports (R212). -/
def State.darkCell (s : State) (key : Nat) : Bool :=
  (s.hop (key / 64 / 128) (key / 64 % 128 + 1)).telValid && decide (fld s.res.ambient 19 16 ≤ (s.cell key).dark)

/-- Fennel decides: it is enabled, and scan-out is RUNNING (R222). -/
def State.fennelRuns (s : State) : Bool := s.resOn && s.scan.state == .running

/-- A cell enters EMISSIVE with BSTATE STALE: RET restarts (R217). -/
def ResCell.toStale (c : ResCell) : ResCell := { c with state := 0, bstate := 0, ret := 0, due := 0 }

/-- A cell that shows its bistable layer moves to EMISSIVE, with the event of a kind; while scan-out is not RUNNING the move is
only noted (R217, R220, R222). -/
def resLeave (kind key : Nat) (s : State) : State :=
  if s.fennelRuns then resEvent kind key (s.scan.frame + 1) (s.modCell key ResCell.toStale)
  else s.modCell key fun c => { c with due := kind }

/-- A cell as after re-enumeration (R223). -/
def ResCell.reentered (c : ResCell) : ResCell :=
  { c.toStale with still := 0, dark := 0, ended := none, entry := true }

/-- A change under R210 in a cell, seen when the pipe completes it (R217). -/
def resChange (key : Nat) (s : State) : State :=
  let c := s.cell key
  let s := s.modCell key fun c => { c with stale := true, captured := false, passed := false }
  if c.policy = 0 && 2 ≤ c.state then resLeave 2 key s
  else if c.state = 1 then s
  else s.modCell key fun c => if c.bstate = 2 then { c with bstate := 0, ret := 0 } else c

/-- A host update writes a target word of a cell: BSTATE is STALE whatever the policy (R215), and a managed cell loses its
capture, takes none in the open frame, and moves (R220). -/
def resTouched (key : Nat) (s : State) : State :=
  if !s.resOn then s
  else
    let c := s.cell key
    let s := s.modCell key fun c => { c with bstate := 0, touched := true, ret := if c.bstate = 0 then c.ret else 0 }
    if c.policy = 1 then s
    else
      let s := s.modCell key fun c => { c with captured := false, passed := false, fresh := false }
      if c.policy = 0 && 2 ≤ c.state then resLeave 4 key s else s

/-- Queue an internal request (R218). -/
def queueInternal (r : Internal) (s : State) : State := { s with bist.queue := s.bist.queue ++ [r] }

/-- The mirror or return request of a cell (R218). -/
def resRequest (s : State) (key : Nat) (kind : InternalKind) : Internal :=
  let i := key / 64
  let r := s.resRect i (key % 64)
  let cx := ((s.placement i).x + r.x) / 2
  let cy := ((s.placement i).y + r.y) / 2
  { kind := kind, cx := cx, cy := cy, cw := r.w / 2, ch := r.h / 2,
    addr := s.pair .resTargetBaseLo .resTargetBaseHi + (cy * (s.geom.width / 2) + cx) * 3, pitch := s.geom.width / 2 * 3 }

/-- A cell makes a request: it holds at most one (R217, R218). -/
def resAsk (key : Nat) (kind : InternalKind) (s : State) : State :=
  queueInternal (resRequest s key kind)
    (s.modCell key fun c => { c with asked := true, stale := false, touched := false, ended := none })

/-- The moves of a cell under AUTO out of each state; `n`: the frame that the next latch point opens (R217). -/
def resMove (key n : Nat) (s : State) : State :=
  let c := s.cell key
  let static := decide (s.res.th ≤ c.still)
  match c.state with
  | 0 =>
    if c.asked then s
    else if static && s.bright (key / 64) && c.captured && c.passed then
      if c.bstate = 2 then s.modCell key fun c => { c with state := 2, n0 := n }
      else (resAsk key (.mirror key) s).modCell key fun c => { c with state := 1 }
    else if c.bstate = 0 && s.res.thRet ≤ c.ret then resAsk key (.back key) s
    else s
  | 1 =>
    match c.ended with
    | some true => s.modCell key fun c => { c with state := 2, bstate := 2, n0 := n, ended := none }
    | some false => s.modCell key fun c => { c.toStale with ended := none }
    | none => s
  | 4 => s
  | _ =>
    if s.darkCell key then resEvent 3 key n (s.modCell key fun c => { c with state := 4, n0 := n }) else s

/-- Fennel looks at a cell whose conditions may have become known (R217): a move noted before, the moves under AUTO, or a
mirror request under BISTABLE and BOTH. -/
def resDecide (key n : Nat) (s : State) : State :=
  let c := s.cell key
  if !s.fennelRuns then s
  else if c.due ≠ 0 then
    if c.policy = 0 && 2 ≤ c.state then resEvent c.due key n (s.modCell key ResCell.toStale)
    else s.modCell key fun c => { c with due := 0 }
  else if c.policy = 0 then resMove key n s
  else if !c.asked && 2 ≤ c.policy && decide (s.res.th ≤ c.still) && c.captured && c.bstate ≠ 2 then resAsk key (.mirror key) s
  else s

/-- A request of a cell has ended; `clean`: every cell is at its target, none handed on or dropped (R217). -/
def resEnded (key : Nat) (mirror clean : Bool) (s : State) : State :=
  let c := s.cell key
  let s := s.modCell key fun c => { c with asked := false, touched := false }
  if !s.resOn then s
  else if !mirror then
    if clean && !c.touched then s.modCell key fun c => { c with bstate := 1 }
    else s.modCell key fun c => { c with bstate := 0, ret := 0 }
  else
    let good := clean && !c.stale && !c.touched
    if c.policy = 0 && c.state = 1 then
      resDecide key (s.scan.frame + 1) (s.modCell key fun c => { c with ended := some good })
    else s.modCell key fun c => { c with bstate := if good then 2 else 0 }

/-- A TEL report of tile i, dark or not: the counts of its cells, and what they decide (R212, R217). -/
def resTel (i : Nat) (low : Bool) (s : State) : State :=
  if !s.resOn then s
  else forEach (s.resCells i) (fun n st => resDecide (64 * i + n) (st.scan.frame + 1)
    (st.modCell (64 * i + n) fun c => { c with dark := if low then c.dark + 1 else 0 })) s

/-- Records are reset, but for the F of the open frame, which holds to the next latch point (R219). -/
def resReset (s : State) : State :=
  { s with res.cells := (s.res.cells.filter fun c => c.2.f != 32768).map fun c => (c.1, { f := c.2.f }) }

/-- ENABLE is cleared: nothing follows from the requests that are queued or in flight (R219). -/
def resVoid (s : State) : State :=
  let void := fun (r : Internal) => match r.kind with | .rerun => r | _ => { r with void := true }
  forEach (List.range 64) (fun k st => match st.flight k with | some r => st.setFlight k (some (void r)) | none => st)
    { s with bist.queue := s.bist.queue.map void }

/-- A chain was enumerated again: the cells of its tiles (R223). -/
def resReenumerated (i : Nat) (s : State) : State :=
  if !s.resOn then s
  else forEach (s.resCells i) (fun n st => st.modCell (64 * i + n) ResCell.reentered) s

end Sys2Proof.Machine
end

