-- ==== Sys2Proof/Machine/Bist.lean ====
section
/-!
DEFINITION. The bistable layer (R176 to R208): the state map, targets and dither, the waveform tables and their check,
temperature and contrast voltage, passes and their DC balance, requests and their completion, interruption and
recovery.
-/

namespace Sys2Proof.Machine

/-! ### The state map (R178, R179) -/

/-- BIST_STATE_BASE. -/
def State.stateBase (s : State) : Nat := s.pair .bistStateBaseLo .bistStateBaseHi
/-- BIST_PARITY_BASE. -/
def State.parityBase (s : State) : Nat := s.pair .bistParityBaseLo .bistParityBaseHi

/-- The address of a cell's record (R178). -/
def State.cellAddr (s : State) (cx cy : Nat) : Nat := s.stateBase + (cy * (s.geom.width / 2) + cx) * 10

/-- The state word of a cell. -/
def State.stateWord (s : State) (cx cy : Nat) : Nat := s.le (s.cellAddr cx cy) 2
/-- The target word of a cell. -/
def State.targetWord (s : State) (cx cy : Nat) : Nat := s.le (s.cellAddr cx cy + 2) 2
/-- The ledger of a sub-cell, 16-bit two's complement. -/
def State.ledger (s : State) (cx cy c : Nat) : Nat := s.le (s.cellAddr cx cy + 4 + 2 * c) 2

/-- Write the state and target words of a cell. -/
def putCell (cx cy st tg : Nat) (s : State) : State :=
  (s.putLe (s.cellAddr cx cy) 2 st).putLe (s.cellAddr cx cy + 2) 2 tg

/-- Level field c of a state or target word. -/
def levelOf (w c : Nat) : Nat := fld w (3 * c + 2) (3 * c)

/-- The parity bit of common m of tile index i (R179). -/
def State.parityBit (s : State) (i m : Nat) : Bool := bit (s.byte (s.parityBase + 32 * i + m / 8)) (m % 8)

/-- Toggle the parity bit of a common. -/
def toggleParity (i m : Nat) (s : State) : State :=
  let a := s.parityBase + 32 * i + m / 8
  s.puts a [withBit (s.byte a) (m % 8) (!bit (s.byte a) (m % 8))]

/-- The engine that serves the port of tile index i (R10, R28). -/
def State.tileEngine (s : State) (i : Nat) : Nat := s.dutyEngine (s.tileFeeder i / 4) (s.tileFeeder i % 4)

/-- Class-3 requests of engine e for the n bytes at a (R31). -/
def engineReads (e a n : Nat) (s : State) : State := memRequestRange 3 (e / 9) (engineWho e) a n s

/-- Bistable tiles of the accepted geometry, ascending. -/
def State.bistTiles (s : State) : List Nat := s.allTiles.filter fun i => (s.familyOf i).bistable

/-- The bistable tile that covers cell (cx, cy), if one does. -/
def State.tileAt (s : State) (cx cy : Nat) : Option Nat :=
  s.bistTiles.find? fun i =>
    let r := s.rectOf i
    decide (r.x ≤ 2 * cx ∧ 2 * cx < r.x + r.w ∧ r.y ≤ 2 * cy ∧ 2 * cy < r.y + r.h)

/-- The cells of common m of a tile, left to right (R177). -/
def State.commonCells (s : State) (i m : Nat) : List (Nat × Nat) :=
  let r := s.rectOf i
  (List.range (r.w / 2)).map fun j => (r.x / 2 + j, r.y / 2 + m)

/-- The port engine of a tile asks for the records of common m (R31, R178). -/
def readCommon (i m : Nat) (s : State) : State :=
  match (s.commonCells i m).head? with
  | some c => engineReads (s.tileEngine i) (s.cellAddr c.1 c.2) (10 * (s.commonCells i m).length) s
  | none => s

/-- A record of common m of a tile reaches past usable capacity (R208). -/
def State.commonPast (s : State) (i m : Nat) : Bool :=
  (s.commonCells i m).any fun c => decide (s.capacity < s.cellAddr c.1 c.2 + 10)

/-- Has common m of a tile a pending cell? -/
def State.commonPending (s : State) (i m : Nat) : Bool :=
  (s.commonCells i m).any fun c => bit (s.targetWord c.1 c.2) 9

/-- Has a tile a pending cell? -/
def State.tilePending (s : State) (i : Nat) : Bool :=
  (List.range ((s.rectOf i).h / 2)).any (s.commonPending i)

/-- INIT ends (R180): unknown cells, ledgers 0, parity 0, or RANGE. -/
def bistInitEnd (s : State) : State :=
  if !s.bist.initialising then s
  else
    let s := { s with bist.initialising := false }
    if s.capacity < s.stateBase + s.geom.width / 2 * (s.geom.height / 2) * 10 || s.capacity < s.parityBase + 131072 then
      detectNote 11 2 s
    else
      let s := forEach s.bistTiles (fun i st =>
        let st := forEach (List.range ((st.rectOf i).h / 2)) (fun m st =>
          forEach (st.commonCells i m) (fun c st => st.puts (st.cellAddr c.1 c.2) (List.replicate 10 0)) (readCommon i m st)) st
        st.puts (st.parityBase + 32 * i) (List.replicate 32 0)) s
      { s with bist.stateReady := true }

/-! ### Family parameters (R181, R182) -/

/-- What the check copied for a tile's family. -/
def State.bistFam (s : State) (i : Nat) : BistFam := Tab.get {} (s.placement i).family s.bist.fams

/-- VOP_MIN. -/
def BistFam.vopMin (f : BistFam) : Nat := fld (wd f.params 0) 15 0
/-- VOP_MAX. -/
def BistFam.vopMax (f : BistFam) : Nat := fld (wd f.params 0) 31 16
/-- LEDGER_LIMIT. -/
def BistFam.ledgerLimit (f : BistFam) : Nat := fld (wd f.params 1) 15 0
/-- BAL_COM. -/
def BistFam.balCom (f : BistFam) : Nat := fld (wd f.params 1) 19 16
/-- BAL_SEG. -/
def BistFam.balSeg (f : BistFam) : Nat := fld (wd f.params 1) 23 20
/-- BAL_MAX. -/
def BistFam.balMax (f : BistFam) : Nat := fld (wd f.params 1) 31 24
/-- BAL_DUR. -/
def BistFam.balDur (f : BistFam) : Nat := fld (wd f.params 2) 15 0
/-- IDLE. -/
def BistFam.idle (f : BistFam) : Nat := fld (wd f.params 2) 19 16
/-- LEVEL_FRAC[n]. -/
def BistFam.frac (f : BistFam) (n : Nat) : Nat := fld (wd f.params (3 + n / 2)) (16 * (n % 2) + 15) (16 * (n % 2))
/-- LEVEL_CODE[c][l]. -/
def BistFam.code (f : BistFam) (c l : Nat) : Nat :=
  fld (wd f.params (11 + (8 * c + l) / 4)) (8 * (l % 4) + 7) (8 * (l % 4))

/-- v(n) in mV at a Vop (R182). -/
def BistFam.volt (f : BistFam) (vop n : Nat) : Nat := (vop * f.frac n + 32768) / 65536

/-! ### Targets (R183) -/

/-- The level that target byte x takes at sub-cell c of cell (cx, cy). -/
def ditherLevel (f : BistFam) (cx cy c x : Nat) : Nat :=
  if x ≤ f.code c 0 then 0
  else if f.code c 7 ≤ x then 7
  else
    let k := (List.range 8).foldl (fun b l => if f.code c l ≤ x then l else b) 0
    let frac := ((x - f.code c k) * 256) / (f.code c (k + 1) - f.code c k)
    let thr := (ditherP (cy % 64) (cx % 64) + 1365 * c) % 4096 / 16
    k + (if thr < frac then 1 else 0)

/-- The levels of a cell for three target bytes, as a target word's level field. -/
def targetLevels (f : BistFam) (cx cy : Nat) (x : List Nat) : Nat :=
  (List.range 3).foldl (fun a c => a + at_ (ditherLevel f cx cy c (wd x c)) (3 * c)) 0

/-! ### Waveforms (R184, R185) -/

/-- Phase words of a waveform, up to the first with DUR 0 (R184). -/
def waveFrom (s : State) (a : Nat) : Nat → List Nat
  | 0 => []
  | n + 1 =>
    let w := s.leIn a 4
    if fld w 31 16 = 0 then [] else w :: waveFrom s (a + 4) n

/-- Reading phase words at a meets the end of usable capacity before the waveform ends (R208). -/
def wavePast (s : State) (a : Nat) : Nat → Bool
  | 0 => false
  | n + 1 => if s.capacity < a + 4 then true else if fld (s.leIn a 4) 31 16 = 0 then false else wavePast s (a + 4) n

/-- The address of the waveform for band b, from-level f, to-level t (R184). -/
def waveAddr (base b f t : Nat) : Nat := base + ((b * 9 + f) * 8 + t) * 128

/-- The waveform of a family for band b, from-level f, to-level t. -/
def waveform (s : State) (base b f t : Nat) : List Nat := waveFrom s (waveAddr base b f t) 32

/-- One of a waveform's 32 phase words has a reserved bit set (R184, R207). -/
def waveReserved (s : State) (base b f t : Nat) : Bool :=
  (List.range 32).any fun k => fld (s.leIn (waveAddr base b f t + 4 * k) 4) 15 9 != 0

/-- The from and to levels of the waveforms that are ever read, in ascending index. -/
def everRead : List (Nat × Nat) :=
  ((List.range 9).flatMap fun f => (List.range 8).map fun t => (f, t)).filter fun p => p.1 != p.2

/-- The schedule of a band: its longest waveform, ties to the lowest index (R185). -/
def schedule (s : State) (base b : Nat) : List Nat :=
  everRead.foldl (fun best p =>
    let w := waveform s base b p.1 p.2
    if best.length < w.length then w else best) []

/-- A waveform agrees with the schedule in COM, POL and DUR (code 6). -/
def agrees (sched w : List Nat) : Bool :=
  (List.range w.length).all fun k =>
    let a := wd w k
    let b := wd sched k
    fld a 3 0 == fld b 3 0 && bit a 8 == bit b 8 && fld a 31 16 == fld b 31 16

/-- Even length and pair symmetry (code 7). -/
def paired (w : List Nat) : Bool :=
  w.length % 2 == 0 && (List.range (w.length / 2)).all fun i =>
    let a := wd w (2 * i)
    let b := wd w (2 * i + 1)
    fld a 7 0 == fld b 7 0 && fld a 31 16 == fld b 31 16 && bit a 8 != bit b 8

/-! ### The table check (R207) -/

/-- The base of the family table that the check reads. -/
def State.checkBase (s : State) : Nat := if s.geom.copied then s.geom.familyBase else s.familyBase

/-- The geometry of family f that the check reads. -/
def State.checkFamily (s : State) (f : Nat) : Family :=
  if s.geom.copied then Tab.get {} f s.geom.families else readFamily s s.familyBase f

/-- Words of bytes 0x38 to 0x7F of family f. -/
def bistParams (s : State) (f : Nat) : List Nat :=
  (List.range 18).map fun k => s.leIn (s.checkBase + f * 128 + 0x38 + 4 * k) 4

/-- Codes 2 to 5 of a family (R207): 0 when none applies. -/
def familyError (s : State) (f : Nat) : Nat :=
  let wave := s.leIn (s.checkBase + f * 128 + 0x28) 8
  let vops := s.leIn (s.checkBase + f * 128 + 0x30) 8
  let p : BistFam := { params := bistParams s f }
  let vbal := (p.volt p.vopMin p.balCom : Int) - p.volt p.vopMin p.balSeg
  if wave % 64 ≠ 0 || vops % 64 ≠ 0 || s.capacity < wave + 147456 || s.capacity < vops + 64 then 2
  else if p.vopMin = 0 || p.vopMax < p.vopMin || fld (wd p.params 2) 31 20 ≠ 0 || wd p.params 17 ≠ 0 ||
      (!(s.checkFamily f).alternation &&
        (p.ledgerLimit = 0 || p.balMax = 0 || p.balDur = 0 || divRoundI (vbal * p.balDur) 100 < 1)) then 3
  else if (List.range 3).any (fun c => (List.range 7).any fun l => decide (p.code c (l + 1) ≤ p.code c l)) then 4
  else if signed (s.leIn (vops + 4) 2) 16 ≤ signed (s.leIn vops 2) 16 then 5
  else 0

/-- Codes 6 to 8 of a family, in ascending waveform index: code, band, from, to (R207). -/
def waveError (s : State) (f : Nat) : Option (Nat × Nat × Nat × Nat) :=
  let base := s.leIn (s.checkBase + f * 128 + 0x28) 8
  (List.range 16).findSome? fun b =>
    let sched := schedule s base b
    everRead.findSome? fun p =>
      let w := waveform s base b p.1 p.2
      let e := if !agrees sched w || waveReserved s base b p.1 p.2 then 6
        else if (s.checkFamily f).alternation && !paired w then 7
        else if p.1 = 8 && w.isEmpty then 8 else 0
      if e = 0 then none else some (e, b, p.1, p.2)

/-- The valid bistable families, ascending. -/
def bistFamilies (s : State) : List Nat :=
  (List.range 16).filter fun f => (s.checkFamily f).valid && (s.checkFamily f).bistable

/-- The first error of the check, as BIST_CHECK_RESULT; 0 on success. -/
def bistCheckError (s : State) : Nat :=
  if (bistFamilies s).isEmpty then 1
  else
    ((bistFamilies s).findSome? fun f =>
      if familyError s f ≠ 0 then some (familyError s f + at_ f 4)
      else (waveError s f).map fun e => e.1 + at_ f 4 + at_ e.2.1 8 + at_ e.2.2.1 12 + at_ e.2.2.2 16).getD 0

/-- What the check copies of a family. -/
def copyFamily (s : State) (f : Nat) : BistFam :=
  let base := s.leIn (s.checkBase + f * 128 + 0x28) 8
  let vops := s.leIn (s.checkBase + f * 128 + 0x30) 8
  { params := bistParams s f, vops := (List.range 16).map fun k => s.leIn (vops + 4 * k) 4,
    schedules := (List.range 16).map (schedule s base) }

/-- The check ends (R207); a family descriptor that it reads past usable capacity sets RANGE (R208). -/
def bistCheckEnd (s : State) : State :=
  if !s.bist.checking then s
  else
    let e := bistCheckError s
    let past := (bistFamilies s).any fun f => decide (s.capacity < s.checkBase + f * 128 + 128)
    let s := { s with bist.checking := false, bist.checkResult := e }
    let s := if past then detectNote 11 2 s else s
    if e ≠ 0 then s
    else { s with bist.tablesValid := true
                  bist.fams := (bistFamilies s).foldl (fun t f => Tab.put {} f (copyFamily s f) t) [] }

/-! ### Temperature and voltage (R186, R187) -/

/-- The record of the hop of a tile. -/
def State.tileHop (s : State) (i : Nat) : Hop := s.hop (i / 128) (i % 128 + 1)

/-- A tile's temperature in 1/16 °C. -/
def State.tileTemp (s : State) (i : Nat) : Int := signed (s.tileHop i).temp 16

/-- The band of a temperature. -/
def bandOf (t : Int) : Nat := (clampI ((t + 320) / 90) 0 15).toNat

/-- The Vop that a pass computes, the last one being `last` (R187). -/
def vopOf (f : BistFam) (t : Int) (last : Nat) : Nat :=
  let temp := fun k => signed (wd f.vops k) 16
  let vop := fun k => (fld (wd f.vops k) 31 16 : Int)
  let top := (List.range 15).foldl (fun m k => if m = k && temp k < temp (k + 1) then k + 1 else m) 0
  let v := if t ≤ temp 0 then vop 0
    else if temp top ≤ t then vop top
    else
      let k := (List.range top).foldl (fun b j => if temp j ≤ t then j else b) 0
      vop k + divRoundI ((vop (k + 1) - vop k) * (t - temp k)) (temp (k + 1) - temp k).toNat
  let v := clampI v f.vopMin f.vopMax
  (if last ≠ 0 then clampI v ((last : Int) - 50) ((last : Int) + 50) else v).toNat

/-! ### Phases of a pass (R189, R195 to R197) -/

/-- The waveform phases of a pass from its segment bytes. -/
def wavePhases (s : State) (i band : Nat) (alternation parity : Bool) (segs : List Nat) : List Phase :=
  let base := s.familyAddr (s.placement i).family 0x28
  let sched := ((s.bistFam i).schedules.getD band [])
  let waves := segs.map fun b => if bit b 7 then waveform s base band (fld b 3 0) (fld b 6 4) else []
  let len := waves.foldl (fun m w => max m w.length) 0
  (List.range len).map fun k =>
    let w := wd sched k
    { com := fld w 3 0, pol := if alternation then bit w 8 != parity else bit w 8, dur := fld w 31 16,
      segs := waves.map fun v => match v[k]? with | some x => fld x 7 4 | none => fld w 3 0 }

/-- One phase's addition to a ledger, and whether it clamped (R195). -/
def ledgerAdd (f : BistFam) (vop : Nat) (ph : Phase) (seg led : Nat) : Nat × Bool :=
  let v : Int := (f.volt vop ph.com : Int) - f.volt vop seg
  let v := if ph.pol then -v else v
  let sum := signed led 16 + divRoundI (v * ph.dur) 100
  (unsigned (clampI sum (-32767) 32767) 16, decide (sum < -32767 ∨ 32767 < sum))

/-- A phase's additions to every ledger of the common. -/
def ledgerPhase (f : BistFam) (vop : Nat) (ph : Phase) (leds : List Nat) : List Nat :=
  (leds.zip ph.segs).map fun x => (ledgerAdd f vop ph x.2 x.1).1

/-- The balancing phases after given ledgers (R196). -/
def balancePhases (f : BistFam) (vop : Nat) (leds : List Nat) : List Phase :=
  let q := (divRoundI (((f.volt vop f.balCom : Int) - f.volt vop f.balSeg) * f.balDur) 100).toNat
  let count := fun (sign : Int) (l : Nat) =>
    let past := sign * signed l 16 - f.ledgerLimit
    if 0 < past && 0 < q then min f.balMax (divUp past.toNat q) else 0
  let neg := leds.map (count 1)
  let pos := leds.map (count (-1))
  let top := (neg ++ pos).foldl max 0
  (List.range top).flatMap fun i =>
    let one := fun (pol : Bool) (n : List Nat) =>
      if n.any (fun c => decide (i < c)) then
        [({ com := f.balCom, pol := pol, dur := f.balDur,
            segs := n.map fun c => if i < c then f.balSeg else f.balCom } : Phase)] else []
    one true neg ++ one false pos

/-- All phases of a pass: the waveform phases and, in ledger mode, the balancing phases that follow from them. A pass with no
waveform phase has no last one, and is not balanced (DEDUCED, log 105). -/
def allPhases (s : State) (i band vop : Nat) (alternation parity : Bool) (segs leds : List Nat) : List Phase :=
  let w := wavePhases s i band alternation parity segs
  if w.isEmpty || alternation then w
  else w ++ balancePhases (s.bistFam i) vop (w.foldl (fun l ph => ledgerPhase (s.bistFam i) vop ph l) leds)

/-! ### Requests and their completion (R199 to R202) -/

/-- Change the tally of the request that owns a cell. -/
def modTally (int : Bool) (slot : Nat) (g : Tally → Tally) (s : State) : State :=
  if int then
    match s.flight slot with
    | some r => s.setFlight slot (some { r with tally := g r.tally })
    | none => s
  else
    match s.update slot with
    | some u => s.setUpdate slot (some { u with tally := g u.tally })
    | none => s

/-- The outcome of a tally: status and DETAIL (R200). -/
def Tally.outcome (t : Tally) : Nat × Nat :=
  match t.dropped with
  | some d => (7, d)
  | none => if !t.taken && 0 < t.handed then (6, 0) else (0, t.changed)

/-- RECOVERING ends when no recovery pass and no request run again is left (R206). -/
def recoverCheck (s : State) : State :=
  let left := !s.bist.recUpdates.isEmpty || !s.bist.recPasses.isEmpty ||
    s.bist.queue.any (fun r => r.kind == .rerun) ||
    (List.range 64).any (fun k => match s.flight k with | some r => r.kind == .rerun | none => false)
  if s.bist.recovering && !left then { s with bist.recovering := false } else s

/-- The cells of a region under bistable tiles, ascending cy then cx, with their tiles (R199). -/
def regionCells (s : State) (cx cy cw ch : Nat) : List (Nat × Nat × Nat) :=
  (List.range ch).flatMap fun b => (List.range cw).filterMap fun a =>
    (s.tileAt (cx + a) (cy + b)).map fun i => (cx + a, cy + b, i)

/-- A cell is known, at its target, and pending for nobody (R217). -/
def State.cellAtTarget (s : State) (cx cy : Nat) : Bool :=
  let st := s.stateWord cx cy
  let tg := s.targetWord cx cy
  bit st 9 && !bit tg 9 && fld st 8 0 == fld tg 8 0

/-- Complete the request of an owner if every cell of it is settled (R200, R201, R217, R331). -/
def settle (int : Bool) (slot : Nat) (s : State) : State :=
  if int then
    match s.flight slot with
    | some r =>
      if r.tally.left ≠ 0 then s
      else
        let s := { s.setFlight slot none with power.activity := true }
        let clean := r.tally.handed == 0 && r.tally.dropped.isNone &&
          (regionCells s r.cx r.cy r.cw r.ch).all fun c => s.cellAtTarget c.1 c.2.1
        match r.kind with
        | .mirror key => if r.void then s else resEnded key true clean s
        | .back key => if r.void then s else resEnded key false clean s
        | .rerun => recoverCheck s
    | none => s
  else
    match s.update slot with
    | some u =>
      if u.tally.left ≠ 0 then s
      else
        let s := s.setUpdate slot none
        match s.jobAt u.ring u.slot with
        | some j => finishJob j u.tally.outcome.1 u.tally.outcome.2 s
        | none => s
    | none => s

/-- A cell of an owner is settled one way or another. -/
def settleCell (int : Bool) (slot : Nat) (g : Tally → Tally) (s : State) : State :=
  settle int slot (modTally int slot (fun t => g { t with left := t.left - 1 }) s)

/-- An interrupted pass drove the cell for an owner that has not had it driven again since (R200, R204). -/
def State.wasDriven (s : State) (int : Bool) (slot cx cy : Nat) : Bool := s.bist.redriven.contains (int, slot, cx, cy)

/-- The owner of a cell that an interrupted pass drove has no more to do with it. -/
def forgetDriven (int : Bool) (slot cx cy : Nat) (s : State) : State :=
  { s with bist.redriven := s.bist.redriven.filter fun x => x != (int, slot, cx, cy) }

/-- A pending cell is taken from its owner: it is handed on, and counts as changed where a pass has driven it for that owner
(R199, R200). -/
def handOn (cx cy : Nat) (s : State) : State :=
  let int := bit (s.stateWord cx cy) 11
  let slot := fld (s.targetWord cx cy) 15 10
  let n := b2n (s.wasDriven int slot cx cy)
  settleCell int slot (fun t => { t with handed := t.handed + 1, changed := t.changed + n }) (forgetDriven int slot cx cy s)

/-- A pending cell is dropped: PEND is cleared, the target levels stay, and its owner's first drop gives DETAIL (R200, R202). -/
def dropCell (cx cy detail : Nat) (s : State) : State :=
  let tg := s.targetWord cx cy
  let st := s.stateWord cx cy
  if bit tg 9 then
    settleCell (bit st 11) (fld tg 15 10) (fun t => { t with dropped := some (t.dropped.getD detail) })
      (forgetDriven (bit st 11) (fld tg 15 10) cx cy (putCell cx cy st (withBit tg 9 false) s))
  else s

/-- A request writes its levels to a cell in one read-modify-write (R199). The request's own tally is not settled
here: it has more cells to visit. -/
def writeCellTarget (int : Bool) (slot cx cy levels : Nat) (s : State) : State :=
  let st := s.stateWord cx cy
  let s := if bit (s.targetWord cx cy) 9 then handOn cx cy s else s
  if !bit st 10 && bit st 9 && fld st 8 0 == levels then
    putCell cx cy (withBit st 11 int) (levels + at_ slot 10) s
  else
    modTally int slot (fun t => { t with left := t.left + 1 })
      (putCell cx cy (withBit st 11 int) (levels + 512 + at_ slot 10) s)

/-- The engine that visits the region of a request: its ring's for a ring update, else, which the spec does not say, the
engine of the tile that the region lies under (DESIGN CHOICE, log 115). -/
def State.visitor (s : State) (int : Bool) (slot cx cy : Nat) : Nat :=
  if int then s.tileEngine ((s.tileAt cx cy).getD 0)
  else match s.update slot with
    | some u => s.ringEngine u.ring
    | none => 0

/-- A request counts as written by the host or by recovery, not by Fennel for its own cell (R215, R220). -/
def State.foreign (s : State) (int : Bool) (slot : Nat) : Bool :=
  !int || (match s.flight slot with | some r => r.kind == .rerun | none => false)

/-- Visit the region of a request: read each target, map it, write it (R199, R183). `colour`: a fixed target; `bad`: the cells
whose target or state record met an uncorrectable error. Such a cell, and one whose target bytes lie beyond usable capacity, is
dropped (R200, R202, R224). -/
def visitRegion (int : Bool) (slot cx cy cw ch addr pitch : Nat) (colour : Option (List Nat)) (bad : List (Nat × Nat))
    (s : State) : State :=
  let e := s.visitor int slot cx cy
  let s := forEach (List.range ch) (fun b st =>
    engineReads e (st.cellAddr cx (cy + b)) (10 * cw)
      (if colour.isNone then engineReads e (addr + b * pitch) (3 * cw) st else st)) s
  forEach (regionCells s cx cy cw ch) (fun c st =>
    let a := addr + (c.2.1 - cy) * pitch + (c.1 - cx) * 3
    if st.memLost || bad.contains (c.1, c.2.1) || (colour.isNone && decide (st.capacity < a + 3)) then
      modTally int slot (fun t => { t with dropped := some (t.dropped.getD 0x02000000) }) (dropCell c.1 c.2.1 0x02000000 st)
    else
      let x := colour.getD (Mem.bytes st.mem a 3)
      let key := 64 * c.2.2 + (8 * ((2 * c.2.1 - (st.placement c.2.2).y) / 64) + (2 * c.1 - (st.placement c.2.2).x) / 64)
      let st := if st.foreign int slot then resTouched key st else st
      writeCellTarget int slot c.1 c.2.1 (targetLevels (st.bistFam c.2.2) c.1 c.2.1 x) st) s

/-- Drop the pending cells of a tile (R202). -/
def dropTile (i : Nat) (s : State) : State :=
  forEach (List.range ((s.rectOf i).h / 2)) (fun m st =>
    forEach (st.commonCells i m) (fun c st => dropCell c.1 c.2 (0x01000000 + i) st) st) s

/-! ### Running passes (R188 to R191) -/

/-- BIST_CTL.DRIVE. -/
def State.drive1 (s : State) : Bool := s.b .bistCtl 0

/-- A Hold, Keep or Off has been asked for, or a wake has not finished: no new pass starts (R203, R335). -/
def State.passesHeld (s : State) : Bool :=
  match s.power.move with
  | .none => s.power.state != .run && s.power.state != .trim
  | .switch _ => false
  | _ => true

/-- Passes may start on a tile now: its port engine, DRIVE, tables, state map, port and temperature (R28, R186, R203, R302). -/
def State.drivable (s : State) (i : Nat) : Bool :=
  s.portEngineOn (s.tileFeeder i) && s.drive1 && s.bist.tablesValid && s.bist.stateReady && !s.passesHeld && !s.faultg.fatal &&
    (s.port (s.tileFeeder i)).state == 2 && !(s.port (s.tileFeeder i)).clove &&
    (s.tileHop i).configured && (s.tileHop i).telValid

/-- The tiles of a port's drive channels: those that it feeds, bistable, in ascending hop order. -/
def State.driveTiles (s : State) (p : Nat) : List Nat := (s.fedTiles p).filter fun i => (s.familyOf i).bistable

/-- An interrupted pass of a tile waits for its recovery, which comes before its other passes (R204). -/
def State.awaitsRecovery (s : State) (i : Nat) : Bool := s.bist.interrupted.any fun p => p.tile == i

/-- DRIVE_CHANNEL_TAKE: a free channel takes the next tile, after the one it last took, that has a pending common (R188). -/
def driveTake (p : Nat) (s : State) : State :=
  match [2 * p, 2 * p + 1].find? fun k => (s.drive k).tile.isNone with
  | none => s
  | some k =>
    let last := Tab.get 0 k s.bist.lastTile
    let free := (s.driveTiles p).filter fun i =>
      s.drivable i && s.tilePending i && !s.awaitsRecovery i && (s.drive (2 * p)).tile != some i && (s.drive (2 * p + 1)).tile != some i
    match (free.find? fun i => decide (last ≤ i)).orElse fun _ => free.head? with
    | none => s
    | some i => { s.modDrive k (fun d => { d with tile := some i, next := 0 }) with
                    bist.lastTile := Tab.put 0 k (i + 1) s.bist.lastTile }

/-- The BIS body of phase k of a pass (R294). -/
def bisBody (s : State) (p : Pass) (k : Nat) (ph : Phase) : List Nat :=
  let f := s.bistFam p.tile
  let nib := fun j => ph.segs.getD j 0
  [p.common, b2n (k = 0) + at_ (b2n ph.pol) 1 + at_ (b2n (k + 1 = p.phases.length)) 2] ++
    leBytes 2 (p.seq0 + k) ++ leBytes 2 ph.dur ++ [ph.com, f.idle] ++
    (if k = 0 then (List.range 16).flatMap fun n => leBytes 2 (f.volt p.vop n) else []) ++
    (List.range ((ph.segs.length + 1) / 2)).map fun b => nib (2 * b) + 16 * nib (2 * b + 1)

/-- Queue phase packets so that four are with the tile, the one being applied among them (R191, R192). -/
def queuePhases (k : Nat) : Nat → State → State
  | 0, s => s
  | n + 1, s =>
    match (s.drive k).pass with
    | none => s
    | some p =>
      match p.phases[p.sent]? with
      | none => s
      | some ph =>
        if p.done + 4 ≤ p.sent then s
        else
          let s := sendBis (s.tileFeeder p.tile) (p.tile % 128 + 1) (bisBody s p p.sent ph) s
          queuePhases k n ({ s with bist.seq := Tab.put 0 p.tile ((p.seq0 + p.sent + 1) % 65536) s.bist.seq }.modDrive k
            fun d => { d with pass := some { p with sent := p.sent + 1 } })

/-- The ledgers of a pass go to the records of its common (R190, R204). -/
def writeLedgers (p : Pass) (s : State) : State :=
  forEach ((s.commonCells p.tile p.common).zipIdx) (fun c st =>
    forEach (List.range 3) (fun j st =>
      st.putLe (st.cellAddr c.1.1 c.1.2 + 4 + 2 * j) 2 (wd p.ledgers (3 * c.2 + j))) st) s

/-- The ring updates of the record are run again as internal requests (R206). -/
def rerunUpdates (s : State) : State :=
  recoverCheck { s with
    bist.queue := s.bist.queue ++ s.bist.recUpdates.map fun u =>
      { kind := .rerun, cx := u.cx, cy := u.cy, cw := u.cw, ch := u.ch, addr := u.addr, pitch := u.pitch }
    bist.recUpdates := [] }

/-- A pass has ended (R190): its cells take their targets, ledgers are written back or the parity toggles. -/
def endPass (k : Nat) (p : Pass) (s : State) : State :=
  let s := readCommon p.tile p.common { s.modDrive k fun d => { d with pass := none } with power.activity := true }
  let s := if p.alternation then s else writeLedgers p s
  let s := if p.alternation && !p.recovery then toggleParity p.tile p.common s else s
  let s := forEach p.cells (fun c st =>
    if c.run then
      let w := st.stateWord c.cx c.cy
      let st := st.putLe (st.cellAddr c.cx c.cy) 2 (c.target + 512 + at_ (bitN w 11) 11)
      settleCell c.int c.slot (fun t => { t with changed := t.changed + 1 }) (forgetDriven c.int c.slot c.cx c.cy st)
    else st) s
  let s := if p.fromRecord then
      { s with bist.recPasses := s.bist.recPasses.filter fun r => !(r.tile == p.tile && r.common == p.common) }
    else s
  if p.fromRecord && s.bist.recPasses.isEmpty then rerunUpdates s else s

/-- Start a pass whose phases are known: send its first packets, or end it at once (R189). -/
def launchPass (k : Nat) (p : Pass) (s : State) : State :=
  let p := { p with seq0 := Tab.get 0 p.tile s.bist.seq }
  if p.phases.isEmpty then endPass k p s
  else queuePhases k 4 (s.modDrive k fun d => { d with pass := some p })

/-- The cells with PEND = 1 of a common as a pass takes them (R189). -/
def passCells (s : State) (i m : Nat) : List PassCell :=
  (s.commonCells i m).filterMap fun c =>
    let tg := s.targetWord c.1 c.2
    let st := s.stateWord c.1 c.2
    if bit tg 9 then
      some { cx := c.1, cy := c.2, target := fld tg 8 0, int := bit st 11, slot := fld tg 15 10,
             run := !(bit st 9 && fld st 8 0 == fld tg 8 0) }
    else none

/-- The segment bytes of a common for the cells that a pass takes (R189, R205). -/
def segBytes (s : State) (i m : Nat) (cells : List PassCell) : List Nat :=
  (s.commonCells i m).flatMap fun c =>
    match cells.find? fun x => x.cx == c.1 && x.run with
    | none => [0, 0, 0]
    | some x =>
      let st := s.stateWord c.1 c.2
      (List.range 3).map fun j =>
        let from_ := if bit st 9 then levelOf st j else 8
        if from_ = levelOf x.target j then 0 else from_ + at_ (levelOf x.target j) 4 + 128

/-- The waveforms of a pass are read in place, and a read of them or of the map past usable capacity sets RANGE (R31, R184,
R208). -/
def readPass (i m band : Nat) (segs : List Nat) (s : State) : State :=
  let base := s.familyAddr (s.placement i).family 0x28
  let waves := ((segs.filter fun b => bit b 7).map fun b => waveAddr base band (fld b 3 0) (fld b 6 4)).eraseDups
  let s := forEach waves (fun a st => engineReads (st.tileEngine i) a 128 st) (readCommon i m s)
  if s.commonPast i m || waves.any fun a => wavePast s a 32 then detectNote 11 2 s else s

/-- The cells of a common whose target or state record met an uncorrectable error are dropped before the pass takes any (R202). -/
def dropBad (i m : Nat) (bad : List (Nat × Nat)) (s : State) : State :=
  forEach ((s.commonCells i m).filter fun c => s.memLost || bad.contains c) (fun c st => dropCell c.1 c.2 0x02000000 st) s

/-- PASS_START: the channel's sweep starts a pass on its next pending common, or releases the tile (R188, R189) (DEDUCED, log
55). A common that becomes pending ahead of the sweep gets its pass in the same sweep (DESIGN CHOICE, log 104). `bad`: the cells
whose target or state record met an uncorrectable error. -/
def passStart (k : Nat) (bad : List (Nat × Nat)) (s : State) : State :=
  let d := s.drive k
  match d.tile, d.pass with
  | some i, none =>
    match (List.range ((s.rectOf i).h / 2)).find? fun m => decide (d.next ≤ m) && s.commonPending i m with
    | none => s.modDrive k fun d => { d with tile := none, next := 0 }
    | some m =>
      if !s.drivable i || s.awaitsRecovery i then s
      else
        let s := dropBad i m bad s
        let t := s.tileTemp i
        let band := bandOf t
        let vop := vopOf (s.bistFam i) t (Tab.get 0 i s.bist.vop)
        let alt := (s.familyOf i).alternation
        let cells := passCells s i m
        let segs := segBytes s i m cells
        let leds := if alt then [] else (s.commonCells i m).flatMap fun c => (List.range 3).map (s.ledger c.1 c.2)
        let p : Pass :=
          { tile := i, common := m, alternation := alt, parity := s.parityBit i m, band := band, vop := vop,
            phases := allPhases s i band vop alt (s.parityBit i m) segs leds, segs := segs, cells := cells, ledgers := leds }
        let s := readPass i m band segs (if t < -320 || 1120 ≤ t then detectNote 11 1 s else s)
        let s := { s with bist.vop := Tab.put 0 i vop s.bist.vop, bist.band := Tab.put 0 i band s.bist.band
                          power.activity := true }
        let s := s.modDrive k fun d => { d with next := m + 1 }
        let s := forEach cells (fun c st =>
          let st := putCell c.cx c.cy (withBit (st.stateWord c.cx c.cy) 10 c.run)
            (withBit (st.targetWord c.cx c.cy) 9 false) st
          let st := modTally c.int c.slot (fun t => { t with taken := true }) st
          if c.run then st else settleCell c.int c.slot id (forgetDriven c.int c.slot c.cx c.cy st)) s
        launchPass k p s
  | _, _ => s

/-- A pass is interrupted: its channel is freed, and the pass waits for its recovery (R204). -/
def interruptPass (k : Nat) (s : State) : State :=
  match (s.drive k).pass with
  | none => s
  | some p => { s.modDrive k (fun _ => {}) with bist.interrupted := s.bist.interrupted ++ [p] }

/-- Interrupt the passes of a port's channels, and drop its queued phase packets. -/
def interruptPort (p : Nat) (s : State) : State := interruptPass (2 * p + 1) (interruptPass (2 * p) s)

/-- The drive channel whose pass is on a tile. -/
def State.passOf (s : State) (i : Nat) : Option Nat :=
  (List.range 64).find? fun k => match (s.drive k).pass with | some p => p.tile == i | none => false

/-- A phase of a pass has completed (R193, R195, R190). -/
def phaseCompleted (k : Nat) (p : Pass) (s : State) : State :=
  match p.phases[p.done]? with
  | none => s
  | some ph =>
    let f := s.bistFam p.tile
    let sat := !p.alternation && (p.ledgers.zip ph.segs).any fun x => (ledgerAdd f p.vop ph x.2 x.1).2
    let p := { p with done := p.done + 1, ledgers := if p.alternation then p.ledgers else ledgerPhase f p.vop ph p.ledgers }
    let s := if sat then detectNote 11 0 s else s
    if p.done = p.phases.length then endPass k p s
    else queuePhases k 4 (s.modDrive k fun d => { d with pass := some p })

/-- Take the first received packet of a type from a port (DEDUCED, log 60). -/
def takeRx (p type : Nat) (s : State) : Option (Packet × State) :=
  ((s.port p).rx.find? fun x => x.type == type).map fun x => (x, s.modPort p fun q => { q with rx := q.rx.erase x })

/-- PHASE_DONE: a phase-done report is acted on (R193, R295). A report of a sequence gap interrupts the pass. -/
def phaseDone (p : Nat) (s : State) : State :=
  if !s.portEngineOn p then s
  else
  match takeRx p 3 s with
  | none => s
  | some (x, s) =>
    let i := s.chainOf p * 128 + (x.hop - 1)
    match s.passOf i with
    | none => s
    | some k =>
      match (s.drive k).pass with
      | none => s
      | some pass =>
        let seq := leVal (x.body.take 2)
        if wd x.body 2 = 1 then interruptPass k s
        else if seq = (pass.seq0 + pass.done) % 65536 && pass.done < pass.sent then phaseCompleted k pass s
        else s

/-- The pass that recovers an interrupted one (R204): the balancing phases alone, or the unapplied half of a pair; what is left
of a recovery pass that was itself interrupted (DEDUCED, log 112). -/
def recoveryPass (s : State) (p : Pass) : Pass :=
  let phases := if !p.alternation then balancePhases (s.bistFam p.tile) p.vop p.ledgers
    else if p.recovery then p.phases.drop p.done
    else if p.done % 2 = 1 then (p.phases.drop p.done).take 1
    else []
  { p with phases := phases, done := 0, sent := 0, cells := [], recovery := true, base := if p.recovery then p.base else p.done }

/-- The cells of an interrupted pass become unknown and pending again (R204 step 4). A cell that a later request has taken
meanwhile stays with it, and is handed on for its first owner, for which it was driven (R200). -/
def unknownCells (p : Pass) (s : State) : State :=
  forEach p.cells (fun c st =>
    let w := st.stateWord c.cx c.cy
    let tg := st.targetWord c.cx c.cy
    if !c.run then st
    else if bit tg 9 then
      settleCell c.int c.slot (fun t => { t with handed := t.handed + 1, changed := t.changed + 1 })
        (putCell c.cx c.cy (withBit (withBit w 9 false) 10 false) tg (forgetDriven c.int c.slot c.cx c.cy st))
    else
      let st := { st with bist.redriven := (c.int, c.slot, c.cx, c.cy) :: (forgetDriven c.int c.slot c.cx c.cy st).bist.redriven }
      putCell c.cx c.cy (withBit (withBit (withBit w 9 false) 10 false) 11 c.int) (c.target + 512 + at_ c.slot 10) st) s

/-- A pass of the recovery record leaves undriven sub-cells their ledgers: those of the map (R206). -/
def Pass.mapLedgers (s : State) (p : Pass) : Pass :=
  if p.alternation || !p.fromRecord || p.recovery then p
  else
    let map := (s.commonCells p.tile p.common).flatMap fun c => (List.range 3).map (s.ledger c.1 c.2)
    { p with ledgers := (p.ledgers.zip (p.segs.zip map)).map fun x => if bit x.2.1 7 then x.1 else x.2.2 }

/-- PASS_RECOVERY of the tile at a hop: the channel that holds the tile, or a free one, writes back the ledgers as counted, and
runs the recovery (R204). -/
def passRecovery (p hop : Nat) (s : State) : State :=
  let i := s.chainOf p * 128 + (hop - 1)
  let ks := [2 * s.tileFeeder i, 2 * s.tileFeeder i + 1]
  let holds := fun (k : Nat) => (s.drive k).tile == some i
  match s.bist.interrupted.find? (fun x => x.tile == i),
      (ks.find? holds).orElse fun _ => ks.find? fun k => (s.drive k).tile.isNone with
  | some x, some k =>
    if !s.drivable i || (s.drive k).pass.isSome then s
    else
      let y := x.mapLedgers s
      let s := detectNote 11 3 { s with bist.interrupted := s.bist.interrupted.erase x }
      let s := if y.alternation then s else writeLedgers y (readCommon i y.common s)
      let s := s.modDrive k fun _ => { tile := some i, next := 0 }
      launchPass k (recoveryPass s y) (unknownCells y s)
  | _, _ => s

/-- A pass of the recovery record, as interrupted (R206): in ledger mode each driven sub-cell's ledger starts from the partial sum
of its completed phases; balancing phases among them are computed again, from ledgers of 0 (DEDUCED, log 106). -/
def RecPass.toPass (s : State) (r : RecPass) : Pass :=
  let segs := r.segs.take (3 * ((s.rectOf r.tile).w / 2))
  let phases := allPhases s r.tile r.band r.vop r.alternation r.parity segs (List.replicate segs.length 0)
  let sums := (phases.take r.done).foldl (fun l ph => ledgerPhase (s.bistFam r.tile) r.vop ph l) (List.replicate segs.length 0)
  { tile := r.tile, common := r.common, alternation := r.alternation, parity := r.parity, band := r.band, vop := r.vop,
    done := r.done, phases := phases, segs := segs, cells := [],
    ledgers := if r.alternation then [] else (sums.zip segs).map fun x => if bit x.2 7 then x.1 else 0,
    fromRecord := true }

/-- RECOVER starts (R206). -/
def bistRecover (s : State) : State :=
  let good := s.bist.recPasses.filter fun r => s.isTile r.tile && (s.familyOf r.tile).bistable
  let s := { s with bist.recovering := true, bist.recPasses := good,
                    bist.interrupted := s.bist.interrupted ++ good.map (RecPass.toPass s) }
  if good.isEmpty then rerunUpdates s else s

/-- INTERNAL_REQUEST_START: the oldest waiting internal request takes an internal number (R201, R218). `bad`: the cells whose
target or state record met an uncorrectable error. -/
def internalStart (bad : List (Nat × Nat)) (s : State) : State :=
  match s.bist.queue, (List.range 64).find? fun k => (s.flight k).isNone with
  | r :: rest, some k =>
    let s := { s with bist.queue := rest }.setFlight k (some r)
    let colour := match r.kind with
      | .back _ => some [fld s.res.back 7 0, fld s.res.back 15 8, fld s.res.back 23 16]
      | _ => none
    let past := colour.isNone && decide (s.capacity < r.addr + (r.ch - 1) * r.pitch + r.cw * 3)
    let s := visitRegion true k r.cx r.cy r.cw r.ch r.addr r.pitch colour bad s
    let s := if past then (match r.kind with | .mirror _ => detectNote 12 0 s | _ => detectNote 11 2 s) else s
    settle true k s
  | _, _ => s

end Sys2Proof.Machine
end

