-- ==== Sys2Proof/Machine/Nvs.lean ====
section
/-!
DEFINITION. The non-volatile store: logical pages and their copies (R354 to R356), passwords (R362), the Mace check
(R364, R365), page writes (R357 to R359), the operation queue (R360), log entries (R368, R369), the device spare
map's pages (R402), saves (R370 to R376) and the start-up scan (R375).
-/

namespace Sys2Proof.Machine

/-! ### Pages -/

/-- Logical pages of a partition (R355). -/
def partPages (part : Nat) : Nat :=
  match part with
  | 0 => 16 | 1 => 16 | 2 => 64 | 3 => 26 | 4 => 1 | _ => 0

/-- The first physical page of a partition (R355). -/
def partBase (part : Nat) : Nat :=
  match part with
  | 0 => 0 | 1 => 16 | 2 => 50 | 3 => 178 | _ => 48

/-- The physical pages assigned to a logical page: one for factory, a pair otherwise (R355). -/
def physAssigned (part k : Nat) : List Nat :=
  if part = 0 then [k] else [partBase part + 2 * k, partBase part + 2 * k + 1]

/-- Physical page p of the store. -/
def State.phys (s : State) (p : Nat) : Phys := Tab.get {} p s.nvs.pages
/-- Replace physical page p. -/
def State.setPhys (p : Nat) (v : Phys) (s : State) : State := { s with nvs.pages := Tab.put {} p v s.nvs.pages }

/-- The page that serves an assigned physical page: a wear spare where one has replaced it (R357, R359). -/
def State.serving (s : State) (p : Nat) : Nat := Tab.get p p s.nvs.replaced

/-- The 2,048 data bytes of a physical page. -/
def Phys.bytes (g : Phys) : List Nat := (List.range 2048).map fun i => Tab.get 0 i g.data

/-- Does the header of a page name the logical page (R356)? -/
def Phys.names (g : Phys) (part k : Nat) : Bool := g.hchk && g.part == part && g.lpage == k

/-- Is the page a valid copy of the logical page (R356)? -/
def Phys.valid (g : Phys) (part k : Nat) : Bool := g.names part k && g.dcrc == crc32 g.bytes

/-- The valid copy with the higher SEQ, if there is one (R356). -/
def State.bestCopy (s : State) (part k : Nat) : Option (Nat × Phys) :=
  ((physAssigned part k).map fun p => (s.serving p, s.phys (s.serving p))).foldl
    (fun best c => if c.2.valid part k && (match best with | some b => decide (b.2.seq < c.2.seq) | none => true)
                   then some c else best) none

/-- What a read of a logical page returns: its data, all 0 where no header names it, none where it cannot be
read (R356). -/
def State.readPage (s : State) (part k : Nat) : Option (Tab Nat) :=
  match s.bestCopy part k with
  | some c => some c.2.data
  | none => if (physAssigned part k).any (fun p => (s.phys (s.serving p)).names part k) then none else some []

/-- Byte i of a logical page, 0 where it cannot be read. -/
def State.pageByte (s : State) (part k i : Nat) : Nat := Tab.get 0 i ((s.readPage part k).getD [])

/-- n little-endian bytes of a logical page at i. -/
def State.pageLe (s : State) (part k i n : Nat) : Nat := leVal ((List.range n).map fun j => s.pageByte part k (i + j))

/-- Wear spares not yet used (R359): pages 230 to 255 whose header replaces nothing; a spare that was itself retired stays used. -/
def State.freeSpares (s : State) : List Nat :=
  ((List.range 26).map (· + 230)).filter fun p => (s.phys p).replaces == 0xFF && !s.nvs.replaced.any (fun r => r.2 == p)

/-! ### The Mace check (R364, R365) -/

/-- E_avail in µJ at a VHOLD in mV (R364). -/
def energyAt (cap mv : Nat) : Nat := cap * (mv * mv - 7290000) / 2000000

/-- E_need(n) in µJ (R364). -/
def energyNeed (n : Nat) : Nat := divUp (5 * (100 + 150 * n)) 4

/-- A Mace check samples VHOLD and records the energies (R365, R378). -/
def maceSample (n : Nat) (s : State) : State :=
  { s with nvs.vholdMv := s.nvs.vhold, nvs.availUj := satU (energyAt s.nvs.capUf s.nvs.vhold) 16,
           nvs.needUj := satU (energyNeed n) 16 }

/-- The level of PWRFAIL_N as a Mace check finds it: once low, no command tells when it rises, so that it is a free value
from then on until it is found high (R365, R435; DESIGN CHOICE, log 22). -/
def pinSample (s : State) : State :=
  if s.nvs.pwrfailHigh then s
  else { s.tickFree with nvs.pwrfailHigh := Config.freeValue s.free % 2 == 1 }

/-- The Mace check of a page write: 0 passes; 1 supply, 2 energy, as the MEDIA reasons (R365). -/
def maceReason (s : State) : Nat :=
  if !s.nvs.pwrfailHigh || !s.nvs.supplyOk then 1
  else if energyAt s.nvs.capUf s.nvs.vhold < energyNeed 1 then 2
  else 0

/-! ### Page writes (R357, R359) -/

/-- A logical page's data with bytes replaced from off. -/
def mergeData (d : Tab Nat) (off : Nat) : List Nat → Tab Nat
  | [] => d
  | b :: bs => mergeData (Tab.put 0 off (b % 256) d) (off + 1) bs

/-- The physical page that a write of a logical page targets, before wear and read-back (R357 step 2): the one that
does not hold the present valid copy, or the first. -/
def writeTarget (s : State) (part k : Nat) : Nat :=
  let ps := (physAssigned part k).map s.serving
  match s.bestCopy part k with
  | some c => (ps.find? (· != c.1)).getD (ps.headD 0)
  | none => ps.headD 0

/-- The assigned page that a serving page stands for (R359). -/
def assignedOf (s : State) (p : Nat) : Nat := ((s.nvs.replaced.find? fun r => r.2 == p).map (·.1)).getD p

/-- The data and header of a page written whole (R357 steps 3 to 5). -/
def programPage (p part k seq : Nat) (d : Tab Nat) (s : State) : State :=
  let old := s.phys p
  s.setPhys p { old with part := part, lpage := k, seq := seq, hchk := true, data := d, wear := min (old.wear + 1) 0xFFFFFF,
                         dcrc := crc32 ({ old with data := d } : Phys).bytes }

/-- Retire page p and engage the lowest unused wear spare (R359); none where no spare is left. -/
def retirePage (p : Nat) (s : State) : Option (Nat × State) :=
  match s.freeSpares with
  | [] => none
  | sp :: _ =>
    let a := assignedOf s p
    let s := { s with nvs.replaced := Tab.put a a sp (s.nvs.replaced.filter fun r => r.1 != a) }
    some (sp, s.setPhys sp { s.phys sp with replaces := p })

/-- Queue a log entry as an internal append; past 64 waiting appends its producer holds it (R369). -/
def logAppend (kind : Nat) (payload : List Nat) (s : State) : State :=
  let op := NvsOp.append kind s.time.count payload
  let waiting := (s.nvs.queue.filter fun o => match o with | .append _ _ _ => true | _ => false).length
  if waiting < 64 then { s with nvs.queue := s.nvs.queue ++ [op] }
  else { s with nvs.heldAppends := s.nvs.heldAppends ++ [op] }

/-- What a retirement reports: log entry of kind 3, NVS event of kind 2, NVS_FLAGS.SPARE (R359, R377). -/
def reportRetire (p sp : Nat) (s : State) : State :=
  s |> logAppend 3 [p + at_ sp 8] |> raiseEvent 4 9 [2, p + at_ sp 8, s.freeSpares.length, 0] |> detectNote 4 1

/-- A page write (R357): status and reason with the new store. `fails`: the target fails its second read-back. -/
def pageWrite (part k off : Nat) (bytes : List Nat) (fails : Bool) (s : State) : Nat × Nat × State :=
  let d := mergeData ((s.readPage part k).getD []) off bytes
  let seq := match s.bestCopy part k with | some c => c.2.seq + 1 | none => 1
  let t := writeTarget s part k
  if fails || 1000000 ≤ (s.phys t).wear then
    match retirePage t s with
    | some (sp, s) => (0, 0, reportRetire t sp (programPage sp part k seq d s))
    | none => (7, 3, s |> raiseEvent 4 9 [3, t + at_ 0xFF 8, 0, 0] |> detectNote 4 2)
  else (0, 0, programPage t part k seq d s)

/-- Steps 3 and on have begun on the target: its header cell is erased, so that an interruption leaves the old
copy (R357 step 3, R358); a worn target is retired before the write and is not erased (R359). -/
def eraseTarget (part k : Nat) (s : State) : State :=
  let t := writeTarget s part k
  if 1000000 ≤ (s.phys t).wear then s
  else s.setPhys t { s.phys t with part := 0xFF, lpage := 0, seq := 0, data := [], dcrc := 0 }

/-! ### Log entries and the spare map -/

/-- The 32 bytes of a log entry (R368). -/
def logEntry (kind eseq time : Nat) (payload : List Nat) : List Nat :=
  bytesOfWords ([kind, eseq % 2 ^ 32, time % 2 ^ 32, time / 2 ^ 32 % 2 ^ 32] ++
    ((List.range 4).map fun i => wd payload i % 2 ^ 32))

/-- The log page and byte of entry ESEQ (R369). -/
def logSlot (eseq : Nat) : Nat × Nat :=
  let slot := (eseq - 1) % 2560
  (24 + slot / 64, slot % 64 * 32)

/-- Place 32-bit words in a page at stated offsets; the rest is 0. -/
def pageOf (ws : List (Nat × Nat)) : List Nat :=
  let d := ws.foldl (fun d w => mergeData d w.1 (leBytes 4 w.2)) ([] : Tab Nat)
  (List.range 2048).map fun i => Tab.get 0 i d

/-- FAILED bits of span i's engines, j = 0 to 8 (R402, R406). -/
def State.engineFailed (s : State) (i : Nat) : Nat :=
  (List.range 9).foldl (fun a j => if (s.engine (9 * i + j)).failed then a + 2 ^ j else a) 0

/-- SPAN_PIPE_MAP slots of span i as one field (R406); 7 where the pipe of a port has failed and none replaces it. -/
def State.pipeMapBits (s : State) (i : Nat) : Nat :=
  (List.range 4).foldl (fun a j =>
    let k := wd (s.span i).slots j
    a + at_ (if bit (s.span i).pipeFailed k then 7 else k) (3 * j)) 0

/-- Memory channel m. -/
def State.channel (s : State) (m : Nat) : Channel := Tab.get {} m s.memc.channels
/-- Replace memory channel m. -/
def State.setChannel (m : Nat) (v : Channel) (s : State) : State :=
  { s with memc.channels := Tab.put {} m v s.memc.channels }

/-- Page 20 to 23 of the device spare map (R402) (DEDUCED, log 28). -/
def spareMapPage (s : State) (page : Nat) : List Nat :=
  if page = 20 then
    pageOf ([(0, 1)] ++
      ((List.range 8).map fun i => (4 + 4 * i, (s.span i).spareFor + at_ (s.engineFailed i) 4 + at_ (s.span i).pipeFailed 16)) ++
      ((List.range 8).map fun i => (0x24 + 4 * i, s.pipeMapBits i)) ++
      ((List.range 32).map fun p => (0x44 + 4 * p, (s.port p).retired % 8)) ++
      ((List.range 16).map fun m => (0xC4 + 4 * m, (s.channel m).remaps.length + at_ (s.channel m).repaired 8)))
  else if page = 21 then
    pageOf ((List.range 8).flatMap fun i =>
      ((s.span i).sramRepairs.zipIdx.map fun r => (0x100 * i + 4 * r.2, r.1.2 + at_ r.1.1 16 + at_ 1 31)))
  else
    pageOf ((List.range 8).flatMap fun j =>
      (((s.channel (j + 8 * (page - 22))).remaps.zipIdx).map fun r => (0x100 * j + 4 * r.2, r.1 % 2 ^ 24 + at_ 1 31)))

/-- The counter set a save writes next, and its SSEQ (R371, R372). -/
def setBase (b : Nat) : Nat := 10 * b

/-- Is counter set b, 0 for A and 1 for B, valid, and its SSEQ (R372)? -/
def setSeq (s : State) (b : Nat) : Option Nat :=
  if (List.range 10).all (fun k => (s.readPage 2 (setBase b + k)).isSome) &&
      (List.range 10).all (fun k => s.pageLe 2 (setBase b + k) 0 4 == s.pageLe 2 (setBase b) 0 4) &&
      s.pageLe 2 (setBase b) 0 4 ≠ 0
  then some (s.pageLe 2 (setBase b) 0 4) else none

/-- The newest valid counter set (R372). -/
def newestSet (s : State) : Option (Nat × Nat) :=
  match setSeq s 0, setSeq s 1 with
  | none, none => none
  | some a, none => some (0, a)
  | none, some b => some (1, b)
  | some a, some b => if a < b then some (1, b) else some (0, a)

/-! ### Saves (R373 to R376) -/

/-- Pages of the recovery record (R374): 0 for a record with no entries. -/
def recordPages (record : List Nat) : Nat := divUp record.length 2044

/-- The log pages that the queued log writes touch (R374). -/
def queuedLogPages (s : State) : Nat :=
  let appends := (s.nvs.queue.filter fun o => match o with | .append _ _ _ => true | _ => false).length
  let ring := ((List.range appends).map fun i => (logSlot (s.nvs.logHead + i)).1).eraseDups.length
  let maps := ((s.nvs.queue.filterMap fun o => match o with | .spareMap p => some p | _ => none)).eraseDups.length
  ring + maps

/-- The tier of a save: the first whose energy passes, 1 to 3; 0 for none (R374). -/
def saveTier (s : State) (record : List Nat) : Nat :=
  let e := energyAt s.nvs.capUf s.nvs.vhold
  let l := queuedLogPages s
  if energyNeed (l + recordPages record + 10) ≤ e then 1
  else if energyNeed (l + 10) ≤ e then 2
  else if energyNeed 10 ≤ e then 3
  else 0

/-- The present values that a save writes (R370, R373). -/
def saveValues (s : State) : SaveCopy :=
  { life := s.nvs.life, cycles := s.nvs.cycles, time := s.time.count, epoch := s.age.epoch,
    tileSeconds := s.nvs.tileSeconds, record := recordBytes s }

/-- A page write of a save: it passed the Mace check whole. -/
def saveWrite (part k : Nat) (bytes : List Nat) (s : State) : State := (pageWrite part k 0 bytes false s).2.2

/-- Carry out one queued log write as part of a save (R374). -/
def flushLogWrite (op : NvsOp) (s : State) : State :=
  match op with
  | .append kind time payload =>
    let (page, off) := logSlot s.nvs.logHead
    let s := (pageWrite 2 page off (logEntry kind s.nvs.logHead time payload) false s).2.2
    { s with nvs.logHead := s.nvs.logHead + 1 }
  | .spareMap page => saveWrite 2 page (spareMapPage s page) s
  | _ => s

/-- Is the operation an internal log write? -/
def NvsOp.isInternal : NvsOp → Bool
  | .append _ _ _ => true
  | .spareMap _ => true
  | _ => false

/-- Write the counter set with its save descriptor (R371, R372): pages 1 to 9 first, page 0 last. -/
def writeCounterSet (v : SaveCopy) (rpages kind : Nat) (s : State) : State :=
  let (b, seq) := match newestSet s with
    | none => (0, 1)
    | some (n, q) => (1 - n, q + 1)
  let s := { s with nvs.leftOut := Tab.put false b (rpages == 0 && !v.record.isEmpty) s.nvs.leftOut }
  let s := forEach (List.range 9) (fun k st => saveWrite 2 (setBase b + 1 + k)
    (bytesOfWords (seq :: (List.range 511).map fun i =>
      if 511 * k + i < 4096 then Tab.get 0 (511 * k + i) v.tileSeconds else 0)) st) s
  saveWrite 2 (setBase b) ((bytesOfWords [seq, v.life, v.cycles, v.time % 2 ^ 32, v.time / 2 ^ 32, v.epoch, rpages + at_ kind 5]) ++
    List.replicate 2020 0) s

/-- Write the pages of a save of the given tier (R374). -/
def writeSave (tier kind1 : Nat) (v : SaveCopy) (s : State) : State :=
  if tier = 0 then s
  else
    let logs := s.nvs.queue.filter NvsOp.isInternal
    let s := if tier ≤ 2 then forEach logs flushLogWrite { s with nvs.queue := s.nvs.queue.filter fun o => !o.isInternal }
             else s
    let seq := match newestSet s with | none => 1 | some (_, q) => q + 1
    let r := if tier = 1 then recordPages v.record else 0
    let s := forEach (List.range r) (fun k st => saveWrite 3 k
      ((leBytes 4 seq ++ (v.record.drop (2044 * k)).take 2044 ++ List.replicate 2048 0).take 2048) st) s
    writeCounterSet v r (if tier = 1 then kind1 else 3) s

/-- The worst-case pages of a save of the accepted geometry (R366): six log pages, the record with 64 updates and two
passes for each port that can feed a bistable tile, and the counter set (DEDUCED, log 71). -/
def worstSavePages (s : State) : Nat :=
  let feeds := (List.range 32).filter fun p =>
    (s.chainTiles p).any (fun i => (s.familyOf i).bistable) ||
      ((s.chain (partner p)).looped && (s.chainTiles (partner p)).any (fun i => (s.familyOf i).bistable))
  let r := if feeds.isEmpty then 0 else divUp (64 + 64 * 32 + 2 * feeds.length * 784) 2044
  6 + r + 10

/-! ### Passwords (R362, R363) -/

/-- A password of a partition in the key page: the read one at 16 × partition, the write one 8 bytes above
(DESIGN CHOICE, log 72). -/
def passwordOf (s : State) (part : Nat) (write : Bool) : Option Nat :=
  match s.readPage 4 0 with
  | none => none
  | some d => some (leVal ((List.range 8).map fun j => Tab.get 0 (16 * part + (if write then 8 else 0) + j) d))

/-- Check a password (R362): none when it is right, else the DETAIL of the ACCESS completion. -/
def checkPassword (part : Nat) (write : Bool) (pw : Nat) (s : State) : Option Nat × State :=
  if bit s.nvs.locked part then (some 0, s)
  else if passwordOf s part write = some pw then (none, { s with nvs.fails := s.nvs.fails.set part 0 })
  else
    let n := wd s.nvs.fails part + 1
    let s := { s with nvs.fails := s.nvs.fails.set part n }
    if n < 3 then (some (3 - n), s)
    else (some 0, { s with nvs.locked := withBit s.nvs.locked part true }
      |> raiseEvent 4 9 [1, part, s.freeSpares.length, 0] |> detectNote 4 0)

/-! ### The operation queue (R360) -/

/-- The outcome of a register operation: NVS_STATUS, and GLOBAL_BUSY for the long ones (R378, R54). -/
def endRegister (long : Bool) (status reason : Nat) (s : State) : State :=
  let s := { s with nvs.result := status, nvs.reason := reason, nvs.reading := false }
  if long then endLong status s else s

/-- The outcome of a ring operation (R88). -/
def endRing (ring slot status detail : Nat) (s : State) : State :=
  match s.jobAt ring slot with
  | some j => finishJob j status detail s
  | none => s

/-- Deliver an operation's outcome to whoever asked for it. -/
def endOp (op : NvsOp) (status reason okDetail : Nat) (s : State) : State :=
  let d := if status = 0 then okDetail else reason
  match op with
  | .regRead _ _ _ _ => endRegister false status reason s
  | .regWrite _ _ _ _ => endRegister true status reason s
  | .regSave => endRegister true status reason s
  | .setPassword _ _ => endRegister true status reason s
  | .ringRead r sl _ _ _ _ _ => endRing r sl status d s
  | .ringWrite r sl _ _ _ _ => endRing r sl status d s
  | .ringSave r sl => endRing r sl status d s
  | .append _ _ _ => s
  | .spareMap _ => s
  | .powerSave => s

/-- The logical page that a page-write operation targets. -/
def NvsOp.target (s : State) : NvsOp → Option (Nat × Nat)
  | .regWrite part page _ _ => some (part, page)
  | .setPassword _ _ => some (4, 0)
  | .ringWrite _ _ part page _ _ => some (part, page)
  | .append _ _ _ => some (2, (logSlot s.nvs.logHead).1)
  | .spareMap page => some (2, page)
  | _ => none

/-- Does the operation write no byte (R357)? -/
def NvsOp.writesNothing : NvsOp → Bool
  | .regWrite _ _ _ len => len == 0
  | .ringWrite _ _ _ _ _ data => data.isEmpty
  | _ => false

/-- The next operation that may start: the oldest, but for internal log writes that wait for a retry (R360, R365). -/
def nextOp (s : State) : Option (NvsOp × List NvsOp) :=
  match s.nvs.queue with
  | [] => none
  | _ =>
    match s.nvs.queue.find? (fun o => !(s.nvs.retry && o.isInternal)) with
    | none => none
    | some o => some (o, s.nvs.queue.erase o)

/-- Take a held append of a producer into the queue (R369). -/
def admitHeld (s : State) : State :=
  match s.nvs.heldAppends with
  | [] => s
  | o :: rest => { s with nvs.queue := s.nvs.queue ++ [o], nvs.heldAppends := rest }

/-- Start the next store operation while the store is idle and its start-up scan has ended: the Mace check of a page write or save, then the work
begins; what is refused, or writes nothing, ends at once (R357, R360, R365, R374) (DEDUCED, log 30). -/
def nvsKick : Nat → State → State
  | 0, s => s
  | fuel + 1, s =>
    if s.nvs.current.isSome || !s.nvs.scanned then s
    else
      match nextOp s with
      | none => s
      | some (op, rest) =>
        match op.target s with
        | some (part, page) =>
          if op.writesNothing then nvsKick fuel (endOp op 0 0 0 { s with nvs.queue := rest })
          else
            let s := maceSample 1 (pinSample s)
            let reason := maceReason s
            if reason = 0 then eraseTarget part page { s with nvs.queue := rest, nvs.current := some op }
            else if op.isInternal then nvsKick fuel (detectNote 4 4 { s with nvs.retry := true })
            else nvsKick fuel (endOp op 7 reason 0 (detectNote 4 4 { s with nvs.queue := rest }))
        | none =>
          match op with
          | .regSave | .ringSave _ _ =>
            let v := saveValues s
            let n := queuedLogPages s + recordPages v.record + 10
            let s := maceSample n (pinSample s)
            let reason := if !s.nvs.pwrfailHigh || !s.nvs.supplyOk then 1
              else if energyAt s.nvs.capUf s.nvs.vhold < energyNeed n then 2 else 0
            if reason = 0 then { s with nvs.queue := rest, nvs.current := some op, nvs.keepCopy := some v }
            else nvsKick fuel (endOp op 7 reason 0 (detectNote 4 4 { s with nvs.queue := rest }))
          | _ => { s with nvs.queue := rest, nvs.current := some op }

/-- Start whatever may start. -/
def nvsGo (s : State) : State := nvsKick (s.nvs.queue.length + 1) s

/-- Put an operation at the end of the queue and start it if the store is idle (R360). -/
def nvsRequest (op : NvsOp) (s : State) : State := nvsGo { s with nvs.queue := s.nvs.queue ++ [op] }

/-- A log entry of the controller: queued, and started if the store is idle (R369). -/
def logWrite (kind : Nat) (payload : List Nat) (s : State) : State := nvsGo (logAppend kind payload s)

/-- A rewrite of a page of the device spare map (R402): queued unless one for the page waits already. -/
def spareMapWrite (page : Nat) (s : State) : State :=
  if s.nvs.queue.contains (.spareMap page) then s else nvsRequest (.spareMap page) s

/-- A byte of NVS_BUF. -/
def State.bufByte (s : State) (i : Nat) : Nat := fld (s.rd (.nvsBuf (i / 4))) (8 * (i % 4) + 7) (8 * (i % 4))

/-- Put bytes into NVS_BUF from byte i on (R378). -/
def bufPut (i : Nat) : List Nat → State → State
  | [], s => s
  | b :: bs, s =>
    bufPut (i + 1) bs (s.wr (.nvsBuf (i / 4)) (withFld (s.rd (.nvsBuf (i / 4))) (8 * (i % 4) + 7) (8 * (i % 4)) b))

/-- The bytes of a logical page from off, len of them; none where it cannot be read (R356). -/
def pageBytes (s : State) (part page off len : Nat) : Option (List Nat) :=
  (s.readPage part page).map fun d => (List.range len).map fun j => Tab.get 0 (off + j) d

/-- NVS_READ_END: a store read ends; the valid copy is returned, or MEDIA with reason 0x04 (R356, R361). -/
def nvsReadEnd (s : State) : State :=
  match s.nvs.current with
  | some (.regRead part page off len) =>
    let s := { s with nvs.current := none }
    nvsGo (match pageBytes s part page off len with
      | some b => endOp (.regRead part page off len) 0 0 0 (bufPut off b s)
      | none => endOp (.regRead part page off len) 7 4 0 s)
  | some (.ringRead r sl part page off len host) =>
    let s := { s with nvs.current := none }
    nvsGo (match pageBytes s part page off len with
      | some b => endOp (.ringRead r sl part page off len host) 0 0 len (if len = 0 then s else s.emit (.hostWrite host b))
      | none => endOp (.ringRead r sl part page off len host) 7 4 0 s)
  | _ => s

/-- What a page write puts into its page: offset and bytes. -/
def NvsOp.content (s : State) : NvsOp → Nat × List Nat
  | .regWrite _ _ off len => (off, (List.range len).map fun j => s.bufByte (off + j))
  | .setPassword part write => (16 * part + (if write then 8 else 0), leBytes 8 s.nvs.newPass)
  | .ringWrite _ _ _ _ off data => (off, data)
  | .append kind time payload => ((logSlot s.nvs.logHead).2, logEntry kind s.nvs.logHead time payload)
  | .spareMap page => (0, spareMapPage s page)
  | _ => (0, [])

/-- NVS_PAGE_WRITE_END: the header is written, or the target was retired, or no spare was left (R357, R359). -/
def nvsPageWriteEnd (fails : Bool) (s : State) : State :=
  match s.nvs.current with
  | none => s
  | some op =>
    match op.target s with
    | none => s
    | some (part, page) =>
      let (off, bytes) := op.content s
      let (status, reason, s) := pageWrite part page off bytes fails { s with nvs.current := none }
      let s := match op with
        | .append kind time payload =>
          if status = 0 then admitHeld { s with nvs.logHead := s.nvs.logHead + 1 }
          else if kind = 1 then admitHeld { s with age.unlogged := s.age.unlogged ++ [time :: payload] }
          else admitHeld s
        | _ => s
      nvsGo (endOp op status reason bytes.length s)

/-- NVS_SAVE_END of a host save (R376): tier 1 from the values taken when it started. -/
def nvsHostSaveEnd (s : State) : State :=
  match s.nvs.current, s.nvs.keepCopy with
  | some .regSave, some v =>
    nvsGo (endOp .regSave 0 0 0 (writeSave 1 4 v { s with nvs.current := none, nvs.keepCopy := none }))
  | some (.ringSave r sl), some v =>
    nvsGo (endOp (.ringSave r sl) 0 0 0 (writeSave 1 4 v { s with nvs.current := none, nvs.keepCopy := none }))
  | _, _ => s

/-- The power-down save starts: it takes the store as soon as the page write in progress ends; queued host
operations are dropped without completion (R360, R374). A page write in progress passed its check and runs to its
end (R365). -/
def startPowerSave (s : State) : State :=
  let s := match s.nvs.current with
    | some op => if (op.target s).isSome then nvsPageWriteEnd false { s with nvs.queue := s.nvs.queue.filter NvsOp.isInternal, nvs.retry := true }
                 else s
    | none => s
  { s with nvs.queue := s.nvs.queue.filter NvsOp.isInternal, nvs.current := some .powerSave, nvs.retry := false }

/-- The power-down save ends: the highest tier whose energy passes is written (R374). KIND 1 for an ordered Off,
2 for a power failure. -/
def endPowerSave (kind : Nat) (v : SaveCopy) (s : State) : State :=
  let tier := saveTier s v.record
  let pages := if tier = 1 then queuedLogPages s + recordPages v.record + 10 else if tier = 2 then queuedLogPages s + 10 else 10
  let s := maceSample pages s
  let s := if tier = 0 then detectNote 4 4 s else writeSave tier kind v s
  { s with nvs.current := none, nvs.keepCopy := none }

/-! ### The start-up scan (R375) -/

/-- The head of the log: one above the largest ESEQ of a readable entry (R369). -/
def findLogHead (s : State) : Nat :=
  1 + ((List.range 40).foldl (fun m k =>
    match s.readPage 2 (24 + k) with
    | none => m
    | some d => (List.range 64).foldl (fun m j =>
        max m (leVal ((List.range 4).map fun i => Tab.get 0 (32 * j + 4 + i) d))) m) 0)

/-- The replacement map from the REPLACES fields of the spares (R359). -/
def findReplaced (s : State) : Tab Nat :=
  ((List.range 26).map (· + 230)).foldl (fun t p =>
    let r := (s.phys p).replaces
    if r = 0xFF || !(s.phys p).hchk then t
    else
      let root := if r < 230 then r else ((t.find? fun e => e.2 == r).map (·.1)).getD r
      Tab.put root root p (t.filter fun e => e.1 != root)) []

/-- The record bytes of a loaded set: only when every record page carries its SSEQ (R375). -/
def loadRecord (s : State) (seq rpages : Nat) : List Nat :=
  if (List.range rpages).all (fun k => (s.readPage 3 k).isSome && s.pageLe 3 k 0 4 == seq)
  then (List.range rpages).flatMap fun k => (List.range 2044).map fun i => s.pageByte 3 k (4 + i)
  else []

/-- The store scan (R375): spare pages, the newest counter set, CYCLES, the log head
(DEDUCED, log 27) (DEDUCED, log 73). -/
def storeScan (s : State) : State :=
  let s := { s with nvs.replaced := findReplaced s }
  let s := { s with nvs.logHead := findLogHead s }
  match newestSet s with
  | none => { s with nvs.cycles := 1, nvs.saveValid := false }
  | some (b, seq) =>
    let page := setBase b
    let desc := s.pageLe 2 page 0x18 4
    { s with nvs.life := s.pageLe 2 page 4 4, nvs.cycles := s.pageLe 2 page 8 4 + 1,
             nvs.lastTime := s.pageLe 2 page 0x0C 8, age.epoch := s.pageLe 2 page 0x14 4,
             nvs.saveSeq := seq, nvs.saveValid := true, nvs.saveKind := fld desc 7 5,
             nvs.recordDropped := fld desc 7 5 == 3 && Tab.get false b s.nvs.leftOut,
             nvs.tileSeconds := (List.range 4096).foldl (fun t i =>
               Tab.put 0 i (s.pageLe 2 (page + 1 + i / 511) (4 + 4 * (i % 511)) 4) t) [] }
      |> installRecord (loadRecord s seq (fld desc 4 0))

end Sys2Proof.Machine
end

