-- ==== Sys2Proof/Machine/Faults.lean ====
section
/-!
DEFINITION. What detections do beyond their record (R385, R387 to R391), and the device spares (R392 to R403):
engines, pipes, SRAM rows and DRAM rows.
-/

namespace Sys2Proof.Machine

/-! ### Detections (R381, R382, R387) -/

/-- FAULTG_INJECT.DRY. -/
def State.dry (s : State) : Bool := s.b .faultgInject 1

/-- The unit in which a detection of unit u is recorded, and whether only as a merge: while a takeover runs, the
replacing engine's faults go to the replaced engine's set (R382). -/
def recordUnit (s : State) (u : Nat) : Nat × Bool :=
  if 22 ≤ u ∧ u < 94 ∧ (u - 22) % 9 = 8 then
    match (List.range 8).find? fun j => (s.engine (u - 22 - 8 + j)).takeover with
    | some j => (u - 8 + j, true)
    | none => (u, false)
  else (u, false)

/-- The detections of one cycle of a unit, in the order of R382, with no action. -/
def detectAll (u : Nat) (ks : List Nat) (forced persist : Bool) (s : State) : State :=
  let (v, merge) := recordUnit s u
  forEach (detectOrder u ks) (fun k st => detectOne v k forced persist merge true st) s

/-- Records every event of a group and then whatever its highest severity asks; used only while FATAL is 0. After
FATAL, detections still set their bits and records but raise no event (R391). -/
def detectGroup (u : Nat) (ks : List Nat) (forced persist : Bool) (s : State) : State :=
  if s.faultg.fatal then
    let (v, merge) := recordUnit s u
    forEach (detectOrder u ks) (fun k st => detectOne v k forced persist merge false st) s
  else detectAll u ks forced persist s

/-- The ports that are UP send CLV and are in Clove; their passes are interrupted (R388, R302, R204). -/
def clovePorts (s : State) : State :=
  forEach s.upPorts (fun p st => interruptPort p (sendClv p (st.modPort p fun q => { q with clove := true, resumeLeft := 0 }))) s

/-- A Halt or Fatal detection reaches the fault logic (R388): the first enters Clove and is recorded and logged
(DEDUCED, log 64). -/
def enterClove (u k sev : Nat) (forced : Bool) (s : State) : State :=
  if s.faultg.clove then { s with faultg.cloveSeverity := max s.faultg.cloveSeverity sev }
  else
    let s := { s with
      faultg.clove := true, faultg.alive := false, faultg.cloveSeverity := sev, faultg.firstValid := true
      faultg.firstSource := sourceIndex u k, faultg.firstSeverity := sev, faultg.firstForced := forced
      faultg.firstTime := s.time.count, faultg.resumeFrames := 0 }
    clovePorts (s.emit (.alive false))
      |> logWrite 4 [sourceIndex u k + at_ sev 12 + at_ (b2n forced) 14, (s.fault u).merge, s.scan.frame % 2 ^ 32, 0]

/-- Scan-out stops at once with no further SYN (R391, R397): windows close and pipes hold nothing. -/
def haltScan (s : State) : State :=
  let s := { s with scan.state := .stopped, scan.windowOpen := false, scan.closed := false, scan.handover := false,
                    scan.placed := none, scan.rephase := false }
  forEach (List.range 40) (fun i st => st.modPipe i fun q => { q with todo := [], col := 0 }) s

/-- The Fatal stop: engines and pipes stop, with what the pipes were sweeping (R391). -/
def fatalStop (s : State) : State :=
  let s := haltScan { s with faultg.fatal := true }
  let s := forEach (List.range 72) (fun e st => st.modEngine e fun g => { g with running := false, takeover := false }) s
  let s := forEach (List.range 8) (fun i st => st.modSpan i fun x => { x with running := false, pipeTakeover := none }) s
  forEach (List.range 40) (fun i st => st.modPipe i fun q => { q with sweep := none, waiting := none }) s

/-- The actions of R387 for the highest severity among positions ks. -/
def faultActions (u : Nat) (ks : List Nat) (forced : Bool) (s : State) : State :=
  match detectOrder u ks with
  | [] => s
  | k :: _ =>
    match severity u k with
    | some 2 => enterClove u k 2 forced s
    | some 3 => fatalStop (enterClove u k 3 forced s)
    | _ => s

/-- A detection with its action. -/
def detect (u k : Nat) (s : State) : State := faultActions u [k] false (detectGroup u [k] false false s)

/-- A detection whose condition persists, with its action (DEDUCED, log 63). -/
def detectLasting (u k : Nat) (s : State) : State := faultActions u [k] false (detectGroup u [k] false true s)

/-! ### Engagements (R400 to R403) -/

/-- A SPARE event (R403). -/
def spareEvent (src kind : Nat) (ws : List Nat) (s : State) : State :=
  raiseEvent src 4 (kind :: ws) s

/-- An engagement or withdrawal: the spare map's page, the KIND 2 entry, and the SPARE event (R401 to R403). -/
def engaged (src kind what cause failed repl source : Nat) (page : Nat) (s : State) : State :=
  spareMapWrite page s
    |> logWrite 2 [what + at_ cause 8, failed, repl, source]
    |> spareEvent src kind [what + at_ cause 8, failed, repl]

/-! ### Engines (R393, R395, R399, R400) -/

/-- The duty, 0 to 7, that engine e serves; none for an idle spare or a failed engine (R10). -/
def State.dutyOf (s : State) (e : Nat) : Option Nat :=
  if (s.engine e).failed then none
  else if e % 9 = 8 then
    (if (s.span (e / 9)).spareFor < 8 then some (s.span (e / 9)).spareFor else none)
  else some (e % 9)

/-- The spare engine of a span is idle and usable. -/
def State.spareEngine (s : State) (sp : Nat) : Bool :=
  (s.span sp).spareFor == 0xF && !(s.engine (9 * sp + 8)).failed &&
    !(List.range 8).any fun j => (s.engine (9 * sp + j)).takeover

/-- An engine fails (R393, R395): the spare takes over, or it is the idle spare and is withdrawn, or nothing replaces
it. -/
def engineFail (e cause : Nat) (s : State) : State :=
  let sp := e / 9
  if (s.engine e).failed then s
  else if e % 9 = 8 && (s.span sp).spareFor = 0xF && !((List.range 8).any fun j => (s.engine (9 * sp + j)).takeover) then
    detectLasting (engineUnit e) 1 (s.modEngine e fun g => { g with failed := true, running := false })
      |> engaged (0x1000 + sp) 2 7 cause e e (sourceIndex (engineUnit e) 1) 20
      |> spareEvent (0x1000 + sp) 3 [7 + at_ cause 8, e, e]
  else if s.spareEngine sp && e % 9 ≠ 8 then
    detectLasting (engineUnit e) 1
      (s.modEngine e fun g => { g with failed := true, running := false, takeover := true, cause := cause })
  else
    detectLasting (engineUnit e) 2 (s.modEngine e fun g => { g with failed := true, running := false })

/-- A running pass of the ports that a duty serves is interrupted (R393). -/
def interruptDuty (sp j : Nat) (s : State) : State := if j < 4 then interruptPort (4 * sp + j) s else s

/-- A checkpoint with its journal replayed: the scheduler's turns after the last fetch, and the descriptor that was fetched and
neither started nor completed, if there is one (R393). -/
def replayed (g : Engine) (l : List JournalEntry) : Engine × Option (Nat × Nat) :=
  l.foldl (fun a x =>
    match x with
    | .fetched ring slot last0 last grants => ({ a.1 with last0 := last0, last := last, grants := grants }, some (ring, slot))
    | .started _ _ => (a.1, none)
    | .completed ring slot => (a.1, if a.2 = some (ring, slot % 65536) then none else a.2)
    | .handed _ _ => a
    | .event _ => a) (g, g.job.map fun j => (j.ring, j.slot % 65536))

/-- The descriptors of engine e that were fetched and not started are fetched again (R393): the one that the journal shows, and
those whose rings are stalled. -/
def fetchAgain (e : Nat) (held : Option (Nat × Nat)) (s : State) : State :=
  let mine := fun (j : Job) => j.engine == e && j.stage == .stalled
  let back := (s.jobs.filter mine).map (fun j => (j.ring, j.slot % 65536)) ++ held.toList
  forEach back (fun x st => st.modRing x.1 fun r => { r with hw := x.2 }) { s with jobs := s.jobs.filter fun j => !mine j }

/-- ENGINE_TAKEOVER_END: the spare restores the failed engine's checkpoint, replays its journal and serves its duty (R393); a
spare that has failed meanwhile takes nothing (R395). -/
def takeoverEnd (e : Nat) (s : State) : State :=
  let g := s.engine e
  let sp := e / 9
  let spare := 9 * sp + 8
  if !g.takeover then s
  else if (s.engine spare).failed then s.modEngine e fun g => { g with takeover := false }
  else
    let (r, held) := replayed (Tab.get {} e s.ckpts) (Tab.get [] e s.journals)
    let s := fetchAgain e held s
    let s := s.setEngine spare { r with bells := g.bells, failed := false, takeover := false, cause := 1, running := !s.faultg.fatal
                                        fetch := none, job := none, ce := (s.engine spare).ce }
    let s := s.checkpoint spare
    let s := s.modEngine e fun g => { g with takeover := false, bells := [], fetch := none, job := none }
    let s := s.modSpan sp fun x => { x with spareFor := e % 9 }
    let s := { s with jobs := s.jobs.map fun j => if j.engine == e then { j with engine := spare } else j }
    -- an outstanding TILE_CMD completes with ABORTED
    let s := forEach (s.jobs.filter fun j => j.engine == spare && j.opcode == 7) (fun j st => finishJob j 6 0 st) s
    let s := interruptDuty sp (e % 9) s
    engaged (0x1000 + sp) 1 1 g.cause e spare (sourceIndex (engineUnit e) 1) 20 s
      |> spareEvent (0x1000 + sp) 3 [1 + at_ g.cause 8, e, spare]

/-- A corrected error in an engine's local memory; at the limit the engine is retired as a failure (R399). -/
def engineCe (e : Nat) (forced : Bool) (s : State) : State :=
  let s := s.modEngine e fun g => { g with ce := min (g.ce + 1) 0xFFFF }
  let s := detectGroup (engineUnit e) [0] forced false s
  if s.f .faultgLimits 23 8 ≤ (s.engine e).ce then engineFail e 2 s else s

/-! ### Pipes (R394, R395, R398) -/

/-- Abandon what a pipe has left of its open frame (R122): its open block closes as a flush does; `count`: UNDERRUNS
advances and the span's underrun source is detected. -/
def abandonFrame (i : Nat) (count : Bool) (s : State) : State :=
  if (s.pipe i).todo.isEmpty then s
  else
    let s := closeBlock i false s
    let s := s.modPipe i fun q => { q with todo := [], col := 0, sentWhole := false,
                                           underruns := if count then (q.underruns + 1) % 65536 else q.underruns }
    let s := s.modCodec i fun c => { c with abandoned := true }
    if count then detectNote (spanUnit (pipeSpan i)) 1 s else s

/-- The spare pipe of a span is idle and usable. -/
def State.sparePipe (s : State) (sp : Nat) : Bool :=
  !bit (s.span sp).pipeFailed 4 && !(s.span sp).slots.contains 4 && (s.span sp).pipeTakeover.isNone

/-- A pipe fails (R394, R395). -/
def pipeFail (i cause : Nat) (s : State) : State :=
  let sp := pipeSpan i
  let u := spanUnit sp
  if s.pipeBad i then s
  else
    let fail := fun (st : State) => st.modSpan sp fun x => { x with pipeFailed := withBit x.pipeFailed (pipeSlot i) true }
    match s.portOf i with
    | none =>
      detect u 7 (fail s)
        |> engaged (0x1000 + sp) 2 7 cause i i (sourceIndex u 7) 20
        |> spareEvent (0x1000 + sp) 3 [7 + at_ cause 8, i, i]
    | some p =>
      let s := abandonFrame i false (fail s)
      if s.sparePipe sp then detect u 5 (s.modSpan sp fun x => { x with pipeTakeover := some p, pipeCause := cause })
      else detectLasting u 6 s

/-! ### SRAM rows (R396) and DRAM rows (R397) -/

/-- FAULTG_LIMITS.ROW_CE. -/
def State.rowLimit (s : State) : Nat := s.f .faultgLimits 7 0

/-- A row of span SRAM must be replaced: a spare row of its array takes it, or none is left. -/
def sramReplace (sp array row cause : Nat) (s : State) : State :=
  let u := spanUnit sp
  let used := ((s.span sp).sramRepairs.filter fun r => r.1 == array).length
  if (s.span sp).sramRepairs.contains (array, row) then s
  else if used < 4 then
    let s := s.modSpan sp fun x => { x with sramRepairs := x.sramRepairs ++ [(array, row)] }
    let failed := at_ sp 28 + at_ array 16 + row
    let s := detect u 3 s |> engaged (0x1000 + sp) 1 4 cause failed used (sourceIndex u 3) 21
    if used = 3 then spareEvent (0x1000 + sp) 3 [4 + at_ cause 8, failed, used] s else s
  else detectLasting u 4 s

/-- The effect of an uncorrectable word on its region (R396) (DEDUCED, log 86). -/
def sramRegion (sp : Nat) (r : SramRegion) (s : State) : State :=
  let pipe := fun (j : Fin 5) => if j.val < 4 then 4 * sp + j.val else 32 + sp
  match r with
  | .lineScan j => abandonFrame (pipe j) true s
  | .lineLane j => s.modPipe (pipe j) fun q =>
      match q.sweep with | some r => { q with waiting := some r, sweep := none } | none => q
  -- every span's copy is the accepted geometry, so the next span's copy gives the same words back
  | .geometry => s
  | .engine j => if (s.engine (9 * sp + j.val)).running then s.checkpoint (9 * sp + j.val) else s
  | .fennel i n => s.modCell (64 * i.val + n.val) ResCell.reentered
  | .other => s

/-- A corrected error of a row of span SRAM. -/
def sramCe (sp array row : Nat) (s : State) : State :=
  let key := array * 65536 + row
  let n := Tab.get 0 key (s.span sp).sramCe + 1
  let s := s.modSpan sp fun x => { x with sramCe := Tab.put 0 key n x.sramCe }
  if s.rowLimit ≤ n then sramReplace sp array row 2 s else s

/-- An uncorrectable word of a row of span SRAM; a row of a failed pipe's line buffer is never spared (R394, R396). -/
def sramUe (sp array row : Nat) (r : SramRegion) (s : State) : State :=
  let s := detect (spanUnit sp) 2 s
  let gone := match r with
    | .lineScan j => bit (s.span sp).pipeFailed j.val
    | .lineLane j => bit (s.span sp).pipeFailed j.val
    | _ => false
  if gone then s else sramRegion sp r (sramReplace sp array row 1 s)

/-- A retired row's content moves, its uncorrectable words written as 0 (R397): how many they are, and at which device
addresses of channel m, is left open, for no rule maps rows to addresses (DESIGN CHOICE, log 66: free values). -/
def zeroWords (m : Nat) (s : State) : State :=
  let n := Config.freeValue s.free
  let moved := forEach (List.range n) (fun k st =>
    let a := 4096 * Config.freeValue (s.free + 1 + 2 * k) + 256 * m + 32 * (Config.freeValue (s.free + 2 + 2 * k) % 8)
    if a + 32 ≤ st.capacity then st.puts a (List.replicate 32 0) else st) s
  { moved with free := s.free + 1 + 2 * n }

/-- No repair is left for the die of a row of channel m (R397). -/
def State.dieSpent (s : State) (m row : Nat) : Bool :=
  let c := s.channel m
  decide (Config.dieRepairs m (fld row 1 0) c.repaired ≤ (c.repairs.filter fun r => fld r.1 1 0 == fld row 1 0).length)

/-- Row `row` of channel m has been remapped with c the channel before: the spare map, the log, and at the last remap the
end of the remaps; no spare is left where the row's die has no repair either (R397, R400 to R403) (DEDUCED, log 116). -/
def dramRemapped (m row cause : Nat) (c : Channel) (s : State) : State :=
  let s := engaged 13 1 5 cause (at_ m 28 + row) c.remaps.length (sourceIndex (channelUnit m) 1) (22 + m / 8) s
  if c.remaps.length = 63 then
    let s := detect 13 0 s
    if s.dieSpent m row then spareEvent 13 3 [5 + at_ cause 8, at_ m 28 + row, c.remaps.length] s else s
  else s

/-- Row `row` of channel m waits for the repair of its die at the next start-up (R397); the die's last repair leaves no spare
(R400) (DEDUCED, log 116). -/
def dramReserve (m row cause : Nat) (s : State) : State :=
  let c := s.channel m
  let s := zeroWords m (s.setChannel m { c with repairs := c.repairs ++ [(row, cause)] })
  if s.dieSpent m row then
    spareEvent 13 3 [6 + at_ cause 8, at_ m 28 + row, Config.freeValue s.free % 2 ^ 32] s.tickFree
  else s

/-- A DRAM row must be retired: a remap, else a repair at the next start-up, else ROW_UNSPARED (R397). -/
def dramRetire (m row cause : Nat) (s : State) : State :=
  let c := s.channel m
  if c.remaps.contains row || c.repairs.any (fun r => r.1 == row) then s
  else if c.remaps.length < 64 then
    dramRemapped m row cause c
      (detect (channelUnit m) 1 (zeroWords m (s.setChannel m { c with remaps := c.remaps ++ [row] })))
  else if s.dieSpent m row then detectLasting 13 1 s
  else dramReserve m row cause s

/-- A corrected error of a DRAM row: the last 256 rows to have one are counted. -/
def dramCe (m row : Nat) (s : State) : State :=
  let c := s.channel m
  let n := ((c.rows.find? fun r => r.1 == row).map (·.2)).getD 0 + 1
  let rows := (c.rows.filter fun r => r.1 != row) ++ [(row, n)]
  let s := s.setChannel m { c with rows := rows.drop (rows.length - 256) }
  if s.rowLimit ≤ n then dramRetire m row 2 s else s

/-- An uncorrectable read of a DRAM row. -/
def dramUe (m row : Nat) (s : State) : State := dramRetire m row 1 (detect (channelUnit m) 0 s)

/-- A memory channel is lost (R397): a Halt that lasts, scan-out stops, memory commands fail. -/
def channelLost (m : Nat) (s : State) : State :=
  if (s.channel m).lost then s
  else
    let s := { s.setChannel m { s.channel m with lost := true } with memLost := true }
    haltScan (detectLasting (channelUnit m) 2 s)

/-- What the checks of device memory and of the engines' local memories found during an access of a command or an engine
(R386, R397, R399). -/
def memoryCheck (c : Check) (s : State) : State :=
  match c with
  | .engineCe e => engineCe e.val false s
  | .engineUe e => engineFail e.val 1 s
  | .dramCe m r => dramCe m.val r s
  | .dramUe m r => dramUe m.val r s
  | _ => s

/-- The checks found an uncorrectable word of device memory. -/
def Check.uncorrectable : Check → Bool
  | .dramUe _ _ => true
  | _ => false

/-- The cells that a command names as lying in an uncorrectable word, if one was found. -/
def badCells (c : Check) (l : List (Nat × Nat)) : List (Nat × Nat) := if Check.uncorrectable c then l else []

/-- What a memory's checks found during an access of pipe i. -/
def applyCheck (i : Nat) (c : Check) (s : State) : State :=
  match c with
  | .ok => s
  | .residue => pipeFail i 1 s
  | .sramCe a r => sramCe (pipeSpan i) a.val r.val s
  | .sramUe a r g => sramUe (pipeSpan i) a.val r.val g s
  | .dramCe m r => dramCe m.val r s
  | .dramUe m r => dramUe m.val r s
  | .engineCe e => engineCe e.val false s
  | .engineUe e => engineFail e.val 1 s

/-- What a self-test found; a span's spares engage with the given cause (R399, R413). -/
def applyTestFail (cause : Nat) (f : TestFail) (s : State) : State :=
  match f with
  | .engine e => engineFail e.val cause s
  | .pipe i => pipeFail i.val cause s
  | .sramRow sp a r => sramReplace sp.val a.val r.val cause s

end Sys2Proof.Machine
end

