-- ==== Sys2Proof/Machine/Clock.lean ====
section
/-!
DEFINITION. The passing of always-on cycles: TIME and TIMECLK (R347, R348), the second counters (R370), the symbols
of receiving lanes (R277, R280), and the memory arbiter's grants (R31, R32). It is what a step does with an empty
queue, and what the `dt` of a command stands for.
-/

namespace Sys2Proof.Machine

/-- TIME as the next TIMECLK edge n of a Keep would have it (R348). -/
def keepTime (base n : Nat) : Nat := base + n * 100000000 / 32768 * 10

/-- TIME now, counting the TIMECLK edges of a running Keep (R348). -/
def State.timeNow (s : State) : Nat :=
  if s.power.state = .keep ∧ !s.time.running ∧ s.time.timeclk then keepTime s.time.keepBase s.time.keepEdges else s.time.count

/-- Whole seconds passed: LIFE, and TILE_SECONDS of the tiles that are configured behind a port UP or HELD (R370). -/
def addSeconds (n : Nat) (s : State) : State :=
  if n = 0 then s
  else
    let lit := s.allTiles.filter fun i =>
      ((s.port (s.tileFeeder i)).state == 2 || (s.port (s.tileFeeder i)).state == 3) &&
        (s.hop (i / 128) (i % 128 + 1)).configured
    { s with nvs.life := add32 s.nvs.life n,
             nvs.tileSeconds := lit.foldl (fun t i => Tab.put 0 i (add32 (Tab.get 0 i t) n) t) s.nvs.tileSeconds }

/-- Does lane position l of port p receive (R249, R250)? A port of role NONE has the directions of FEED. -/
def Port.receives (q : Port) (l : Nat) : Bool := if q.role = 2 then l != 3 else l == 3

/-- n cycles of 10 ns on the lanes: a receiving lane counts 8 symbol times a cycle while it is aligned, in PRBS mode
while SYNC is set (R252, R277, R279). -/
def countSymbols (n : Nat) (s : State) : State :=
  forEach (s.ports.map (·.1)) (fun p st =>
    forEach (List.range 4) (fun l st =>
      let x := st.lane p l
      if (st.port p).receives l && (if x.state = 4 then x.sync else x.aligned) then
        st.modLane p l fun x => { x with symbols := min (x.symbols + 8 * n) (2 ^ 64 - 1) }
      else st) st) s

/-! ### The memory arbiter (R31, R32) -/

/-- The place of v in a round robin that goes on at `last`: numbers below it come after all others. -/
def arbTurn (last v : Nat) : Nat := if last ≤ v then v else v + 65536

/-- A channel's choice among the requests that wait for it: the highest class, then that class's round robin over the
groups (the host interface after S7), then that group's over its requesters, then the oldest. -/
def arbPick (c : Channel) (l : List MemReq) : Option MemReq :=
  let cls := l.foldl (fun m r => min m r.cls) 5
  let l := l.filter fun r => r.cls == cls
  let lastGroup := Tab.get 0 cls c.groups
  let g := l.foldl (fun m r => min m (arbTurn lastGroup r.group)) 200000
  let l := l.filter fun r => arbTurn lastGroup r.group == g
  let lastWho := Tab.get 0 (16 * cls + g % 65536) c.whos
  let w := l.foldl (fun m r => min m (arbTurn lastWho r.who)) 200000
  l.find? fun r => arbTurn lastWho r.who == w

/-- The channel after a grant: the turns of the request's class and group go on behind it. -/
def Channel.granted (c : Channel) (r : MemReq) : Channel :=
  { c with groups := Tab.put 0 r.cls (r.group + 1) c.groups
           whos := Tab.put 0 (16 * r.cls + r.group) (r.who + 1) c.whos }

/-- Channel m grants one request, if one waits (DEDUCED, log 77). -/
def arbGrant (m : Nat) (s : State) : State :=
  match arbPick (s.channel m) (s.memc.waiting.filter fun r => r.channel == m) with
  | none => s
  | some r => { s.setChannel m ((s.channel m).granted r) with
                  memc.waiting := s.memc.waiting.erase r }

/-- Every channel grants once, k times over. -/
def arbRounds : Nat → State → State
  | 0, s => s
  | k + 1, s => arbRounds k (forEach (List.range 16) arbGrant s)

/-- The oldest class-4 request that waits for channel m becomes one of class 3. -/
def promoteFirst (m : Nat) : List MemReq → List MemReq
  | [] => []
  | r :: rest => if r.channel == m && r.cls == 4 then { r with cls := 3 } :: rest else r :: promoteFirst m rest

/-- CLASS4_PROMOTION: the oldest class-4 request that waits for channel m has waited 64 µs (R32). -/
def promote (m : Nat) (s : State) : State := { s with memc.waiting := promoteFirst m s.memc.waiting }

/-! ### The passing of time -/

/-- n always-on cycles pass; in Keep, n edges of TIMECLK (R347, R348). -/
def advance (n : Nat) (s : State) : State :=
  if s.time.running then
    let t := s.time.count + 10 * n
    let sec := t / 1000000000 - s.time.count / 1000000000
    let s := arbRounds (min n s.memc.waiting.length) { s with time.count := t }
    addSeconds sec (if n = 0 then s else countSymbols n s)
  else if s.power.state = .keep ∧ s.time.timeclk then
    let e := s.time.keepEdges + n
    addSeconds (e / 32768 - s.time.keepEdges / 32768) { s with time.keepEdges := e }
  else s

end Sys2Proof.Machine
end

