-- ==== Sys2Proof/Machine/Ports.lean ====
section
/-!
DEFINITION. The ports and their lanes (R249 to R280): bring-up, port idle and its exit, lane loss and the spare, the
split of a looped chain, PRBS and injection; and the enumeration of chains (R304 to R308).
-/

namespace Sys2Proof.Machine

/-! ### Lanes -/

/-- The lane whose alignment makes port p UP: U0 for FEED; D0, or D1 where the FEED port has retired D0, for RETURN (R264,
R273). -/
def State.upLane (s : State) (p : Nat) : Nat :=
  if (s.port p).role = 2 then (if bit (s.port (partner p)).retired 0 then 1 else 0) else 3

/-- The downlink data lanes that are in service and not in lane idle, in the order D0, D1, DS. -/
def Port.running (q : Port) : List Nat := (List.range 3).filter fun l => bit q.inService l && !bit q.idle l

/-- The data lanes on which a port sends bursts and idle: U0 for RETURN (R264, R268). -/
def Port.sending (q : Port) : List Nat := if q.role = 2 then [3] else q.running

/-- The data lanes that a port transmits on. -/
def Port.transmits (q : Port) : List Nat := (List.range 4).filter fun l => !q.receives l

/-- Downlink data lanes in service. -/
def Port.served (q : Port) : Nat := ones q.inService 3

/-- DEGRADED: one downlink data lane in service, or split operation as RETURN (R280). -/
def Port.degraded (q : Port) : Bool := (q.role == 1 && q.served == 1) || (q.role == 2 && q.split)

/-- The state of a lane position when its port begins to transmit and receive (R264, R280). -/
def Port.laneStart (q : Port) (l : Nat) : Nat :=
  if q.receives l then (if q.role = 2 && l = 2 && !bit q.inService 2 then 5 else 1)
  else if l = 3 then 2
  else if bit q.retired l then 6
  else if bit q.idle l then 3
  else if bit q.inService l then 2
  else 5

/-- The taps of a receiver adapt: the lane is aligned, in a training burst, or in PRBS sync (R263). -/
def Lane.adapts (x : Lane) : Bool := x.aligned || x.sync || (x.state == 1 && x.clock)

/-- Change a lane; where its taps cease to adapt they keep the values that they have, which nothing gives: a free value (R263)
(DESIGN CHOICE, log 114). -/
def State.turnLane (p l : Nat) (g : Lane → Lane) (s : State) : State :=
  let t := s.modLane p l g
  if (s.lane p l).adapts && !(t.lane p l).adapts then
    (t.modLane p l fun x => { x with taps := Config.freeValue s.free % 2 ^ 30 }).tickFree
  else t

/-- A lane that is no longer received: not aligned, no checker in sync, and nothing of a frame or an alarm kept. -/
def Lane.deaf (x : Lane) : Lane :=
  { x with aligned := false, sync := false, lostAlign := false, frame := [], alarm := none }

/-- Every lane of a port at its starting state. -/
def startLanes (p : Nat) (s : State) : State :=
  let q := s.port p
  forEach (List.range 4) (fun l st => st.turnLane p l fun x => { x.deaf with state := q.laneStart l, clock := false }) s

/-- Every lane of a port off; retired lanes stay so (R267). -/
def stopLanes (p : Nat) (s : State) : State :=
  let q := s.port p
  forEach (List.range 4) (fun l st => st.turnLane p l fun x =>
    { x.deaf with state := if l < 3 && bit q.retired l then 6 else 0, clock := false }) s

/-- Edges of the clock that port p receives are seen: every receiving lane has its clock, and a RETURN port its CK (R273,
R280, R306). -/
def clockSeen (p : Nat) (s : State) : State :=
  let s := s.modPort p fun q => { q with sawCk := q.sawCk || q.role == 2, ckLost := false }
  forEach ((List.range 4).filter (s.port p).receives) (fun l st => st.modLane p l fun x => { x with clock := true }) s

/-- 16 PEI on lanes of a port, its clock stops, and every transmitter enters electrical idle (R267). -/
def sendPei (p : Nat) (s : State) : State :=
  let q := s.port p
  let s := forEach q.sending (fun l st => sendSymbols p l (List.replicate 16 symPei) st) s
  forEach q.transmits (fun l st => lineAct p l 2 st) (lineAct p 4 4 s)

/-- A lane enters lane idle: 16 LEI, then electrical idle (R266). -/
def idleLane (p l : Nat) (s : State) : State :=
  let s := s.modPort p fun q => { q with idle := withBit q.idle l true }
  (lineAct p l 2 (sendSymbols p l (List.replicate 16 symLei) s)).modLane p l fun x => { x with state := 3 }

/-- A lane leaves lane idle with a 64-symbol burst (R266). -/
def wakeLane (p l : Nat) (s : State) : State :=
  let s := s.modPort p fun q => { q with idle := withBit q.idle l false }
  (sendSymbols p l (burst 64) s).modLane p l fun x => { x with state := 2 }

/-- Every idle lane of a port wakes. -/
def wakeLanes (p : Nat) (s : State) : State :=
  forEach ((List.range 3).filter fun l => bit (s.port p).idle l) (fun l st => wakeLane p l st) s

/-! ### Leaving and reaching UP -/

/-- A port's outstanding CONFIG is given up with the enumeration that sent it (R305). -/
def Port.dropConfig (q : Port) : Port := { q with cmds := q.cmds.filter fun c => c.owner != .config }

/-- A port leaves UP: its enumeration is abandoned (R305), its passes lose their clock (R204), and what its queues held is
gone; a broadcast TILE_CMD among it is not sent, and so never completes (DESIGN CHOICE, log 103). -/
def leaveUp (p : Nat) (s : State) : State :=
  let s := interruptPort p s
  s.modPort p fun q => { q.dropConfig with
    enumAgain := q.enumAgain || q.enum != .idle, serves := q.serves && q.enum == .idle, enum := .idle, dsSweep := false
    txRest := [], txSafe := [], txAlr := [], txSyn := [], txCmd := [], bcasts := [], frames := [], rxSeq := none, rxHeld := []
    rxPart := [], rxLost := true, resumeLeft := 0, clove := false }

/-- The tiles behind a port that went down or failed are unreachable: their pending cells are dropped (R202). -/
def dropTiles (p : Nat) (s : State) : State :=
  forEach ((s.fedTiles p).filter fun i => (s.familyOf i).bistable) dropTile s

/-- A bring-up starts (R264): the clock, idle on the lanes in service, nothing in lane idle, the chain whole. -/
def bringUp (p : Nat) (s : State) : State :=
  let s := s.modPort p fun q => { q with
    state := 1, split := false, noPartner := false, uLost := false, idle := 0, dsSweep := false, enum := .idle
    enumAgain := true, sawCk := false, ckLost := false, dsc := false, clove := false, depth := 0, peerIdle := false
    serves := false, txRest := [], txSafe := [], txAlr := [], txSyn := [], txCmd := [], bcasts := [], frames := []
    rxSeq := none, rxHeld := [], rxPart := [], rxLost := true, rx := []
    cmds := q.cmds.filter fun c => match c.owner with | .tile _ _ => true | _ => false }
  let s := forEach [2, 3, 4, 5, 6] (fun k st => clearLive (portUnit p) k st) s
  let s := s.modCodec (s.pipeOf p) fun c => { c with history := [] }
  let s := lineAct p 4 5 (startLanes p s)
  forEach (s.port p).sending (fun l st => sendIdle p l st) s

/-- A port with TEST enabled goes to TEST: its clock runs, and its lanes are OFF until a pattern runs on one (R276)
(DEDUCED, log 19). -/
def testPort (p : Nat) (s : State) : State :=
  let s := s.modPort p fun q => { q with state := 4, split := false, noPartner := false, uLost := false, idle := 0
                                         serves := false, enum := .idle, enumAgain := false, peerIdle := false, depth := 0 }
  lineAct p 4 5 (stopLanes p s)

/-- A port begins port idle (R267): a FEED port sends its PEI and stops its clock, and its partner, still UP, will end its own
idle within 1 ms of it; a RETURN port sends its PEI once it has received PEI. -/
def beginIdle (p : Nat) (next : AfterIdle) (s : State) : State :=
  let s := leaveUp p s
  let s := if (s.port p).role = 2 then s
    else
      let s := sendPei p s
      if (s.chain p).looped && (s.port (partner p)).state = 2 then s.modPort (partner p) fun q => { q with peerIdle := true }
      else s
  s.modPort p fun q => { q with state := 6, afterIdle := next }

/-- A port idle has ended (R267): the port is HELD, or DOWN and, where it was enabled again, brought up (R264, R274, R276). -/
def endIdle (p : Nat) (s : State) : State :=
  let q := s.port p
  let s := if q.role = 2 then sendPei p s else s
  let s := stopLanes p (s.modPort p fun q => { q with depth := 0, peerIdle := false })
  let down := fun (s : State) => dropTiles p (chainEvent p 2 0 0 0 (s.modPort p fun q => { q with state := 0 }))
  match q.afterIdle with
  | .held => chainEvent p 2 0 0 3 (s.modPort p fun q => { q with state := 3 })
  | .down => down s
  | .bringUp => bringUp p (down s)
  | .test => testPort p (down s)

/-- PEI arrives on a port's receiving lane, and its clock stops (R267). -/
def peiReceive (p : Nat) (s : State) : State :=
  let q := s.port p
  if q.state = 6 then endIdle p s
  else if q.state = 2 ∧ q.role = 2 then endIdle p (beginIdle p .held s)
  else s

/-- PORT_IDLE_TIMEOUT: 1 ms has passed since a port began port idle, or, for a RETURN port that has received no PEI, since its
FEED port did (R267). -/
def portIdleTimeout (p : Nat) (s : State) : State :=
  let q := s.port p
  if q.state = 6 then endIdle p s
  else if q.state = 2 ∧ q.role = 2 ∧ q.peerIdle then endIdle p (beginIdle p .held s)
  else s

/-- A HELD port starts its clock again, with a 256-symbol burst on the lanes in service (R268). -/
def exitIdle (p : Nat) (s : State) : State :=
  if (s.port p).state ≠ 3 then s
  else forEach (s.port p).sending (fun l st => sendSymbols p l (burst 256) st) (lineAct p 4 5 (startLanes p s))

/-- May a HELD port become UP: no entry to Hold, Keep or Off runs, and the controller is not at rest in one (R268). -/
def State.portsRun (s : State) : Bool :=
  match s.power.move with
  | .none => s.power.state == .run || s.power.state == .trim || s.power.serving
  | .switch _ => true
  | .wake k => decide (1 ≤ k)
  | .off k => decide (4 ≤ k)
  | .fail k => decide (1 ≤ k)
  | _ => false

/-- A port becomes UP (R264, R268, R388): the CHAIN event, CLV first where Clove is on, and the enumeration. -/
def portUp (p : Nat) (s : State) : State :=
  let q := s.port p
  let s := s.modPort p fun q => { q with
    state := 2, noPartner := false, rxSeq := none, rxHeld := [], rxPart := [], rxLost := true, peerIdle := false }
  let s := chainEvent p 1 0 0 0 (clearLive (portUnit p) 6 s)
  let s := if s.faultg.clove then sendClv p (s.modPort p fun q => { q with clove := true }) else s
  let s := if q.dsc then sendDsc p s else s
  let enumerates := q.enumAgain && (q.role == 1 || (q.role == 2 && q.split))
  s.modPort p fun q => { q with enumAgain := if enumerates then false else q.enumAgain && q.role != 2,
                                enum := if enumerates then .settle true else q.enum }

/-- Does a port listen to lane l: a lane that receives, of a port that is enabled and not looped back (R250, R276)? -/
def State.hears (s : State) (p l : Nat) : Bool :=
  (s.port p).receives l && (s.port p).state != 0 && !s.loops p

/-- LANE_ALIGN: a receiving lane of a port aligns on the groups received at one bit position, which meet R257 (R264, R268)
(DEDUCED, log 62). -/
def laneAlign (p l : Nat) (groups : List Nat) (s : State) : State :=
  let q := s.port p
  if !s.hears p l || q.state = 6 || (q.state = 3 && !s.portsRun) || !aligns groups then s
  else
    let s := (clockSeen p s).modLane p l fun x => { x.align groups with state := if x.state = 4 then 4 else 2 }
    if l = s.upLane p && (q.state = 1 || q.state = 3) then portUp p s else s

/-- PORT_TIMEOUT: a port is still TRAINING at its TIMEOUT (R264). -/
def portTimeout (p : Nat) (s : State) : State :=
  if (s.port p).state = 1 && !(s.port p).noPartner then
    detectLasting (portUnit p) 6 (s.modPort p fun q => { q with noPartner := true })
  else s

/-! ### Splits (R273, R306) -/

/-- The looped chain of FEED port p splits with h (R273): the reversal order, split operation on both ports, the
faults and events, and the enumeration of the parts (R306); `note`: the detection on p. The far part of a chain that was
enumerated whole is served at once, any other part once its enumeration has ended. -/
def splitChainWith (note : State → State) (p h : Nat) (s : State) : State :=
  let r := partner p
  if (s.port p).split || !(s.chain p).looped then s
  else
    let whole := !(s.port p).done || (s.port p).enum != .idle || (s.port p).enumAgain
    let serves := (s.port p).serves && !whole && h != 0
    let s := sendSymbols r 3 [symRev, h, Nat.xor h 0xFF, symRev] s
    let mark := fun (x : Nat) (st : State) => st.modPort x fun q => { q.dropConfig with split := true, splitHop := h }
    let s := mark r (mark p s)
    let s := detectLasting (portUnit r) 3 (note s)
    let s := chainEvent r 4 h 0 0 (chainEvent p 4 h 0 0 s)
    let s := if h = 0 then s
      else s.modPort p fun q => { q with enum := if q.state = 2 then .settle whole else q.enum }
    s.modPort r fun q => { q with enum := if q.state = 2 then .settle (whole || h == 0) else q.enum, enumAgain := q.state != 2
                                  serves := serves }

/-- A split, with its detection. -/
def splitChain (p h : Nat) (s : State) : State := splitChainWith (detectLasting (portUnit p) 3) p h s

/-- SPLIT_TIMEOUT: a RETURN port lost its received CK and no other trigger came within 2 µs (R273). -/
def splitTimeout (p : Nat) (s : State) : State :=
  let q := s.port p
  if q.role = 2 && q.ckLost && !q.split then splitChain (partner p) 0 s else s

/-- The loss of U0 or UCK as a FEED port sees it: its own (k = 0) or one that hop k reports (R272). -/
def uplinkLost (p k : Nat) (s : State) : State :=
  if (s.chain p).looped then splitChain p (k + 1) s
  else if (s.port p).uLost then s
  else detectLasting (portUnit p) 5 (s.modPort p fun q => { q with uLost := true })

/-- A receiving lane is lost; `clock`: for want of clock edges (R257, R272, R273). It costs a FEED port its uplink, and a
RETURN port whose clock is gone its CK. -/
def laneLost (p l : Nat) (clock : Bool) (s : State) : State :=
  let q := s.port p
  let s := s.turnLane p l fun x => { x.deaf with state := 7 }
  let s := if clock then
      forEach ((List.range 4).filter q.receives) (fun k st => st.turnLane p k fun x => { x with clock := false }) s
    else s
  if q.state ≠ 2 && q.state ≠ 3 then s
  else if q.role = 1 then uplinkLost p 0 s
  else if q.role = 2 && clock && !q.split then s.modPort p fun q => { q with ckLost := true }
  else s

/-- Does lane l of port p meet case 1 + k of R257? A lane in lane idle, PRBS mode or spare meets only case 1, one that has just
left lane idle case 4 too, and a clock that port idle stops is not meant to run. -/
def State.losable (s : State) (p l k : Nat) : Bool :=
  let q := s.port p
  let x := s.lane p l
  let lit := q.state == 1 || q.state == 2 || q.state == 4 || (q.state == 3 && s.portsRun)
  let rests := x.state == 3 || x.state == 4 || x.state == 5
  s.hears p l && lit && x.state != 7 &&
    (match k with
    | 0 => true
    | 1 => !rests && x.lostAlign && !x.aligned
    | 2 => !rests && x.worn
    | _ => !x.aligned && (x.state == 1 || x.state == 3))

/-- LANE_LOSS: a receiving lane is lost under case 1 + k of R257 (R270, R272, R273). -/
def laneLoss (p l k : Nat) (s : State) : State := if s.losable p l k then laneLost p l (k == 0) s else s

/-! ### Alarms (R269, R270) -/

/-- What a retirement reports (R270, R401, R403): kind 1 where DS takes over, 3 where nothing is left (DEDUCED, log 61). -/
def laneRetired (p l k kind repl : Nat) (s : State) : State :=
  engaged (0x3000 + p) kind 3 1 (p + at_ l 16) repl (sourceIndex (portUnit p) k) 20 s

/-- Lane l is retired and held in electrical idle (R270). -/
def retireLane (p l : Nat) (s : State) : State :=
  lineAct p l 2 (s.modPort p fun q =>
    { q with retired := withBit q.retired l true, inService := withBit q.inService l false, idle := withBit q.idle l false })
    |>.modLane p l fun x => { x with state := 6 }

/-- DS takes the place of a retired lane: a PRBS test on it stops, and a 64-symbol burst goes before its frames, unless it
carries frames already for an alert sweep (R270, R322). -/
def dsTakesOver (p : Nat) (s : State) : State :=
  let s := if s.b (.lanePrbsCtl p 2) 0 then lineAct p 2 7 (s.wr (.lanePrbsCtl p 2) (withBit (s.rd (.lanePrbsCtl p 2)) 0 false))
           else s
  let s := if (s.port p).dsSweep then s else sendSymbols p 2 (burst 64) s
  (s.modPort p fun q => { q with inService := withBit q.inService 2 true, dsSweep := false }).modLane p 2 fun x =>
    { x with state := 2 }

/-- A FEED port acts on an alarm of hop k that names data lane l (R270). -/
def alarmLane (p k l : Nat) (s : State) : State :=
  let q := s.port p
  if !bit q.inService l || bit q.retired l then s
  else
    let s := retireLane p l s
    if !bit q.inService 2 && !bit q.retired 2 then
      laneRetired p l 0 1 2 (detect (portUnit p) 0 (dsTakesOver p s))
    else if (s.port p).inService ≠ 0 then
      laneRetired p l 1 3 l (detectLasting (portUnit p) 1 (wakeLanes p s))
    else if (s.chain p).looped then laneRetired p l 3 3 l (splitChain p k s)
    else
      let s := leaveUp p (detectLasting (portUnit p) 2 (s.modPort p fun q => { q with state := 5 }))
      dropTiles p (chainEvent p 2 0 0 5 (laneRetired p l 2 3 l s))

/-- A port takes a valid alarm (R269 to R273): every port records it, and a FEED port that is UP acts on it. -/
def takeAlarm (p hop mask : Nat) (s : State) : State :=
  let s := s.modPort p fun q => { q with alarmHop := hop, alarmMask := mask, alarmCount := (q.alarmCount + 1) % 65536 }
  if (s.port p).state ≠ 2 || (s.port p).role ≠ 1 then s
  else
    let k := hop % 128 + 1
    let s := forEach ((List.range 3).filter (bit mask)) (fun l st => alarmLane p k l st) s
    let s := if !bit mask 3 then s
      else if (s.chain p).looped then splitChain p k s else detectLasting (portUnit p) 4 s
    if bit mask 4 || bit mask 5 then uplinkLost p k s else s

/-- ALM_RECEIVE: the three symbols after an ALM arrive at a port: HOP, MASK and CHECK; an alarm whose CHECK is wrong is
discarded (R269, R270). -/
def almReceive (p hop mask check : Nat) (s : State) : State :=
  if (s.port p).state = 0 || 256 ≤ hop || 256 ≤ mask || check ≠ Nat.xor (Nat.xor hop mask) 0xFF then s
  else takeAlarm p hop mask s

/-- CK_TRANSMITTER_FAIL: the CK transmitter of an unlooped FEED port fails (R386). -/
def ckTransmitterFail (p : Nat) (s : State) : State :=
  if (s.port p).role = 1 && !(s.chain p).looped then detectLasting (portUnit p) 4 s else s

/-! ### Enumeration (R304 to R306) -/

/-- Does a RETURN port number the part (R305)? -/
def Port.numbersAsReturn (q : Port) : Bool := q.role == 2

/-- The DEPTH that a port expects of its part (R305). -/
def State.expectedDepth (s : State) (p : Nat) : Nat :=
  let q := s.port p
  let tiles := (s.chain (s.chainOf p)).tiles
  if !q.split then tiles else if q.role = 2 then tiles + 1 - q.splitHop else q.splitHop - 1

/-- The first and the last hop that an ENUM with BASE numbers among DEPTH nodes (R304). -/
def partRange (asReturn : Bool) (base depth : Nat) : Nat × Nat :=
  if asReturn then (base, base + depth - 1) else (base + 1 - depth, base)

/-- The hops of a port's part that get CONFIG: within both DEPTH and TILES, ascending (R305). -/
def State.partHops (s : State) (p : Nat) : List Nat :=
  let q := s.port p
  ((List.range q.partLen).map (q.partFrom + ·)).filter fun h =>
    decide (1 ≤ h ∧ h ≤ 128 ∧ h ≤ (s.chain (s.chainOf p)).tiles)

/-- The hops, those beyond TILES among them, that a port's part can number (R304, R305). -/
def State.partNodes (s : State) (p : Nat) : List Nat :=
  ((List.range 128).map (· + 1)).filter fun h => s.feeder (s.chainOf p) h == p

/-- The hops of a chain that belong to a port's part, by the split (R306). -/
def State.partOf (s : State) (p : Nat) : List Nat :=
  ((List.range (s.chain (s.chainOf p)).tiles).map (· + 1)).filter fun h => s.feeder (s.chainOf p) h == p

/-- CONFIG to a hop, attempt n (R297, R305). -/
def sendConfig (p h n : Nat) (s : State) : State :=
  let i := s.chainOf p * 128 + (h - 1)
  let f := s.familyOf i
  ownCmd p h ([2] ++ leBytes 2 f.tileW ++ leBytes 2 f.tileH ++ [f.depth, b2n f.bistable + 2 * b2n f.spareEmitter]) .config
    (s.modPort p fun q => { q with enum := .config h n })

/-- SPARE_SELECT again for every colour in state 2 of the configured hops (R305 step 4, R164). -/
def resendSpares (p : Nat) (s : State) : State :=
  forEach ((s.partHops p).filter fun h => (s.hop (s.chainOf p) h).configured) (fun h st =>
    let i := st.chainOf p * 128 + (h - 1)
    let card := Tab.get 0 i st.age.cards
    forEach ((List.range 3).filter fun c => fld card (2 * c + 1) (2 * c) == 2)
      (fun c st => spareSelect i c 1 (fld card 47 16) st) st) s

/-- An enumeration ends (R305 steps 4 and 5, R306, R187, R202, R223). -/
def enumEnd (p : Nat) (s : State) : State :=
  let c := s.chainOf p
  let s := resendSpares p s
  let q := s.port p
  let s := s.modPort p fun q => { q with enum := .idle, done := true, joining := false, serves := true }
  let s := chainEvent p 3 0 q.depth (q.found + at_ q.mismatch 8) s
  let s := if q.depth ≠ s.expectedDepth p then chainEvent p 7 0 q.depth 0 s else s
  let s := if q.joining then chainEvent p 5 0 0 0 s else s
  let tiles := (s.partOf p).map fun h => c * 128 + (h - 1)
  let s := { forEach tiles resReenumerated s with bist.vop := tiles.foldl (fun t i => Tab.put 0 i 0 t) s.bist.vop }
  let s := forEach (tiles.filter fun i => (s.familyOf i).bistable && !(s.hop c (i % 128 + 1)).present) dropTile s
  let s := { s with scan.firstWindow := true }
  -- a looped chain that was cut before its bring-up
  let r := s.port (partner p)
  if q.role = 1 && !q.split && (s.chain p).looped && decide (q.depth < (s.chain p).tiles) && r.role == 2 && !r.sawCk &&
      (r.state == 1 || r.state == 2) then
    splitChain p 0 s
  else s

/-- Configure the next hop of a part above h, or end (R305 step 3). -/
def nextConfig (p h : Nat) (s : State) : State :=
  match (s.partHops p).find? fun k => decide (h < k) with
  | some k => sendConfig p k 1 s
  | none => enumEnd p s

/-- ENUM_START: DEPTH has been stable for 500 µs: ENUM is broadcast, and CONFIG follows where it must (R305, R306). -/
def enumStart (p : Nat) (s : State) : State :=
  let q := s.port p
  match q.enum with
  | .settle whole =>
    if q.state ≠ 2 || !s.portEngineOn p then s
    else
      let c := s.chainOf p
      let tiles := (s.chain c).tiles
      let base := if q.role = 2 then (if q.splitHop = 0 then tiles + 1 - q.depth else q.splitHop)
        else if q.split && q.splitHop ≠ 0 then q.splitHop - 1 else q.depth
      let s := if q.role = 2 && q.splitHop = 0 then
          (s.modPort p fun x => { x with splitHop := base }).modPort (partner p) fun x => { x with splitHop := base }
        else s
      let tag := 0x80 + q.tagOwn % 128
      let s := sendCmd p 0 tag [1, base % 256, b2n (q.role == 2)] (s.modPort p fun x => { x with tagOwn := (x.tagOwn + 1) % 128 })
      let (lo, hi) := partRange q.numbersAsReturn base q.depth
      let s := s.modPort p fun x => { x with partFrom := lo, partLen := hi + 1 - lo }
      if !whole && q.depth = s.expectedDepth p then s.modPort p fun x => { x with enum := .idle }
      else
        let s := s.modPort p fun x => { x with
          mismatch := 0
          found := ((List.range (hi + 1 - lo)).filter fun j => decide (1 ≤ lo + j ∧ lo + j ≤ 128)).length }
        let s := forEach (s.partNodes p) (fun h st => st.modHop c h fun x =>
          { x with present := decide (lo ≤ h ∧ h ≤ hi), telValid := false, silent := false, crack := 0, fault := 0,
                   mismatch := false, configured := x.configured && decide (lo ≤ h ∧ h ≤ hi) }) s
        nextConfig p 0 s
  | _ => s

/-- A hop did not match its CONFIG (R305 step 3). -/
def configMismatch (p h : Nat) (s : State) : State :=
  chainEvent p 6 h 0 0 (s.modPort p fun q => { q with mismatch := q.mismatch + 1 })
    |>.modHop (s.chainOf p) h fun x => { x with configured := false, mismatch := true }

/-- Take the outstanding CMD of a hop and TAG off a port, and hand the hop's next one on (R296). -/
def dropCmd (p : Nat) (c : Cmd) (s : State) : State := pumpCmds p (s.modPort p fun q => { q with cmds := q.cmds.erase c })

/-- CONFIG_TIMEOUT: a CONFIG got no answer within 10 ms (R305 step 3). -/
def configTimeout (p : Nat) (s : State) : State :=
  if !s.portEngineOn p then s
  else
  match (s.port p).enum with
  | .config h n =>
    let s := match (s.port p).cmds.find? fun c => c.owner == .config && c.hop == h with
      | some c => dropCmd p c s
      | none => s
    if n < 3 then sendConfig p h (n + 1) s else nextConfig p h (configMismatch p h s)
  | _ => s

/-- A TILE_CMD has its response: the payload is cut at RSP_MAX, DETAIL is its full length (R85). -/
def tileAnswer (j : Job) (payload : List Nat) (s : State) : State :=
  let cut := payload.take (fld (wd j.desc 3) 31 16)
  finishJob j 0 payload.length (if cut.isEmpty then s else s.emit (.hostWrite (wd64 j.desc 6) cut))

/-- A TILE event of the FEED port of a chain (R301). -/
def tileEvent (c h kind word2 : Nat) (s : State) : State :=
  let x := s.hop c h
  raiseEvent (0x3000 + c) 3 [kind, c + at_ h 8, word2, x.temp + at_ x.ambient 16] s

/-- A TEL body of hop h of chain c is accepted: the hop's record, the TILE events for bits newly set, and the dark
reports (R301, R212, R343). -/
def telAccept (c h : Nat) (body : List Nat) (s : State) : State :=
  let old := s.hop c h
  let crack := wd body 4 % 4
  let fault := wd body 5
  let ambient := leVal ((body.drop 2).take 2)
  let i := c * 128 + (h - 1)
  let limit := s.ambientLimit i - fld s.res.ambient 15 0
  let s := s.modHop c h fun y => { y with
    temp := leVal (body.take 2), ambient := ambient, crack := crack, fault := fault, telValid := true, silent := false }
  let word2 := leVal ((body.drop 4).take 4)
  let newly := fun (new old k : Nat) => bit new k && !bit old k
  let kinds := (if newly crack old.crack 0 || newly crack old.crack 1 then [1] else []) ++
    (if newly fault old.fault 4 then [2] else []) ++
    (if (List.range 4).any (newly fault old.fault) then [3] else [])
  let s := forEach kinds (fun k st => tileEvent c h k word2 st) s
  let s := { s with power.poll := s.power.poll.map fun l => l.erase i,
                    power.pollEvent := s.power.pollEvent || !kinds.isEmpty }
  resTel i (decide (ambient < limit)) s

/-- RSP_RECEIVE: a response is matched by port, hop and TAG, or discarded (R296). -/
def rspReceive (p : Nat) (s : State) : State :=
  if !s.portEngineOn p then s
  else
  match takeRx p 5 s with
  | none => s
  | some (x, s) =>
    match (s.port p).cmds.find? fun c => c.sent && c.hop == x.hop && c.tag == wd x.body 0 with
    | none => s
    | some c =>
      let s := dropCmd p c s
      match c.owner with
      | .spare => s
      | .poll => if wd x.body 1 = 0 then telAccept (s.chainOf p) c.hop (x.body.drop 2) s else s
      | .tile ring slot =>
        match s.jobAt ring slot with
        | some j => tileAnswer j (x.body.drop 1) s
        | none => s
      | .config =>
        if wd x.body 1 = 0 then
          nextConfig p c.hop (s.modHop (s.chainOf p) c.hop fun h => { h with configured := true, mismatch := false })
        else nextConfig p c.hop (configMismatch p c.hop s)

/-! ### PRBS, injection and counts (R275 to R279) -/

/-- The state that a lane goes back to when it leaves PRBS mode. -/
def Port.laneRest (q : Port) (l : Nat) : Nat :=
  if l = 2 && !bit q.inService 2 then (if bit q.retired 2 then 6 else 5) else if q.state = 4 then 0 else 2

/-- A write of LANE_PRBS_CTL takes effect: GEN and CHK start and stop (R276, R277). A generator starts from a register that the
spec does not give: not 0, else free (DESIGN CHOICE, log 111). -/
def prbsControl (p l old new : Nat) (s : State) : State :=
  let rest := (s.port p).laneRest l
  let pattern := fld new 3 2
  let s := if bit new 0 && !bit old 0 then
      let s := sendSymbols p l (List.replicate 16 symPrb ++ [pattern]) s
      (s.modLane p l fun x =>
        { x with state := 4, gen := 1 + Config.freeValue s.free % (2 ^ prbsDegree pattern - 1) }).tickFree
    else if bit old 0 && !bit new 0 then (lineAct p l 7 s).modLane p l fun x => { x with state := rest } else s
  if bit new 1 && !bit old 1 then s.turnLane p l fun x => { x with state := 4, sync := false, checker := {} }
  else if bit old 1 && !bit new 1 then s.turnLane p l fun x => { x with state := rest, sync := false } else s

/-- CHECKER_SYNC: bits arrive at a lane's checker, up to the one that sets SYNC (R277). -/
def checkerSync (p l : Nat) (bits : List Bool) (s : State) : State := if s.hears p l then checkBits p l bits s else s

/-- CHECKER_SYNC_LOSS: bits arrive at a lane's checker, up to the one that clears SYNC (R277). -/
def checkerSyncLoss (p l : Nat) (bits : List Bool) (s : State) : State := if s.hears p l then checkBits p l bits s else s

/-- RECEIVED_ELECTRICAL_IDLE: a receiving lane enters electrical idle; a checker leaves PRBS mode, and the taps freeze (R277,
R263). -/
def receivedElectricalIdle (p l : Nat) (s : State) : State :=
  let q := s.port p
  if !s.hears p l || q.state = 6 || (s.lane p l).state = 7 then s
  else
    let s := s.wr (.lanePrbsCtl p l) (withBit (s.rd (.lanePrbsCtl p l)) 1 false)
    s.turnLane p l fun x => { x.deaf with
      state := if l = 2 && !bit q.inService 2 then 5 else if q.state = 4 then 0 else 3 }

/-- LANE_INJECTION: the transmitter inverts one line bit: bit j mod 10 of a symbol in traffic, the first of the ten bits of a
symbol time in PRBS mode (R278). -/
def laneInjection (p l : Nat) (s : State) : State :=
  let x := s.lane p l
  if s.rd (.laneInject p l) = 0 || ((s.port p).receives l && !s.generates p l) || !(x.state = 2 || s.generates p l) then s
  else
    let s := if s.generates p l then sendPattern p l 10 true s else lineAct p l (512 + x.injected % 10) s
    s.modLane p l fun x => { x with injected := add32 x.injected 1 }

/-- A write of 1 to PORT_CNT_CLEAR.CLEAR clears every count of the port (R279). -/
def clearCounts (p : Nat) (s : State) : State :=
  let s := s.modPort p fun q => { q with crcErr := 0, frameErr := 0 }
  forEach (List.range 4) (fun l st => st.modLane p l fun x =>
    { x with cv := 0, disp := 0, prbsErr := 0, symbols := 0, injected := 0 }) s

/-- GOVERNOR_LANE_WAKE: BACKLOG has reached WAKE KiB while a lane is idle (R245). -/
def governorWake (p : Nat) (s : State) : State :=
  let i := s.pipeOf p
  if (s.port p).idle = 0 || backlogBits s p < 8192 * fld (s.codec i).gov 20 16 then s
  else (wakeLanes p s).modCodec i fun c => { c with wakes := (c.wakes + 1) % 65536, history := [] }

/-! ### Received link frames (R259, R282, R283) -/

/-- A byte of a received symbol. -/
def symByte (x : Nat) : Nat := x % 256

/-- Does a received link frame pass the checks that need no memory of earlier ones (R282)? -/
def frameGood (l : List Nat) : Bool :=
  let wbits := symByte (wd l 4) + 256 * symByte (wd l 5)
  let area := 240 - divUp wbits 8
  let body := ((l.drop 1).take 253).map symByte
  wd l 0 == 256 + 0x3C && (l.drop 1).all (fun x => decide (x < 256)) && wbits ≤ 1920 &&
    (wd l 2 == 0xFF || decide (wd l 2 < area)) && fcrc body == 256 * wd l 254 + wd l 255

/-- Parse packets from a stream at a header position: accepted packets, bytes left over, failures, and whether parsing
is lost until the next FPTR (R282, R283). -/
def parsePackets : Nat → List Nat → List Packet × List Nat × Nat × Bool
  | 0, l => ([], l, 0, false)
  | f + 1, l =>
    match l with
    | 0 :: r => parsePackets f r
    | t :: h :: a :: b :: r =>
      let len := a + 256 * b
      if 504 < len then ([], [], 1, true)
      else if r.length < len + 4 then ([], l, 0, false)
      else if crc32 (t :: h :: a :: b :: r.take len) ≠ leVal ((r.drop len).take 4) then ([], [], 1, true)
      else
        let (ps, rest, errs, lost) := parsePackets f (r.drop (len + 4))
        ({ type := t, hop := h, body := r.take len } :: ps, rest, errs, lost)
    | _ => ([], l, 0, false)

/-- The packets of a frame that has passed its check join the port's stream (R282, R283); a RETURN port in whole operation
acts on none (R306). -/
def Port.takeFrame (q : Port) (syms : List Nat) : Port :=
  let wbits := symByte (wd syms 4) + 256 * symByte (wd syms 5)
  let area := (((syms.drop 14).take 240).map symByte).take (240 - divUp wbits 8)
  let fptr := wd syms 2
  let (stream, lost) := if !q.rxLost then (q.rxPart ++ area, false)
    else if fptr = 0xFF then ([], true) else (area.drop fptr, false)
  let (ps, rest, errs, bad) := if lost then ([], [], 0, true) else parsePackets (stream.length + 1) stream
  let up := !(q.role = 2 && !q.split)
  { q with
    rxPart := rest, rxLost := bad, crcErr := add32 q.crcErr errs, depth := if up then symByte (wd syms 3) else 0
    rx := if up then q.rx ++ ps.filter (fun x => x.type == 3 || x.type == 5 || x.type == 6) else q.rx }

/-- n frames fail their check, and the next in order is `next` (R259, R282). -/
def Port.framesFail (q : Port) (n : Nat) (next : Option Nat) : Port :=
  { q with frameErr := add32 q.frameErr n, rxSeq := next, rxPart := [], rxLost := true }

/-- FSEQ of a held frame. -/
def heldSeq (x : Nat × Option (List Nat)) : Option Nat := x.2.map fun l => symByte (wd l 1)

/-- The held frames of a port are passed on in FSEQ order (R259): the next in order as soon as it is there; a number is passed
over once every lane that receives frames holds a later one, or more than three wait for a lane; a frame whose number was
passed over, come late over another lane, is not taken (DESIGN CHOICE, log 59). -/
def Port.passOn (lanes : List Nat) : Nat → Port → Port
  | 0, q => q
  | k + 1, q =>
    match q.rxHeld with
    | [] => q
    | first :: _ =>
      match q.rxSeq with
      | none =>
        -- the first good frame sets the order
        match heldSeq first with
        | none => Port.passOn lanes k ({ q with rxHeld := q.rxHeld.tail }.framesFail 1 none)
        | some n => Port.passOn lanes k { q with rxSeq := some n }
      | some want =>
        let dist := fun (n : Nat) => (n + 256 - want) % 256
        match q.rxHeld.find? fun x => heldSeq x == some want with
        | some x =>
          Port.passOn lanes k ({ q with rxHeld := q.rxHeld.erase x, rxSeq := some ((want + 1) % 256) }.takeFrame (x.2.getD []))
        | none =>
          let late := fun x => 1 < lanes.length && (match heldSeq x with | some n => decide (240 ≤ dist n) | none => false)
          match q.rxHeld.find? late with
          | some x => Port.passOn lanes k { q with rxHeld := q.rxHeld.erase x }
          | none =>
            let full := lanes.all (fun l => q.rxHeld.any fun x => x.1 == l) || 3 * lanes.length < q.rxHeld.length
            if !full then q
            else
              match q.rxHeld.find? fun x => x.2.isNone with
              | some x => Port.passOn lanes k ({ q with rxHeld := q.rxHeld.erase x }.framesFail 1 (some ((want + 1) % 256)))
              | none =>
                let n := q.rxHeld.foldl (fun m x => match heldSeq x with | some v => min m (dist v) | none => m) 255
                Port.passOn lanes k (q.framesFail n (some ((want + n) % 256)))

/-- The lanes on which a port takes link frames now: aligned, and not at a pattern. -/
def State.frameLanes (s : State) (p : Nat) : List Nat :=
  (List.range 4).filter fun l => (s.port p).receives l && (s.lane p l).aligned && !s.checks p l

/-- The held frames of a port are passed on. -/
def passFrames (p : Nat) (s : State) : State :=
  s.modPort p fun q => q.passOn (s.frameLanes p) (2 * q.rxHeld.length + 2)

/-- What a lane passes on reaches its port: frames only while it is UP (R259, R269, R257). -/
def takeRxOut (p l : Nat) (x : RxOut) (s : State) : State :=
  match x with
  | .alarm hop mask => takeAlarm p hop mask s
  | .lost => if (s.lane p l).state = 7 then s else laneLost p l false s
  | .frame syms =>
    if (s.port p).state ≠ 2 then s
    else passFrames p (s.modPort p fun q => { q with rxHeld := q.rxHeld ++ [(l, if frameGood syms then some syms else none)] })

/-- Groups arrive on a lane of a port, in order: its checker takes their bits, or they are counted, may cost the lane its
alignment, and yield frames and alarms (R254, R257, R260, R277, R279). -/
def receiveGroups (p l : Nat) (groups : List Nat) (s : State) : State :=
  if !s.hears p l then s
  else
    let s := clockSeen p s
    if s.checks p l then checkBits p l (groups.flatMap groupBits) s
    else
      let r := (s.lane p l).groups groups
      forEach r.2 (fun x st => takeRxOut p l x st) (s.turnLane p l fun _ => r.1)

/-- LINK_FRAME_RECEIVE: the 10-bit groups of one lane arrive, with at least the end of a link frame among them (R259, R282)
(DESIGN CHOICE, log 59). -/
def linkFrameReceive (p l : Nat) (groups : List Nat) (s : State) : State := receiveGroups p l groups s

/-- LANE_ALIGNMENT_LOSS: the groups arrive that cost a receiving lane its alignment (R257). -/
def laneAlignmentLoss (p l : Nat) (groups : List Nat) (s : State) : State := receiveGroups p l groups s

/-! ### Telemetry (R299, R301, R212) -/

/-- TEL_RECEIVE: a telemetry report of an enumerated tile (R301). -/
def telReceive (p : Nat) (s : State) : State :=
  if !s.portEngineOn p then s
  else
  match takeRx p 6 s with
  | none => s
  | some (x, s) => if (s.hop (s.chainOf p) x.hop).present then telAccept (s.chainOf p) x.hop x.body s else s

/-- TILE_SILENT: an enumerated tile has sent no TEL for 64 timing periods while its port was UP (R301). -/
def tileSilent (p h : Nat) (s : State) : State :=
  let c := s.chainOf p
  if (s.port p).state ≠ 2 || !s.portEngineOn p || !(s.hop c h).present || (s.hop c h).silent || s.feeder c h ≠ p then s
  else tileEvent c h 4 0 (s.modHop c h fun y => { y with silent := true })

/-! ### Repeats (R302, R303, R390) -/

/-- CLV_RESEND: 100 µs after the last CLV of a port in Clove (R302). -/
def clvResend (p : Nat) (s : State) : State :=
  if (s.port p).clove && (s.port p).state = 2 then sendClv p s else s

/-- DSC_RESEND: 20 µs after the last DSC of a port that discharges (R303). -/
def dscResend (p : Nat) (s : State) : State :=
  if (s.port p).dsc && (s.port p).state = 2 then sendDsc p s else s

/-- RESUME_SYN_REPEAT: 100 µs after the last RESUME SYN of a port that owes repeats (R390). -/
def resumeSynRepeat (p : Nat) (s : State) : State :=
  let q := s.port p
  if q.resumeLeft = 0 || q.state ≠ 2 then s
  else sendSyn p (s.scan.frame % 2 ^ 32) 4 (s.modPort p fun q => { q with resumeLeft := q.resumeLeft - 1 })

end Sys2Proof.Machine
end

