-- ==== Sys2Proof/Machine/Power.lean ====
section
/-!
DEFINITION. Power states (R325 to R353): requests, entry to Hold, Keep and Off, power failure, the core voltage, wakes,
service periods, telemetry polls and the LTR.
-/

namespace Sys2Proof.Machine

/-! ### LTR and events (R346, R351) -/

/-- The largest latency that an LTR message can carry without exceeding `ns`: value + 1,024 × scale, the scale of
32^k ns (R346). -/
def ltrCode (ns : Nat) : Nat :=
  ((List.range 6).foldl (fun (best : Nat × Nat) k =>
    let v := min 1023 (ns / 32 ^ k)
    if best.1 < v * 32 ^ k then (v * 32 ^ k, v + 1024 * k) else best) (0, 0)).2

/-- The LTR message of Run and Trim, or of Hold and Keep (R346). -/
def sendLtr (hold : Bool) (s : State) : State :=
  s.emit (.ltr hold (ltrCode (if hold then s.f .powerLtr 25 16 * 1000000 else s.f .powerLtr 9 0 * 1000)))

/-- A POWER event at the end of a transition (R351). -/
def powerEvent (kind word1 word2 : Nat) (s : State) : State :=
  raiseEvent 3 7 [kind, word1, word2, min 0xFFFFFFFF ((s.time.count - s.power.since) / 1000)] s

/-- The POWER event of a state reached (kind 1). -/
def reachedEvent (to_ : PowerState) (s : State) : State :=
  powerEvent 1 (to_.code + at_ s.power.before.code 4 + at_ (b2n s.power.selfEntry) 8) 0 s

/-! ### The core voltage (R339, R340) -/

/-- Send the next voltage step towards the goal of the ramp (R339). -/
def avsSend (s : State) : State :=
  let c := s.power.confirmedMv
  let t := s.power.rampTo
  let step := s.f .powerAvsCfg 3 0
  if c = t then s
  else
    let v := if c < t then min t (c + step) else max t (c - step)
    { s with power.avsStep := some v, power.avsTries := 1 }.emit (.avs v)

/-- Start a ramp to a voltage. -/
def ramp (mv : Nat) (s : State) : State := avsSend { s with power.rampTo := mv, power.avsStep := none, power.avsTries := 0 }

/-- No step of a ramp is outstanding and the goal is confirmed. -/
def State.rampIdle (s : State) : Bool := s.power.avsStep.isNone && s.power.confirmedMv == s.power.rampTo

/-! ### Engines and spans -/

/-- The engines in service and the spans run; an idle spare and what has failed do not (R344, R421, R393), and nothing after a
Fatal detection (R391). -/
def startEngines (s : State) : State :=
  let go := !s.faultg.fatal
  let s := forEach (List.range 72) (fun e st => st.modEngine e fun g => { g with running := (s.dutyOf e).isSome && go }) s
  forEach (List.range 8) (fun i st => st.modSpan i fun x => { x with running := go }) s

/-- The port engines alone restart, for a telemetry poll (R343). -/
def startPortEngines (s : State) : State :=
  forEach (List.range 72) (fun e st => st.modEngine e fun g =>
    { g with running := match s.dutyOf e with | some j => decide (j < 4) | none => false }) s

/-- Engines and spans stop (R335, R337). -/
def stopEngines (s : State) : State :=
  let s := forEach (List.range 72) (fun e st => st.modEngine e fun g => { g with running := false }) s
  forEach (List.range 8) (fun i st => st.modSpan i fun x => { x with running := false }) s

/-! ### Waiting for passes and commands (R335 step 2, R337 step 2) -/

/-- Does a started command have to end before Hold is entered (R335 step 2)? -/
def Job.mustEnd (s : State) (j : Job) : Bool :=
  j.stage == .running && j.opcode != 6 && s.power.fromRing != some (j.ring, j.slot) &&
    !((j.opcode == 16 || j.opcode == 17) && s.alert.waiting)

/-- No pass runs and no command that must end is left. -/
def State.quiet (s : State) : Bool :=
  !((List.range 64).any fun k => (s.drive k).pass.isSome) && !(s.jobs.any (Job.mustEnd s))

/-- The commands that an ordered Off aborts (R337 step 2). -/
def abortWaiting (s : State) : State :=
  let s := forEach (s.jobs.filter fun j => s.power.fromRing != some (j.ring, j.slot)) (fun j st => finishJob j 6 0 st) s
  { s with bist.updates := [] }

/-! ### The ends of transitions -/

/-- A register request's GLOBAL_BUSY ends with the target code (R330) (DEDUCED, log 14). -/
def endPowerReg (code : Nat) (s : State) : State :=
  if s.power.fromReg then endLong code { s with power.fromReg := false } else s

/-- A ring request's command completes with the target code (R330). -/
def endPowerRing (code : Nat) (s : State) : State :=
  match s.power.fromRing with
  | none => s
  | some (r, sl) =>
    let s := { s with power.fromRing := none }
    match s.jobAt r sl with
    | some j => finishJob j 0 code s
    | none => s

/-- Begin a transition (R329, R351). -/
def beginMove (goal : PowerState) (m : Move) (s : State) : State :=
  { s with power.move := m, power.goal := goal, power.since := s.time.count, power.before := s.power.state,
           power.selfEntry := false }

/-! ### Wake (R341, R344) -/

/-- The reference runs again after Keep: TIME resumes from the TIMECLK count (R348), and the generator, which measured nothing
in Keep, is Unlocked in holdover with no edge to measure from (R106, R326, R345). -/
def leaveKeep (s : State) : State :=
  if s.time.running then s
  else
    { s with time.count := s.timeNow, time.running := true, time.coarse := true, power.refOn := true, power.coreOff := false
             scan.locked := false, scan.holdover := true, scan.inRange := 0, scan.outRange := 0, scan.reference := none
             scan.windowFrom := s.timeNow / 10, scan.placed := none, scan.rephase := false, scan.rephaseWait := false
             scan.lastAccepted := none }

/-- The controller enters L1 where the host has enabled it in Link Control, and L1.2 where the host has enabled that too (R325,
R346). -/
def enterL1 (s : State) : State :=
  { s with host.linkState := if !s.host.aspm then 0 else if s.host.l12 then 2 else 1 }

/-- Device memory leaves self-refresh, engines and spans resume, and the HELD ports restart (R344). -/
def resumeCore (s : State) : State :=
  let s := flushHeldEvents (startEngines { s with power.selfRefresh := false, power.coreOff := false })
  forEach (List.range 32) exitIdle s

/-- The wake of R344 begins. -/
def startWake (s : State) : State :=
  let s := { beginMove s.power.resume (.wake 0) s with power.poll := none, power.pollEvent := false }
  let s := ramp s.fuse.runMv (leaveKeep s)
  if s.rampIdle then { resumeCore s with power.move := .wake 1 } else s

/-- A wake source fires (R341, R332): held while an entry runs, ignored during an entry to Off. -/
def wakeBy (src : Nat) (s : State) : State :=
  match s.power.move with
  | .entry _ _ => { s with power.heldWake := withBit s.power.heldWake src true }
  | .keepEntry => { s with power.heldWake := withBit s.power.heldWake src true }
  | .wake _ => { s with power.wakeSrc := withBit s.power.wakeSrc src true }
  | .none =>
    if s.power.state = .hold ∨ s.power.state = .keep then
      startWake { s with power.wakeSrc := withBit s.power.wakeSrc src true }
    else s
  | _ => s

/-- A wake source that POWER_WAKE_EN enables. -/
def wakeIf (src : Nat) (s : State) : State := if s.b .powerWakeEn src then wakeBy src s else s

/-- Wake sources that were held while an entry ran (R332). -/
def releaseWake (s : State) : State :=
  if s.power.heldWake = 0 then s
  else startWake { s with power.wakeSrc := Nat.lor s.power.wakeSrc s.power.heldWake, power.heldWake := 0 }

/-! ### Entering Hold and Keep (R335, R336) -/

/-- Step 5: every port that is UP idles; the self-test of R399 runs where FAULTG_TEST.HOLD asks for it. -/
def idlePorts (keep : Bool) (s : State) : State :=
  let s := forEach s.upPorts (fun p st => beginIdle p .held st) s
  { s with power.move := .entry 5 keep, power.selfTest := s.b .faultgTest 0 }

/-- Off is reached (R337 step 8, R338). -/
def reachOff (s : State) : State :=
  let s := stopEngines (haltScan s)
  let s := endPowerReg 4 s
  { s with power.state := .off, power.move := .none, power.goal := .off, power.heldWake := 0, power.serving := false,
           memLost := true, noRecords := true, time.running := false, faultg.alive := false }.emit (.alive false)

/-- Step 4 of an ordered Off: DSC on every port that is UP, the ring request completes, the event, the save
(R337). HELD ports that restart send DSC as they become UP. -/
def offDischarge (s : State) : State :=
  let s := forEach s.upPorts sendDsc s
  let s := reachedEvent .off (endPowerRing 4 s)
  startPowerSave { s with power.move := .off 6 }

/-- Step 3 of an ordered Off: the HELD ports restart (R337). -/
def offRestart (s : State) : State :=
  let held := (List.range 32).filter fun p => (s.port p).state == 3
  let s := resumeCore { s with power.move := .off 4 }
  offDischarge (forEach held (fun p st => st.modPort p fun q => { q with dsc := true }) s)

/-- Ordered Off, once passes and commands have ended (R337). -/
def offQuiet (s : State) : State :=
  let s := abortWaiting s
  if s.power.state = .hold ∨ s.power.state = .keep then
    let s := ramp s.fuse.runMv (leaveKeep { s with power.move := .off 3 })
    if s.rampIdle then offRestart s else s
  else offDischarge s

/-- Move on a transition that waits for passes, commands or ports to end; every command that can end one of these is
followed by it. -/
def powerGo (s : State) : State :=
  match s.power.move with
  | .entry 2 keep =>
    if !s.quiet then s
    else if s.scan.state = .running then { s with power.move := .entry 3 keep, scan.handover := true }
    else idlePorts keep s
  | .off 2 => if s.quiet then offQuiet s else s
  | .off 7 => if (List.range 32).any (fun p => (s.port p).state == 6) then s else reachOff s
  | _ => s

/-- Entry to Hold begins, or to Keep through it (R335 step 1) (DEDUCED, log 67). -/
def enterHold (keep : Bool) (self : Bool) (s : State) : State :=
  let resume := if s.power.state = .trim then PowerState.trim else .run
  let s := beginMove (if keep then .keep else .hold) (.entry 2 keep) s
  powerGo { s with power.selfEntry := self, power.resume := resume }

/-- Hold is reached (R335 step 8): LTR, the event, STATE; then Keep follows, or the request ends (R330). -/
def reachHold (keep : Bool) (s : State) : State :=
  let s := enterL1 { reachedEvent .hold (sendLtr true s) with power.state := .hold }
  if keep then { s with power.move := .keepEntry }
  else releaseWake (endPowerReg 2 { s with power.move := .none })

/-- HOLD_RETENTION: the ports have idled and the self-test has ended: the ring request completes, engines, pipes and
spans stop, memory enters self-refresh, and the voltage goes down (R335 steps 6 and 7). -/
def holdRetention (s : State) : State :=
  match s.power.move with
  | .entry 5 keep =>
    if s.power.selfTest || (List.range 32).any (fun p => (s.port p).state == 6) then s
    else
      let s := endPowerRing (if keep then 3 else 2) s
      let s := stopEngines { s with power.selfRefresh := true, power.move := .entry 7 keep }
      let s := ramp s.fuse.retMv s
      if s.rampIdle then reachHold keep s else s
  | _ => s

/-- KEEP_ENTRY: the copy of the save values, TIME on TIMECLK, the reference stopped, the switches open (R336). -/
def keepEntry (s : State) : State :=
  match s.power.move with
  | .keepEntry =>
    let s := { s with nvs.keepCopy := some (saveValues s), time.keepBase := s.time.count, time.keepEdges := 0,
                      time.running := false, power.refOn := false }
    let s := enterL1 (reachedEvent .keep (sendLtr true s))
    let s := if s.power.serving then ramp s.fuse.retMv s else s
    releaseWake (endPowerReg 3 { s with power.state := .keep, power.coreOff := true, power.serving := false,
                                         power.move := .none, power.keepEdges := 0, power.keepLost := false })
  | _ => s

/-- HOLD_SELF_TEST_END: the Hold-entry self-test of a span set ends; its failures engage spares with cause 3 (R399)
(DEDUCED, log 31). -/
def holdSelfTestEnd (fails : List TestFail) (s : State) : State :=
  if !s.power.selfTest then s
  else
    let s := forEach fails (applyTestFail 3) { s with power.selfTest := false }
    { s with faultg.testRan := true, faultg.testFailed := !fails.isEmpty }

/-! ### Requests (R328 to R330) -/

/-- Run or Trim takes effect (R330). -/
def applySwitch (t : PowerState) (s : State) : State :=
  let s := { s with power.state := t }
  let s := reachedEvent t (sendLtr false s)
  endPowerReg t.code (endPowerRing t.code { s with power.move := .none })

/-- The outcome of a request against R328 and R329, beyond the busy tests: true where the table refuses it. -/
def powerRefused (t : PowerState) (s : State) : Bool :=
  s.power.state == .off ||
    ((t == .hold || t == .keep) && s.power.state != t && (s.scan.state == .acquiring || s.scan.state == .stopping))

/-- An accepted request for a state other than the present one (R328, R330). -/
def powerRequest (t : PowerState) (s : State) : State :=
  match t, s.power.state with
  | .off, _ => powerGo (beginMove .off (.off 2) s)
  | .hold, .keep =>
    -- Keep to Hold: the core switches close, and Hold is resumed
    let s := leaveKeep (beginMove .hold .none s)
    endPowerReg 2 (flushHeldEvents { reachedEvent .hold (sendLtr true s) with power.state := .hold })
  | .hold, _ => enterHold false false s
  | .keep, .hold => beginMove .keep .keepEntry s
  | .keep, _ => enterHold true false s
  | r, .hold => wakeBy 5 { s with power.resume := r }
  | r, .keep => wakeBy 5 { s with power.resume := r }
  | r, _ =>
    let s := beginMove r (.switch r) s
    if s.scan.state = .running then s else applySwitch r s

/-- SELFREF_IDLE_REACHED: the idle count has reached SELFREF_IDLE: the controller enters Hold by itself (R331). -/
def selfrefIdle (s : State) : State :=
  if s.b .powerSelfref 0 && s.f .powerSelfref 31 16 ≤ s.power.idleCount && s.power.move == .none &&
      (s.power.state == .run || s.power.state == .trim) && s.scan.state == .running then
    enterHold false true s
  else s

/-! ### The voltage moves on -/

/-- A power failure in Hold, the voltage raised: the ports restart and send DSC, and the save runs (R338). -/
def failRestart (s : State) : State :=
  let held := (List.range 32).filter fun p => (s.port p).state == 3
  let s := forEach held (fun p st => st.modPort p fun q => { q with dsc := true }) (resumeCore { s with power.move := .fail 1 })
  startPowerSave (forEach s.upPorts sendDsc s)

/-- A ramp has ended, at its goal or at the voltage kept after a failure to lower (R339, R340). -/
def rampEnded (s : State) : State :=
  match s.power.move with
  | .entry 7 keep => reachHold keep s
  | .wake 0 => { resumeCore s with power.move := .wake 1 }
  | .off 3 => offRestart s
  | .fail 0 => failRestart s
  | _ =>
    match s.power.poll with
    | some l =>
      if s.power.confirmedMv ≠ s.fuse.runMv || s.power.pollEvent then s
      else
        -- a telemetry poll: the FEED ports restart and READ_TEL goes to each configured hop
        let s := startPortEngines s
        let s := forEach ((List.range 32).filter s.isFeed) exitIdle s
        forEach l (fun i st => ownCmd (st.tileFeeder i) (i % 128 + 1) [0x43] .poll st) s
    | none => s

/-- AVS_ACK: the regulator acknowledges a step at a voltage (R339). -/
def avsAck (mv : Nat) (s : State) : State :=
  if s.power.avsStep = some mv then
    let s := avsSend { s with power.confirmedMv := mv, power.avsStep := none, power.avsTries := 0 }
    if s.power.avsStep.isNone then rampEnded s else s
  else s

/-- AVS_TIMEOUT: a step was not acknowledged within ACK_US: three attempts, then the failure of R340
(DEDUCED, log 70). -/
def avsTimeout (s : State) : State :=
  match s.power.avsStep with
  | none => s
  | some v =>
    if s.power.avsTries < 3 then { s with power.avsTries := s.power.avsTries + 1 }.emit (.avs v)
    else
      let raising := decide (s.power.confirmedMv < v)
      let s := { s with power.avsStep := none, power.avsTries := 0, power.rampTo := s.power.confirmedMv }
      if !raising then rampEnded (detectNote 3 0 s)
      else
        let s := detect 3 1 s
        match s.power.move with
        | .fail _ => { startPowerSave s with power.move := .fail 1 }
        | .none => { s with power.poll := none }
        | _ =>
          let s := powerEvent 3 (s.power.goal.code + at_ s.power.before.code 4) 7 s
          let s := match s.power.fromRing with
            | some (r, sl) => (match s.jobAt r sl with | some j => finishJob j 7 0 s | none => s)
            | none => s
          endPowerReg 7 { s with power.move := .none, power.fromRing := none }

/-- The wake's Hold accrual pass is still to run: Anise is on and a frame is held (R157, R344). -/
def State.accrualDue (s : State) : Bool := s.power.move == .wake 1 && s.b .ageCtl 0 && s.scan.state == .held

/-- WAKE_END, once the Hold accrual pass has run: the wake ends (R344, R345): STATE is RESUME, scan-out runs again with its line buffers empty (R326), LTR, the
event. -/
def wakeEnd (s : State) : State :=
  match s.power.move with
  | .wake k =>
    if k = 0 || s.accrualDue then s
    else
      let r := s.power.resume
      let s := { s with power.state := r, power.idleCount := 0, power.serving := false, scan.firstWindow := true
                        time.timeclk := true, host.linkState := 0 }
      let s := if s.scan.state = .held then
          { s with scan.state := .running, scan.next := .frameStart, scan.closed := false, scan.handover := false
                   scan.placed := none, scan.returning := true, scan.lastStart := some (s.time.count / 10) }
        else s
      let s := forEach (List.range 40) (fun i st => st.modPipe i fun q =>
        { q with opened := false, fill := 0, lane := 0, urgent := true }) s
      let s := powerEvent 2 (r.code + at_ s.power.before.code 4) s.power.wakeSrc (sendLtr false s)
      let s := if !s.faultg.clove && !s.faultg.alive then { s with faultg.alive := true }.emit (.alive true) else s
      endPowerReg r.code { s with power.move := .none }
  | _ => s

/-! ### Service periods and polls (R342, R343) -/

/-- SERVICE_PERIOD_START: a host-initiated L1 exit in Hold or Keep (R342). -/
def serviceStart (s : State) : State :=
  if (s.power.state = .hold ∨ s.power.state = .keep) ∧ s.power.move = .none ∧ !s.power.serving then
    ramp s.fuse.runMv (flushHeldEvents { s with power.serving := true, power.coreOff := false, host.linkState := 0 })
  else s

/-- SERVICE_PERIOD_END: SERVE_MS ms with no request: the state's configuration is restored (R342). -/
def serviceEnd (s : State) : State :=
  if s.power.serving ∧ s.power.move = .none then
    ramp s.fuse.retMv (enterL1 { s with power.serving := false, power.coreOff := s.power.state == .keep })
  else s

/-- The configured hops of every chain, by tile index. -/
def State.configuredTiles (s : State) : List Nat :=
  s.allTiles.filter fun i => (s.hop (i / 128) (i % 128 + 1)).configured

/-- TELEMETRY_POLL: POLL seconds have passed in Hold with TILE enabled (R343). -/
def telemetryPoll (s : State) : State :=
  if s.power.state = .hold ∧ s.power.move = .none ∧ s.b .powerWakeEn 2 ∧ s.power.poll.isNone then
    let s := ramp s.fuse.runMv { s with power.poll := some s.configuredTiles, power.pollEvent := false
                                        power.lastPoll := s.time.count }
    if s.rampIdle then rampEnded s else s
  else s

/-- TELEMETRY_POLL_END: hops that did not answer count as silent; a TILE event wakes the controller, else every port
idles again (R343). -/
def telemetryPollEnd (s : State) : State :=
  match s.power.poll with
  | none => s
  | some l =>
    let fresh := l.filter fun i => !(s.hop (i / 128) (i % 128 + 1)).silent
    let s := forEach fresh (fun i st =>
      tileEvent (i / 128) (i % 128 + 1) 4 0 (st.modHop (i / 128) (i % 128 + 1) fun y => { y with silent := true })) s
    let s := forEach (List.range 32) (fun p st => st.modPort p fun q =>
      { q with cmds := q.cmds.filter fun c => c.owner != .poll }) s
    let event := s.power.pollEvent || !fresh.isEmpty
    let s := { s with power.poll := none, power.pollEvent := false }
    if event && s.b .powerWakeEn 2 then wakeBy 2 s
    else
      let s := stopEngines (forEach s.upPorts (fun p st => beginIdle p .held st) s)
      if s.power.serving then s else ramp s.fuse.retMv s

/-! ### Failure, TIMECLK and genlock in Keep (R338, R349, R341) -/

/-- POWER_FAIL: a falling edge of PWRFAIL_N, with VHOLD at that instant (R338, R434); ignored before phase STORE has
ended, but for the level of the ball, which a Mace check reads (R365, R435) (DEDUCED, log 68). -/
def powerFail (vhold : Nat) (s : State) : State :=
  if s.power.state = .off || (match s.power.move with | .fail _ => true | _ => false) then s
  else if s.glob.phase < 5 && !s.nvs.scanned then { s with nvs.pwrfailHigh := false }
  else
    let s := { s with nvs.vhold := vhold, nvs.pwrfailHigh := false }.emit (.holdSwitch false false)
    let s := endPowerReg 6 { s with power.poll := none, power.fromRing := none }
    match s.power.state with
    | .keep => beginMove .off (.fail 1) (startPowerSave s)
    | .hold =>
      let s := ramp s.fuse.runMv (beginMove .off (.fail 0) s)
      if s.rampIdle then rampEnded s else s
    | _ =>
      let s := stopEngines (forEach s.upPorts sendDsc { s with noRecords := true })
      beginMove .off (.fail 1) (startPowerSave s)

/-- The power-down save has ended (R337 steps 6 to 8, R338, R373, R374). -/
def powerSaveEnd (s : State) : State :=
  if s.nvs.current ≠ some .powerSave then s
  else
    match s.power.move with
    | .off _ =>
      let s := endPowerSave 1 (saveValues s) s
      powerGo { forEach s.upPorts (fun p st => beginIdle p .held st) s with power.move := .off 7 }
    | .fail _ =>
      let v := if s.power.state = .keep then s.nvs.keepCopy.getD (saveValues s) else saveValues s
      reachOff (endPowerSave 2 v s)
    | _ => { s with nvs.current := none }

/-- TIMECLK_ABSENT: TIMECLK has no edge in Keep: counting stops, and TIME has a gap (R349, R389). -/
def timeclkAbsent (s : State) : State :=
  if s.power.state = .keep ∧ s.time.timeclk ∧ !s.time.running then
    let s := { s with time.count := s.timeNow, time.timeclk := false, age.heldGap := true }
    detectNote 2 1 (if s.faultg.alive then { s with faultg.alive := false }.emit (.alive false) else s)
  else s

/-- KEEP_GENLOCK_LOSS: no active edge for 2,048 TIMECLK periods in Keep (R341). -/
def keepGenlockLoss (s : State) : State :=
  if s.power.state = .keep ∧ !s.power.keepLost then wakeIf 3 { s with power.keepLost := true, power.keepEdges := 0 }
  else s

/-- An active edge of GENLOCK_IN in Keep: four after a loss are a return (R341). -/
def keepGenlockEdge (s : State) : State :=
  if !s.power.keepLost then s
  else if s.power.keepEdges + 1 < 4 then { s with power.keepEdges := s.power.keepEdges + 1 }
  else wakeIf 4 { s with power.keepLost := false, power.keepEdges := 0 }

/-- The alarm fires (R350): kind 2 where its instant fell while TIMECLK was absent. -/
def fireAlarm (late : Bool) (s : State) : State :=
  let s := { s with time.arm := false }
  let s := detectNote 2 0 s
  let s := raiseEvent 2 8 [if late then 2 else 1, s.time.alarm % 2 ^ 32, s.time.alarm / 2 ^ 32, 0] s
  wakeIf 1 s

/-- TIME_ALARM after `dt` cycles or edges: TIME has reached TIME_ALARM while ARM is 1 (R350) (DEDUCED, log 69). -/
def timeAlarm (dt : Nat) (s : State) : State :=
  let s := advance dt s
  if !s.time.arm then s
  else
    let late := !s.time.timeclk && (match s.power.move with | .wake _ => true | _ => false)
    if late || s.time.alarm ≤ s.timeNow then fireAlarm late s else s

end Sys2Proof.Machine
end

