-- ==== Sys2Proof/Machine/Rings.lean ====
section
/-!
DEFINITION. Rings and commands (R60 to R93): enabling and disabling, doorbells, the scheduling of the ring engines,
the checks of a descriptor, FENCE, LAYER_WRITE and its parking, LAYER_BIND, SURFACE_RETIRE, FLUSH, BIST_UPDATE,
TILE_CMD and POWER_REQ.
-/

namespace Sys2Proof.Machine

/-! ### Content changes and references (R90, R114) -/

/-- A content change falls in the open window (R114), and every pipe has something new to send (R333). -/
def noteChange (s : State) : State :=
  forEach (List.range 40) (fun i st => st.modPipe i fun q => { q with dirty := true }) { s with scan.changed := true }

/-- The bytes of a surface: start and length (R81). -/
def Surface.span (u : Surface) : Nat × Nat := (u.addr, u.pitch * (u.h - 1) + u.w * 4)

/-- The working surface of layer n. -/
def State.layer (s : State) (n : Nat) : Surface := Tab.get {} n s.layers

/-- LAYER_CTL.ENABLE of layer n, working (R119). -/
def State.layerOn (s : State) (n : Nat) : Bool := bit (s.wk (.layerCtl n)) 0

/-- The surfaces that scan-out references (R90). -/
def State.shown (s : State) : List Surface :=
  ((List.range 64).filter fun n => s.layerOn n && (s.layer n).bound).map s.layer ++
    (s.alert.work.toList ++ s.alert.old).map (·.surf)

/-- Does scan-out reference a byte of [a, a + len) (R90)? -/
def State.references (s : State) (a len : Nat) : Bool := s.shown.any fun u => rangesMeet u.span.1 u.span.2 a len

/-! ### Fields of descriptors -/

/-- Destination range of a LAYER_WRITE (R80). -/
def Job.dst (j : Job) : Nat × Nat :=
  let rows := wd j.desc 7
  let bytes := wd j.desc 6
  (wd64 j.desc 4, if rows = 0 || bytes = 0 then 0 else (rows - 1) * wd j.desc 9 + bytes)

/-- The surface that a LAYER_BIND or ALERT_SHOW names; format and encoding stand at `f` of word `w` (R81, R89). -/
def descSurface (d : List Nat) (w : Nat) : Surface :=
  { addr := wd64 d 4, w := fld (wd d 6) 15 0, h := fld (wd d 6) 31 16, pitch := wd d 7, format := fld (wd d w) 1 0,
    encoding := fld (wd d w) 3 2, bound := true }

/-- The worst-case checkpoint size of the accepted geometry; 0 while there is none (R170). -/
def State.ckptWorst (s : State) : Nat :=
  if !s.geom.valid then 0
  else s.allTiles.foldl (fun a i =>
    let f := s.familyOf i
    a + 32 + f.tileH * (12 * f.tileW + 4 * divUp f.tileW 256)) 64

/-! ### The checks of R73 and R74 -/

/-- The classes that may carry an opcode; none: not in the catalogue (R78). -/
def opClasses (op : Nat) : Option (List Nat) :=
  if op ≤ 1 then some [0, 1, 2, 3] else if op ≤ 13 then some [1, 2, 3] else if op = 16 ∨ op = 17 then some [0] else none

/-- FLAGS bits that an opcode defines. -/
def opFlags (op : Nat) : Nat := if op = 1 then 3 else if op = 2 then 1 else 0

/-- The bits that the fields of an opcode use, by word; the rest is reserved. -/
def opMask (op w : Nat) : Nat :=
  let all := 0xFFFFFFFF
  match op with
  | 2 => if 2 ≤ w ∧ w ≤ 9 then all else 0
  | 3 => match w with | 2 => 0x3F | 3 => 0xF | 4 | 5 | 6 | 7 => all | _ => 0
  | 4 => if 4 ≤ w ∧ w ≤ 7 then all else 0
  | 5 => if w = 2 then all else 0
  | 6 => if 2 ≤ w ∧ w ≤ 6 then all else 0
  | 7 => match w with | 2 => 0xFF1F | 3 | 4 | 5 | 6 | 7 => all | _ => 0
  | 8 | 9 => if 2 ≤ w ∧ w ≤ 4 then all else 0
  | 10 => if w = 2 then 7 else 0
  | 11 | 12 | 13 => match w with | 2 => 0xFF03 | 3 | 4 | 5 | 6 | 7 => all | _ => 0
  | 16 => match w with | 2 => 0xFF0F | 3 | 4 | 5 | 6 | 7 => all | _ => 0
  | _ => 0

/-- The failing conditions on the surface fields of LAYER_BIND and ALERT_SHOW (R81, R89): offsets. -/
def surfaceFaults (d : List Nat) (w : Nat) : List Nat :=
  let u := descSurface d w
  (if u.format = 3 ∨ u.encoding = 3 then [4 * w] else []) ++
  (if u.addr % 64 ≠ 0 ∨ 2 ^ 36 ≤ u.addr then [0x10] else []) ++
  (if u.w = 0 ∨ 16384 < u.w ∨ u.h = 0 ∨ 10240 < u.h then [0x18] else []) ++
  (if u.format = 2 ∧ u.w % 2 ≠ 0 then [4 * w] else []) ++
  (if u.pitch % 64 ≠ 0 then [0x1C] else []) ++ (if u.pitch < u.w * 4 then [0x18] else [])

/-- The offsets of the fields of an opcode that hold an undefined encoding or lie outside their range (R73 check 3)
(DEDUCED, log 51). -/
def fieldFaults (op : Nat) (d : List Nat) : List Nat :=
  match op with
  | 2 => (if 2 ^ 36 ≤ wd64 d 4 then [0x10] else []) ++
      (if 1 < wd d 7 ∧ (wd d 8 < wd d 6 ∨ wd d 9 < wd d 6) then [0x18] else [])
  | 3 => surfaceFaults d 3
  | 4 => if 2 ^ 36 ≤ wd64 d 4 then [0x10] else []
  | 6 => (if 2 ^ 36 ≤ wd64 d 4 then [0x10] else []) ++ (if wd d 6 < fld (wd d 3) 15 0 * 3 then [0x0C] else [])
  | 7 => (if 128 < fld (wd d 2) 15 8 then [0x08] else []) ++
      (if fld (wd d 3) 15 0 = 0 ∨ 256 < fld (wd d 3) 15 0 ∨ 256 < fld (wd d 3) 31 16 then [0x0C] else [])
  | 10 => if 5 ≤ wd d 2 then [0x08] else []
  | 11 | 12 => if 2048 < fld (wd d 3) 31 16 then [0x0C] else []
  | 13 => if fld (wd d 2) 1 0 ≠ 3 then [0x08] else []
  | 16 => surfaceFaults d 2
  | _ => []

/-- The lowest of the failing offsets of check 3, if any. -/
def formatFault (op : Nat) (d : List Nat) : Option Nat :=
  let words := ((List.range 14).map (· + 2)).filter fun w => wd d w - Nat.land (wd d w) (opMask op w) ≠ 0
  let l := (if fld (wd d 0) 15 8 - Nat.land (fld (wd d 0) 15 8) (opFlags op) ≠ 0 then [0] else []) ++
    (if wd d 1 ≠ 0 then [4] else []) ++ fieldFaults op d ++ words.map (4 * ·)
  match l with
  | [] => none
  | x :: r => some (r.foldl min x)

/-- A host range fails when its last byte lies beyond 2^64 − 1; an empty one never does (R74, R75). -/
def hostFails (a len : Nat) : Bool := len ≠ 0 && decide (2 ^ 64 < a + len)

/-- A device range fails when a byte of it lies at or beyond the usable capacity (R74). -/
def State.devFails (s : State) (a len : Nat) : Bool := len ≠ 0 && decide (s.capacity < a + len)

/-- Is hop h a node of the chain that port p has enumerated, and does p feed it (R85)? -/
def State.enumerated (s : State) (p h : Nat) : Bool :=
  let q := s.port p
  decide (q.partFrom ≤ h ∧ h < q.partFrom + q.partLen) && s.feeder (s.chainOf p) h == p

/-- The raster as SCAN_WALL_SIZE sets it (R12). -/
def State.rasterW (s : State) : Nat := s.f .scanWallSize 15 0
/-- The height of the raster (R12). -/
def State.rasterH (s : State) : Nat := s.f .scanWallSize 31 16

/-- The offsets of BOUNDS failures of an opcode, in ascending order (R74) (DEDUCED, log 50). -/
def boundsFaults (op : Nat) (d : List Nat) (s : State) : List Nat :=
  let rows := fun (rows bytes pitch : Nat) => if rows = 0 ∨ bytes = 0 then 0 else (rows - 1) * pitch + bytes
  match op with
  | 2 => (if hostFails (wd64 d 2) (rows (wd d 7) (wd d 6) (wd d 8)) then [0x08] else []) ++
      (if s.devFails (wd64 d 4) (rows (wd d 7) (wd d 6) (wd d 9)) then [0x10] else [])
  | 3 => if s.devFails (descSurface d 3).span.1 (descSurface d 3).span.2 then [0x10] else []
  | 4 => if s.devFails (wd64 d 4) (wd64 d 6) then [0x10] else []
  | 6 =>
    let cw := fld (wd d 3) 15 0
    let ch := fld (wd d 3) 31 16
    if cw = 0 ∨ ch = 0 then []
    else (if s.rasterW / 2 < fld (wd d 2) 15 0 + cw ∨ s.rasterH / 2 < fld (wd d 2) 31 16 + ch then [0x08] else []) ++
      (if s.devFails (wd64 d 4) (rows ch (cw * 3) (wd d 6)) then [0x10] else [])
  | 7 =>
    let p := fld (wd d 2) 4 0
    let h := fld (wd d 2) 15 8
    (if (s.port p).state = 2 ∧ h ≠ 0 ∧ !s.enumerated p h then [0x08] else []) ++
      (if hostFails (wd64 d 4) (fld (wd d 3) 15 0) then [0x10] else []) ++
      (if h ≠ 0 ∧ hostFails (wd64 d 6) (fld (wd d 3) 31 16) then [0x18] else [])
  | 8 => if hostFails (wd64 d 2) s.ckptWorst ∨ wd d 4 < s.ckptWorst then [0x08] else []
  | 9 => if hostFails (wd64 d 2) (wd d 4) then [0x08] else []
  | 11 | 12 | 13 =>
    let part := fld (wd d 2) 1 0
    if op = 13 ∨ fld (wd d 3) 31 16 = 0 then [] else
    (if partPages part ≤ fld (wd d 2) 15 8 then [0x08] else []) ++
      (if 2048 < fld (wd d 3) 15 0 + fld (wd d 3) 31 16 then [0x0C] else []) ++
      (if hostFails (wd64 d 6) (fld (wd d 3) 31 16) then [0x18] else [])
  | 16 =>
    let u := descSurface d 2
    (if s.rasterW < fld (wd d 3) 15 0 + u.w ∨ s.rasterH < fld (wd d 3) 31 16 + u.h then [0x0C] else []) ++
      (if s.devFails u.span.1 u.span.2 then [0x10] else [])
  | _ => []

/-- The opcodes that read or write device memory (R78, R397). -/
def opMemory (op : Nat) : Bool := op == 2 || op == 6 || op == 8 || op == 9 || op == 16

/-- Does another ring command of the store or of power run (R56, R87)? -/
def State.powerBusy (s : State) : Bool := s.power.move != .none

/-- Check 5 of R73: is the command refused by the present state? -/
def stateFails (op : Nat) (d : List Nat) (s : State) : Bool :=
  (opMemory op && (!s.memc.initDone || s.memc.initialising)) ||
  match op with
  | 6 => !s.bist.stateReady || !s.bist.tablesValid || !s.geom.valid || s.bist.initialising || s.bist.recovering ||
      (s.scan.state == .stopped && !s.drive1)
  | 7 => (s.port (fld (wd d 2) 4 0)).state != 2
  | 8 => !s.geom.valid || !s.age.mapReady || s.age.clearing || s.jobs.any fun j => j.opcode == 9
  | 9 => s.scan.state != .stopped || !s.geom.valid || !s.age.mapReady || s.age.clearing
  | 10 => s.powerBusy || s.glob.busy ||
      (match PowerState.ofCode (wd d 2) with | some t => powerRefused t s | none => false)
  | 11 | 12 | 13 => s.glob.busy || s.nvs.reading
  | _ => false

/-- The first check of R73, 1 to 5, that a descriptor of ring n fails: status and DETAIL. -/
def checkDescriptor (n : Nat) (d : List Nat) (s : State) : Option (Nat × Nat) :=
  let op := fld (wd d 0) 7 0
  match opClasses op with
  | none => some (4, 0)
  | some cs =>
    if !cs.contains (s.ringClass n) then some (3, s.ringClass n)
    else
      match formatFault op d with
      | some x => some (4, x)
      | none =>
        match boundsFaults op d s with
        | x :: _ => some (1, x)
        | [] => if stateFails op d s then some (2, 0) else none

/-- A BOUNDS completion is recorded in the span's bounds log, or counted (R102). -/
def boundsLog (n slot op detail : Nat) (s : State) : State :=
  let sp := s.ringSpan n
  match (s.span sp).bounds with
  | some _ => s.modSpan sp fun x => { x with boundsCount := inc16 x.boundsCount }
  | none =>
    detectNote (spanUnit sp) 0 (s.modSpan sp fun x =>
      { x with bounds := some { addr := s.ringBase n + 64 * slot, ring := n, opcode := op, field := detail } })

/-! ### Scheduling (R67 to R72) -/

/-- Doorbells of an engine's queue reach it: the rings' tails become known (R69). -/
def deliverBells (e : Nat) (s : State) : State :=
  forEach (s.engine e).bells (fun n st => st.modRing n fun r => { r with seen := r.sw })
    (s.modEngine e fun g => { g with bells := [] })

/-- The rings bound to engine e by its duty (R67, R10). -/
def State.boundRings (s : State) (e : Nat) : List Nat :=
  match s.dutyOf e with
  | some j =>
    if j < 4 then []
    else (s.rings.map (·.1)).filter fun n =>
      s.ringKind n == 0 && s.ringOn n && s.ringSpan n == e / 9 && n % 4 == j - 4
  | none => []

/-- A submission ring is held by a long command or a FENCE (R71). -/
def State.ringBlocked (s : State) (n : Nat) : Bool :=
  s.jobs.any fun j => j.ring == n && j.stage != .stalled &&
    (decide (8 ≤ j.opcode ∧ j.opcode ≤ 13) || (match j.stage with | .fence _ => true | _ => false))

/-- The completion ring of submission ring n keeps it from starting a descriptor: it is FULL; or for a class-0 ring an entry
of its own waits there, or it is FULL and a command of the ring has still to write an entry that would wait (R72)
(DEDUCED, log 88). -/
def State.cqHolds (s : State) (n : Nat) : Bool :=
  if s.ringClass n = 0 then
    (s.ring (s.ringCq n)).waiting.any (fun c => c.sq == n) ||
      (s.ringFull (s.ringCq n) && s.jobs.any fun j => j.ring == n && j.stage != .stalled)
  else s.ringFull (s.ringCq n)

/-- A submission ring waits for space in its completion ring, for a parking slot, or for an update slot (R72, R93,
R199). -/
def State.ringStalled (s : State) (n : Nat) : Bool :=
  s.cqHolds n || s.jobs.any fun j => j.ring == n && j.stage == .stalled

/-- May engine e fetch from ring n now (R68)? -/
def State.eligible (s : State) (n : Nat) : Bool :=
  (s.ring n).seen != (s.ring n).hw && !s.ringBlocked n && !s.ringStalled n

/-- The next ring in turn at or above `last`, else the lowest. -/
def nextRing (last : Nat) (l : List Nat) : Option Nat := (l.find? fun n => decide (last ≤ n)).orElse fun _ => l.head?

/-- One pass over the grants of classes 1 to 3: the class served and the grants left (R68). -/
def spendGrants (ok : Nat → Bool) (g : List Nat) : Option Nat × List Nat :=
  match (List.range 3).find? fun c => decide (0 < wd g c) && ok (c + 1) with
  | some c => (some (c + 1), (List.range 3).map fun k => if k < c then 0 else if k = c then wd g k - 1 else wd g k)
  | none => (none, [0, 0, 0])

/-- The ring from which engine e fetches next, with the engine's new turn (R68). -/
def chooseRing (e : Nat) (s : State) : Option Nat × Engine :=
  let g := s.engine e
  let l := (s.boundRings e).filter s.eligible
  match nextRing g.last0 (l.filter fun n => s.ringClass n == 0) with
  | some n => (some n, { g with last0 := n + 1 })
  | none =>
    let ofClass := fun c => l.filter fun n => s.ringClass n == c
    let ok := fun c => !(ofClass c).isEmpty
    let w := s.rd (.spanRingSched (e / 9))
    let (c, left) := match spendGrants ok g.grants with
      | (some c, left) => (some c, left)
      | (none, _) => spendGrants ok [fld w 7 0, fld w 15 8, fld w 23 16]
    match c with
    | none => (none, { g with grants := left })
    | some c =>
      match nextRing (wd g.last (c - 1)) (ofClass c) with
      | some n => (some n, { g with grants := left, last := g.last.set (c - 1) (n + 1) })
      | none => (none, { g with grants := left })

/-- No descriptor is fetched while an entry to Hold, Keep or Off runs, or a power failure (R335 step 1, R338); in a wake they
are fetched once the ring engines run again (R313, R344). -/
def State.fetchHeld (s : State) : Bool :=
  match s.power.move with
  | .none => s.power.state != .run && s.power.state != .trim
  | .switch _ => false
  | .wake k => k == 0
  | _ => true

/-- SCHEDULING_POINT: a free ring engine chooses the next descriptor and reads it (R68). -/
def schedulingPoint (e : Nat) (s : State) : State :=
  let g := s.engine e
  if !g.running || g.takeover || g.fetch.isSome || g.job.isSome || s.fetchHeld || s.faultg.fatal then s
  else
    let s := deliverBells e s
    match chooseRing e s with
    | (none, g) => s.setEngine e g
    | (some n, g) =>
      (s.setEngine e { g with fetch := some (n, (s.ring n).hw) }).emit (.hostRead (s.ringBase n + 64 * (s.ring n).hw) 64)

/-- DESCRIPTOR_FETCH: the read of a descriptor completes, with its 16 words, or in error or poisoned (R73); for a ring
disabled meanwhile even the latter is ABORTED (R64) (DEDUCED, log 89). -/
def descriptorFetch (e : Nat) (words : Option (List Nat)) (s : State) : State :=
  match (s.engine e).fetch with
  | none => s
  | some (n, slot) =>
    let g := s.engine e
    let s := s.modEngine e fun g => { g with fetch := none }
    let s := s.journal e (.fetched n slot g.last0 g.last g.grants)
    let s := s.modRing n fun r => { r with hw := (slot + 1) % s.ringSize n, rung := r.rung.filter fun b => b.1 != slot }
    if !s.ringOn n then
      let tag := match words with | some d => fld (wd d 0) 31 16 | none => 0
      stopCheck n (writeCompletion n slot tag (match words with | some d => fld (wd d 0) 7 0 | none => 0) 6 0 s)
    else
      match words with
      | none => stopCheck n (writeCompletion n slot 0 0 7 0 s)
      | some d =>
        match checkDescriptor n d s with
        | some (st, detail) =>
          let op := fld (wd d 0) 7 0
          let s := if st = 1 then boundsLog n slot op detail s else s
          stopCheck n (writeCompletion n slot (fld (wd d 0) 31 16) op st detail s)
        | none => s.modEngine e fun g => { g with job := some { ring := n, slot := s.slotKey n slot, engine := e, desc := d, stage := .fetched } }

/-- Start the descriptor that engine e holds, of opcode op: its state is checked again, then its work begins; with its
completion ring FULL it waits (R72). Where none is held, a command of op that waits for space or a slot is tried again
(R70, R73, R93, R199) (DEDUCED, log 54). -/
def startJob (e op : Nat) (work : Job → State → State) (s : State) : State :=
  let start := fun (holds : Bool) (j : Job) (s : State) =>
    if holds then s.setJob { j with stage := .stalled }
    else
      let s := s.journal e (.started j.ring j.slot)
      if stateFails op j.desc s then finishJob j 2 0 s
      else if opMemory op && s.memLost then finishJob j 7 0 s
      else
        let s := work j s
        if (s.jobAt j.ring j.slot).isSome then s.journal e (.handed j.ring j.slot) else s
  match (s.engine e).job with
  | some j =>
    if j.opcode = op then
      start (s.cqHolds j.ring) j { s.modEngine e (fun g => { g with job := none }) with
                  jobs := s.jobs ++ [{ j with stage := .running }], power.activity := true }
    else s
  | none =>
    match s.jobs.find? fun j => j.engine == e && j.opcode == op && j.stage == .stalled && !s.cqHolds j.ring with
    | some j => start false j (s.setJob { j with stage := .running })
    | none => s

/-! ### NOP, FENCE, FLUSH, TILE_CMD, POWER_REQ -/

/-- NOP completes at once (R78). -/
def runNop (j : Job) (s : State) : State := finishJob j 0 0 s

/-- FENCE holds its ring until its conditions hold (R79). -/
def runFence (j : Job) (s : State) : State := fenceCheck j.ring (s.setJob { j with stage := .fence false })

/-- The FENCEs that wait for a latch point, their earlier commands done (R79). -/
def State.fencesDue (s : State) : List Job :=
  s.jobs.filter fun j => j.stage == .fence false &&
    s.jobs.all fun o => o.ring != j.ring || o.slot == j.slot || (o.stage == .parked && !bit (fld (wd j.desc 0) 15 8) 1)

/-- A latch point comes for the FENCEs whose earlier commands were done before it (R79) (DEDUCED, log 87). -/
def latchFences (due : List Job) (s : State) : State :=
  forEach due (fun j st => stopCheck j.ring (fenceCheck j.ring (st.setJob { j with stage := .fence true }))) s

/-- FLUSH closes the open block of each named port that is up (R83, R241). -/
def runFlush (j : Job) (s : State) : State :=
  let s := forEach ((List.range 32).filter fun p => bit (wd j.desc 2) p && (s.port p).state == 2) (fun p st =>
    let i := st.pipeOf p
    if (st.codec i).open_.isSome then detectNote (codecUnit i) 1 (closeBlock i false st) else st) s
  finishJob j 0 0 s

/-- A host read of a command completes in error: MEDIA; the spec gives no reason code for it, so DETAIL is a free value
(R77) (DESIGN CHOICE, log 91). -/
def readFailed (j : Job) (s : State) : State := finishJob j 7 (Config.freeValue s.free % 2 ^ 32) s.tickFree

/-- The first n bytes of what a host read returned; none: it completed in error, or fewer bytes came (R77). -/
def hostBytes (n : Nat) (data : Option (List Nat)) : Option (List Nat) :=
  match data with
  | some l => if n ≤ l.length then some ((l.take n).map (· % 256)) else none
  | none => none

/-- TILE_CMD with its payload of CMD_LEN bytes sends its CMD (R85, R296): a broadcast completes when its packet has
left. -/
def sendTileCmd (payload : List Nat) (j : Job) (s : State) : State :=
  let p := fld (wd j.desc 2) 4 0
  let h := fld (wd j.desc 2) 15 8
  let tag := (s.port p).tagTile % 128
  let s := s.modPort p fun q => { q with tagTile := (q.tagTile + 1) % 128 }
  if h = 0 then
    sendCmd p 0 tag payload (s.modPort p fun q =>
      { q with bcasts := q.bcasts ++ [(packetBytes 4 0 ([tag, 0] ++ payload), j.ring, j.slot)] })
  else
    pumpCmds p (s.modPort p fun q =>
      { q with cmds := q.cmds ++ [{ hop := h, tag := tag, payload := payload, owner := .tile j.ring j.slot }] })

/-- TILE_CMD reads CMD_LEN bytes at CMD_ADDR and sends them, or meets a failed read (R85, R77). -/
def runTileCmd (payload : Option (List Nat)) (j : Job) (s : State) : State :=
  let len := fld (wd j.desc 3) 15 0
  let s := s.emit (.hostRead (wd64 j.desc 4) len)
  match hostBytes len payload with
  | none => readFailed j s
  | some l => sendTileCmd l j s

/-- TILE_CMD_TIMEOUT: no response to the CMD of a TAG within 10 ms (R85, R296): a TILE_CMD completes with MEDIA, and the hop's next
CMD goes out, after one of the controller's own too; a CONFIG has its own timeout (R305). -/
def tileCmdTimeout (p h tag : Nat) (s : State) : State :=
  match (s.port p).cmds.find? fun c => c.sent && c.hop == h && c.tag == tag && c.owner != .config with
  | some c =>
    let s := dropCmd p c s
    (match c.owner with
    | .tile ring slot =>
      match s.jobAt ring slot with
      | some j => finishJob j 7 0 s
      | none => s
    | _ => s)
  | none => s

/-- POWER_REQ on a ring (R87, R328, R330). -/
def runPowerReq (j : Job) (s : State) : State :=
  match PowerState.ofCode (wd j.desc 2) with
  | none => finishJob j 4 8 s
  | some t =>
    if t = s.power.state then finishJob j 0 t.code s
    else powerRequest t { s with power.fromRing := some (j.ring, j.slot), power.fromReg := false }

/-! ### LAYER_WRITE and parking (R80, R90 to R93) -/

/-- The host reads of a LAYER_WRITE: one for each source row, in ascending order (R80). -/
def writeReads (j : Job) (s : State) : State :=
  forEach (List.range (wd j.desc 7)) (fun r st => st.emit (.hostRead (wd64 j.desc 2 + r * wd j.desc 8) (wd j.desc 6))) s

/-- A LAYER_WRITE begins to run: it reads host memory, asks for its channels, and is a content change (R31, R80, R114). -/
def runWrite (j : Job) (s : State) : State :=
  noteChange (memRequestAll 3 (j.engine / 9) (engineWho j.engine) (writeReads j (s.setJob { j with stage := .running })))

/-- Parked LAYER_WRITEs of a span (R93). -/
def State.parked (s : State) (sp : Nat) : Nat :=
  (s.jobs.filter fun j => j.stage == .parked && s.ringSpan j.ring == sp).length

/-- Command j in its new form, as the last of the list: parked writes stand in the order in which they were parked
(R92). -/
def State.moveLast (j : Job) (s : State) : State :=
  { s with jobs := (s.jobs.filter fun x => !(x.ring == j.ring && x.slot == j.slot)) ++ [j] }

/-- LAYER_WRITE starts: it runs, is parked, waits for a slot, or is refused (R80, R91, R93). -/
def runLayerWrite (j : Job) (s : State) : State :=
  let (a, len) := j.dst
  if len = 0 then finishJob j 0 0 s
  else if !s.references a len then runWrite j s
  else if bit (fld (wd j.desc 0) 15 8) 0 then finishJob j 2 0 s
  else if s.parked (s.ringSpan j.ring) < 64 then fenceCheck j.ring (s.moveLast { j with stage := .parked, aux := 0 })
  else s.setJob { j with stage := .stalled }

/-- Released parked writes run, those whose destinations overlap in the order in which they were parked (R92). A
released write has aux 1. -/
def runReleased : Nat → State → State
  | 0, s => s
  | k + 1, s =>
    let before := fun (j : Job) => s.jobs.takeWhile fun o => !(o.ring == j.ring && o.slot == j.slot)
    let ready := fun (j : Job) => j.stage == .parked && j.aux == 1 &&
      !(before j).any fun o => (o.stage == .parked || o.aux == 2) && rangesMeet o.dst.1 o.dst.2 j.dst.1 j.dst.2
    match s.jobs.find? ready with
    | none => s
    | some j => runReleased k (runWrite { j with aux := 2 } s)

/-- LAYER_WRITE_DONE: the copy of a LAYER_WRITE ends with the bytes read; with an error, DETAIL counts the rows
written whole (R80, R77); of two such commands of one slot the older ends first (DESIGN CHOICE, log 90). -/
def layerWriteDone (n slot : Nat) (data : List Nat) (error : Bool) (s : State) : State :=
  match s.jobOf 2 n slot with
  | none => s
  | some j =>
    let bytes := wd j.desc 6
    let rows := wd j.desc 7
    if !error && decide (data.length < rows * bytes) then s
    else
      let have_ := min data.length (rows * bytes)
      let s := forEach (List.range (divUp have_ bytes)) (fun r st =>
        st.puts (wd64 j.desc 4 + r * wd j.desc 9) (((data.take have_).drop (r * bytes)).take bytes)) s
      let s := noteChange (noteVersion s)
      let s := if error then finishJob j 7 (have_ / bytes) s else finishJob j 0 rows s
      runReleased s.jobs.length s

/-! ### LAYER_BIND and SURFACE_RETIRE (R81, R82) -/

/-- A SURFACE_RETIRE whose range is no longer referenced completes, and releases the parked writes that it overlaps
(R82, R92). -/
def retireOne (detail : Nat) (j : Job) (s : State) : State :=
  if s.references (wd64 j.desc 4) (wd64 j.desc 6) then s
  else
    let s := { s with jobs := s.jobs.map fun o =>
      if o.stage == .parked && rangesMeet o.dst.1 o.dst.2 (wd64 j.desc 4) (wd64 j.desc 6) then { o with aux := 1 } else o }
    let s := finishJob j 0 detail s
    runReleased s.jobs.length s

/-- Every SURFACE_RETIRE that waits is decided (R82, R125 step 4). -/
def retireCheck (detail : Nat) (s : State) : State :=
  forEach (s.jobs.filter fun j => j.stage == .retiring) (retireOne detail) s

/-- The started binds apply, in the order in which they started (R81, R125 step 3). -/
def applyBinds (detail : Nat) (s : State) : State :=
  forEach (s.jobs.filter fun j => j.stage == .binding) (fun j st =>
    finishJob j 0 detail
      { st with layers := Tab.put {} (fld (wd j.desc 2) 5 0) (descSurface j.desc 3) st.layers }) s

/-- LAYER_BIND starts (R81): an earlier bind of the layer that still waits is replaced; with scan-out STOPPED it
applies at once (R126) (DEDUCED, log 52). -/
def runBind (j : Job) (s : State) : State :=
  let old := s.jobs.filter fun o => o.stage == .binding && wd o.desc 2 == wd j.desc 2
  let s := forEach old (fun o st => finishJob o 6 0 st) s
  let s := s.setJob { j with stage := .binding }
  if s.scan.state = .stopped then retireCheck 0 (applyBinds 0 s) else s

/-- SURFACE_RETIRE starts (R82): it completes at once, DETAIL 0, where its range is not referenced. -/
def runRetire (j : Job) (s : State) : State := retireOne 0 j (s.setJob { j with stage := .retiring })

/-! ### BIST_UPDATE (R84, R199) -/

/-- BIST_UPDATE takes one of its span's 8 update slots and visits its region; with none free its ring stalls (R199). `check`: what
the memory's checks found on the way, and `bad` the cells that an uncorrectable error lies in (R202, R397). -/
def runBistUpdate (check : Check) (bad : List (Nat × Nat)) (j : Job) (s : State) : State :=
  let u : Update := { ring := j.ring, slot := j.slot, cx := fld (wd j.desc 2) 15 0, cy := fld (wd j.desc 2) 31 16,
                      cw := fld (wd j.desc 3) 15 0, ch := fld (wd j.desc 3) 31 16, addr := wd64 j.desc 4, pitch := wd j.desc 6 }
  if u.cw = 0 ∨ u.ch = 0 then finishJob j 0 0 s
  else
    match ((List.range 8).map (8 * s.ringSpan j.ring + ·)).find? fun k => (s.update k).isNone with
    | none => s.setJob { j with stage := .stalled }
    | some k =>
      let s := memoryCheck check (s.setUpdate k (some u))
      settle false k (visitRegion false k u.cx u.cy u.cw u.ch u.addr u.pitch none (badCells check bad) s)

/-- PASS_START with what the memory's checks found in the pass's reads (R189, R202, R397). -/
def passStartChecked (k : Nat) (check : Check) (bad : List (Nat × Nat)) (s : State) : State :=
  passStart k (badCells check bad) (if (s.drive k).tile.isSome && (s.drive k).pass.isNone then memoryCheck check s else s)

/-- INTERNAL_REQUEST_START with what the memory's checks found in its reads (R201, R202, R397). -/
def internalStartChecked (check : Check) (bad : List (Nat × Nat)) (s : State) : State :=
  internalStart (badCells check bad) (if s.bist.queue.isEmpty then s else memoryCheck check s)

/-! ### Enabling and disabling (R63, R64), doorbells (R65, R66, R100) -/

/-- An enabling write starts ring n afresh (R63). -/
def ringStart (n : Nat) (s : State) : State := s.setRing n { phase := true, armed := true }

/-- Submission rings whose entries waited in a completion ring may have stopped: RING_CFG may name another since (R64). -/
def stopChecks (s : State) : State :=
  forEach (s.rings.map (·.1)) (fun m st => if st.ringKind m = 0 then stopCheck m st else st) s

/-- A clearing write stops ring n (R64). -/
def ringStop (n : Nat) (s : State) : State :=
  if s.ringKind n ≠ 0 then stopChecks (s.modRing n fun r => { r with waiting := [], lost := 0 })
  else
    let s := s.modRing n fun r => { r with stopping := true }
    let abort := fun (j : Job) => j.ring == n &&
      (match j.stage with | .fetched | .stalled | .parked | .binding | .retiring => true | _ => false)
    let s := forEach (s.jobs.filter abort) (fun j st => finishJob j 6 0 st) s
    let s := forEach (List.range 72) (fun e st =>
      match (st.engine e).job with
      | some j => if j.ring = n then finishJob j 6 0 (st.modEngine e fun g => { g with job := none }) else st
      | none => st) s
    stopCheck n (runReleased s.jobs.length s)

/-- An accepted doorbell of ring n with an index (R65, R66, R69, R99, R100, R331, R341) (DEDUCED, log 53). -/
def ringBell (n v : Nat) (s : State) : State :=
  let s := s.modRing n fun r => { r with sw := v }
  if s.ringKind n = 0 then
    let s := { s with power.activity := true }
    let s := if s.ringClass n = 0 then s.modRing n fun r => { r with seen := v, rung := r.rung ++ [(v, s.time.count)] }
      else s.modEngine (s.ringEngine n) fun g => { g with bells := g.bells ++ [n] }
    wakeBy 0 s
  else
    let s := s.modRing n fun r => { r with armed := true }
    let s := if (s.ring n).hw = v then s else ringInterrupt n s
    let s := drainCompletions n (s.ring n).waiting.length s
    stopChecks (if s.ringKind n = 2 then writeLost n s else s)

end Sys2Proof.Machine
end

