-- ==== Sys2Proof/Machine/Pixel.lean ====
section
/-!
DEFINITION. The pixel path: surfaces and layers (R115 to R121), the emissive pipeline (R127 to R147), the Anise
sampler (R153 to R156), what Fennel sees of a pixel (R210, R213, R224), line buffers (R123), and the step of a pipe.
-/

namespace Sys2Proof.Machine

/-! ### Reads at the end of usable capacity (R147) -/

/-- The little-endian value of n bytes at a; bytes at or beyond the capacity read 0 (R147). -/
def Mem.lez (m : List Host.Cell) (cap a : Nat) : Nat → Nat
  | 0 => 0
  | n + 1 => (if a < cap then Mem.byte m a else 0) + 256 * Mem.lez m cap (a + 1) n

/-- n bytes at a as they are in memory now, 0 beyond the usable capacity. -/
def State.lez (s : State) (a n : Nat) : Nat := Mem.lez s.mem s.capacity a n

/-- Write n little-endian bytes at a where they lie within the usable capacity. -/
def putIn (a n v : Nat) (s : State) : State := if a + n ≤ s.capacity then s.putLe a n v else s

/-! ### Surfaces (R115, R116) -/

/-- The pixel word of a surface. -/
def surfWord (s : State) (u : Surface) (x y : Nat) : Nat := s.lez (u.addr + y * u.pitch + x * 4) 4

/-- The chroma of format 2 at column x: bits [19:10] of the even (Cb) or odd (Cr) word of each pair, averaged with the
next pair for an odd column (R116 step 1). -/
def chroma (s : State) (u : Surface) (x y odd : Nat) : Nat :=
  let k := x / 2
  let at' := fun k => fld (surfWord s u (2 * k + odd) y) 19 10
  if x % 2 = 0 then at' k else (at' k + at' (if 2 * k + 2 < u.w then k + 1 else k) + 1) / 2

/-- One pixel of a surface as a composition sample (R116); zeros beyond the surface (R117). -/
def unpack (s : State) (peak ec : Nat) (u : Surface) (x y : Nat) : Sample :=
  if u.w ≤ x ∨ u.h ≤ y then {}
  else
    let w := surfWord s u x y
    let p : Sample :=
      if u.format = 0 then { r := widen8 (fld w 7 0), g := widen8 (fld w 15 8), b := widen8 (fld w 23 16), a := widen8 (fld w 31 24) }
      else if u.format = 1 then
        { r := widen10 (fld w 9 0), g := widen10 (fld w 19 10), b := widen10 (fld w 29 20), a := widen2 (fld w 31 30) }
      else ycbcr u.encoding (fld w 9 0) (chroma s u x y 0) (chroma s u x y 1) (widen10 (fld w 29 20))
    reencode peak u.encoding ec p

/-! ### Layers (R117, R118, R119) -/

/-- u of R117 at window index i on one axis. -/
def axisPos (crop cw ww i : Nat) : Int :=
  let step := cw * 65536 / ww
  (crop * 65536 : Int) + i * step + (step / 2 : Nat) - 32768

/-- A source index clamped to the crop rectangle (R117). -/
def clampCrop (crop cw : Nat) (k : Int) : Nat := (clampI k crop ((crop : Int) + cw - 1)).toNat

/-- The window of layer n, working: left, top, width, height. -/
def State.layerWin (s : State) (n : Nat) : Int × Int × Nat × Nat :=
  let p := s.wk (.layerWinPos n)
  let z := s.wk (.layerWinSize n)
  (signed (fld p 15 0) 16, signed (fld p 31 16) 16, fld z 15 0, fld z 31 16)

/-- Does layer n have a bound surface, and cover raster pixel (x, y)? -/
def State.layerCovers (s : State) (n x y : Nat) : Bool :=
  let (wx, wy, ww, wh) := s.layerWin n
  s.layerOn n && (s.layer n).bound && decide (wx ≤ x ∧ (x : Int) < wx + ww ∧ wy ≤ y ∧ (y : Int) < wy + wh)

/-- The sample of layer n at raster pixel (x, y) (R117, R118). -/
def layerSample (s : State) (peak ec n x y : Nat) : Sample :=
  let (wx, wy, ww, wh) := s.layerWin n
  let c := s.wk (.layerCropPos n)
  let z := s.wk (.layerCropSize n)
  let (cx, cy, cw, ch) := (fld c 15 0, fld c 31 16, fld z 15 0, fld z 31 16)
  let ux := axisPos cx cw ww ((x : Int) - wx).toNat
  let uy := axisPos cy ch wh ((y : Int) - wy).toNat
  let at' := fun (i j : Int) => unpack s peak ec (s.layer n) (clampCrop cx cw i) (clampCrop cy ch j)
  if bit (s.wk (.layerCtl n)) 1 then
    let row := fun (j : Int) => tapSamples (taps ((ux / 1024) % 64).toNat)
      ((List.range 4).map fun k : Nat => at' (ux / 65536 - 1 + k) j)
    tapSamples (taps ((uy / 1024) % 64).toNat) ((List.range 4).map fun k : Nat => row (uy / 65536 - 1 + k))
  else at' ((ux + 32768) / 65536) ((uy + 32768) / 65536)

/-- LAYER_CTL.ALPHA of layer n, working. -/
def State.layerAlpha (s : State) (n : Nat) : Nat := fld (s.wk (.layerCtl n)) 15 8

/-- SCAN_COMP_CFG.ENCODING, working. -/
def State.compEncoding (s : State) : Nat := fld (s.wk .scanCompCfg) 1 0

/-- Steps 1 and 2 of R120 at raster pixel (x, y): the composition tap, and whether more than 8 layers met. -/
def composeTap (s : State) (peak x y : Nat) : List Nat × Bool :=
  let l := (List.range 64).filter fun n => s.layerCovers n x y
  let bg := s.wk .scanBackground
  ((l.drop (l.length - 8)).foldl (fun d n => composeOver (s.layerAlpha n) (layerSample s peak s.compEncoding n x y) d)
    [widen10 (fld bg 9 0), widen10 (fld bg 19 10), widen10 (fld bg 29 20)], decide (8 < l.length))

/-- The window of an alert covers raster pixel (x, y) (R314). -/
def AlertSurf.covers (a : AlertSurf) (x y : Nat) : Bool :=
  decide (a.x ≤ x ∧ x < a.x + a.surf.w ∧ a.y ≤ y ∧ y < a.y + a.surf.h)

/-- Step 3 of R120: the alert over the tap. -/
def composeAlert (s : State) (peak : Nat) (a : Option AlertSurf) (x y : Nat) (d : List Nat) : List Nat :=
  match a with
  | some a => if a.covers x y then composeOver a.alpha (unpack s peak s.compEncoding a.surf (x - a.x) (y - a.y)) d else d
  | none => d

/-! ### Tables (R136 to R141, R146, R147) -/

/-- An address of the family descriptor of tile i at the load (R146). -/
def Load.familyAddr (ld : Load) (s : State) (i o : Nat) : Nat :=
  Mem.lez ld.mem ld.capacity (s.geom.familyBase + (s.placement i).family * 128 + o) 8

/-- The chroma matrix of a tile (R136). -/
def Load.matrix (ld : Load) (s : State) (i : Nat) : List Int :=
  (List.range 9).map fun k => signed (Mem.lez ld.mem ld.capacity (ld.matrixBase + (s.placement i).matrix * 32 + 2 * k) 2) 16

/-- Entry k of output curve n of a tile's family (R141). -/
def Load.curve (ld : Load) (s : State) (i n k : Nat) : Nat :=
  Mem.lez ld.mem ld.capacity (ld.familyAddr s i 0x10 + n * 2112 + 2 * k) 2

/-- Entry k of stress curve n of a tile's family (R153). -/
def Load.stress (ld : Load) (s : State) (i n k : Nat) : Nat :=
  Mem.lez ld.mem ld.capacity (ld.familyAddr s i 0x18 + n * 512 + 2 * k) 2

/-- EMIT_KNOT_BASE as set. -/
def State.knotBase (s : State) : Nat := s.pair .emitKnotBaseLo .emitKnotBaseHi

/-- KW and KH of a tile (R137). -/
def State.knotDims (s : State) (i : Nat) : Nat × Nat := ((s.familyOf i).tileW / 16 + 1, (s.familyOf i).tileH / 16 + 1)

/-- The address of knot (a, b) of subpixel c of tile i from an area's start: `off` 0 for base, 0x2000 for ageing knots
(R137). -/
def State.knotAddr (s : State) (base off i c a b : Nat) : Nat :=
  base + i * 0x4000 + off + ((c * (s.knotDims i).2 + b) * (s.knotDims i).1 + a) * 2

/-- The four knots around a pixel lie within the usable capacity. -/
def State.knotsIn (s : State) (base off i c u v : Nat) : Bool :=
  s.knotAddr base off i c (u / 16 + 1) (v / 16 + 1) + 2 ≤ s.capacity

/-- Interpolate an area's knots at (u, v) (R138). -/
def State.knotAt (s : State) (base off i c u v : Nat) : Nat :=
  knotInterp (fun a b => s.lez (s.knotAddr base off i c a b) 2) u v

/-- A load of a pipe takes the present settings and memory (R146) (DEDUCED, log 83). -/
def takeLoad (s : State) : Load :=
  { mem := s.mem, capacity := s.capacity, matrixBase := s.pair .emitMatrixBaseLo .emitMatrixBaseHi, knotBase := s.knotBase,
    deltaBase := s.pair .emitDeltaBaseLo .emitDeltaBaseHi, emitCtl := s.f .emitCtl 3 0, peak := s.f .emitPqCfg 13 0 }

/-- EMIT RANGE is detected at most once per pipe and window (R147). -/
def emitRange (i : Nat) (s : State) : State :=
  if (s.pipe i).ranged then s else detectNote 9 0 (s.modPipe i fun q => { q with ranged := true })

/-- AGE RANGE is detected at most once per pipe and window (R175, as R147). -/
def ageRange (i : Nat) (s : State) : State :=
  if (s.pipe i).ageRanged then s else detectNote 10 5 (s.modPipe i fun q => { q with ageRanged := true })

/-- Pipe i, for port p, loads its tables; the reads count in the window that the load opens (R146, R147). -/
def loadPipe (i p : Nat) (s : State) : State :=
  let ld := takeLoad s
  let s := s.modPipe i fun q => { q with load := some ld, dirty := true }
  let tiles := s.fedTiles p
  let curves := fun (t : Nat) => if (s.familyOf t).spareEmitter then 6 else 3
  let bad := tiles.any fun t => decide (ld.capacity < ld.matrixBase + (s.placement t).matrix * 32 + 18) ||
    decide (ld.capacity < ld.familyAddr s t 0x10 + (curves t - 1) * 2112 + 2050)
  let worn := tiles.any fun t => decide (ld.capacity < ld.familyAddr s t 0x18 + curves t * 512)
  let s := if bad then emitRange i s else s
  if worn then ageRange i s else s

/-! ### Cardamom and residency in the pipe (R165, R140) -/

/-- The Cardamom record of a tile, as the pipes hold it (R164). -/
def State.card (s : State) (i : Nat) : Nat := Tab.get 0 i s.age.cards
/-- State of colour c in a Cardamom record. -/
def cardState (card c : Nat) : Nat := fld card (2 * c + 1) (2 * c)
/-- START of a Cardamom record. -/
def cardStart (card : Nat) : Nat := fld card 47 16

/-- How many frames of a fade have begun in frame n, counting n: 0 before N0 (R165). -/
def fadeStep (card n : Nat) : Nat :=
  let d := (n % 2 ^ 32 + 2 ^ 32 - cardStart card) % 2 ^ 32
  if d < 2 ^ 31 then min 64 (d + 1) else 0

/-- Is colour c of pixel (u, v) of tile i fading, and carried by its spare, in frame n (R165)? Never where the family has no
spares. -/
def State.fadeDriven (s : State) (i c u v n : Nat) : Bool :=
  (s.familyOf i).spareEmitter && cardState (s.card i) c == 1 && decide (ditherP (v % 64) (u % 64) < 64 * fadeStep (s.card i) n)

/-- The emitter curve of colour c at a pixel: c, or 3 + c where the spare carries the drive (R141, R165); a family without
spares has no curves 3 to 5 to read, so curve c serves whatever its record says (DESIGN CHOICE, log 95). -/
def State.curveOf (s : State) (i c u v n : Nat) : Nat :=
  if (s.familyOf i).spareEmitter && (cardState (s.card i) c == 2 || s.fadeDriven i c u v n) then 3 + c else c

/-- F at a pixel (R140): 32,768 without a bistable layer, under Fennel disabled, and under an alert's window. -/
def State.factorAt (s : State) (i u v : Nat) (alert : Option AlertSurf) : Nat :=
  let shown := match alert with | some a => a.covers ((s.placement i).x + u) ((s.placement i).y + v) | none => false
  if !(s.familyOf i).bistable || s.res.off || shown then 32768 else (s.cell (64 * i + 8 * (v / 64) + u / 64)).f

/-! ### One pixel (R127) -/

/-- What the pipeline computes of a pixel. -/
structure Pix where
  /-- The composition tap of R210. -/
  tap : List Nat
  /-- Drive codes, the outputs of the transfer curves (R141). -/
  drive : List Nat
  /-- The curves that gave them. -/
  curves : List Nat
  /-- Native codes (R144). -/
  codes : List Nat
  /-- More than 8 layers met. -/
  exceeded : Bool
  /-- A read in place met the end of usable capacity (R147). -/
  range : Bool
  deriving DecidableEq, Repr

/-- Gain, ageing and residency, and the output curve of subpixel c: drive code and curve (R139 to R141). -/
def subpixel (s : State) (ld : Load) (i u v n : Nat) (alert : Option AlertSurf) (c l : Nat) : Nat × Nat :=
  let x := (s.placement i).x + u
  let y := (s.placement i).y + v
  let g := if bit ld.emitCtl 0 then
      gainOf (s.knotAt ld.knotBase 0 i c u v) (s.lez (ld.deltaBase + (y * s.geom.width + x) * 3 + c) 1) else 32768
  let l := if bit ld.emitCtl 0 then scaleU15 l g else l
  let a := if !bit ld.emitCtl 1 then 32768
    else if s.fadeDriven i c u v n then Tab.get 32768 (4 * i + c) s.age.a0 else s.knotAt ld.knotBase 0x2000 i c u v
  let l := scaleU15 l ((a * s.factorAt i u v alert + 16384) / 32768)
  let curve := s.curveOf i c u v n
  (seg (ld.curve s i curve) l, curve)

/-- Pixel (u, v) of tile i in frame n, through every stage of R127; what GAIN = 0 or AGE = 0 leaves unused is not read either
(DEDUCED, log 96). -/
def pixelOf (s : State) (ld : Load) (i u v n : Nat) (alert : Option AlertSurf) : Pix :=
  let x := (s.placement i).x + u
  let y := (s.placement i).y + v
  let (tap, exceeded) := composeTap s ld.peak x y
  let d := composeAlert s ld.peak alert x y tap
  let lin := mat3 (ld.matrix s i) (d.map (linFwd ld.peak s.compEncoding))
  let out := (List.range 3).map fun c => subpixel s ld i u v n alert c (wd lin c)
  let depth := s.tileDepth i
  let codes := (List.range 3).map fun c =>
    nativeCode depth (out.getD c (0, 0)).1 (ditherR (s.placement i).seed n (bit ld.emitCtl 3) u v c) (bit ld.emitCtl 2)
  let past := (List.range 3).any fun c =>
    (bit ld.emitCtl 0 && (!s.knotsIn ld.knotBase 0 i c u v ||
      decide (s.capacity ≤ ld.deltaBase + (y * s.geom.width + x) * 3 + c))) ||
    (bit ld.emitCtl 1 && !s.fadeDriven i c u v n && !s.knotsIn ld.knotBase 0x2000 i c u v)
  { tap := tap, drive := out.map (·.1), curves := out.map (·.2), codes := codes, exceeded := exceeded, range := past }

/-! ### Anise (R150 to R156) -/

/-- The address of a stress counter (R150). -/
def State.stressAddr (s : State) (x y c : Nat) : Nat :=
  s.pair .ageStressBaseLo .ageStressBaseHi + (y * s.geom.width + x) * 12 + c * 4

/-- The stress rate of a drive code (R153). -/
def stressRate (t : Nat → Nat) (d : Nat) : Nat :=
  let i := d / 256
  if i = 255 then t 255 else (((t i : Int) + (((t (i + 1) : Int) - t i) * (d % 256 : Nat) + 128) / 256)).toNat

/-- The increment of R155. -/
def stressInc (weight period rate frame n x y c : Nat) : Nat :=
  let num := weight * period * rate
  let fr := num % 409600000000 / 6250000
  let w := frame / n % 65536
  let u := (ditherP (y % 64) (x % 64) * 16 + 4001 * c + 40503 * w) % 65536
  num / 409600000000 + (if u < fr then 1 else 0)

/-- Add to a counter (R151): it saturates, and the sample that first brings it there is reported. -/
def stressAdd (src i x y c inc : Nat) (s : State) : State :=
  let a := s.stressAddr x y c
  let old := s.lez a 4
  let new := min 0xFFFFFFFF (old + inc)
  let s := putIn a 4 new s
  if old < 0xFFFFFFFF && new = 0xFFFFFFFF then
    raiseEvent src 5 [3, i / 128 + at_ (i % 128 + 1) 8 + at_ c 16, x + at_ y 16, 0] (detectNote 10 0 s)
  else s

/-- AGE_CTL.ANISE. -/
def State.anise (s : State) : Bool := s.b .ageCtl 0

/-- Is the row of tile i at local v in the stripe of frame f, of n stripes (R154)? -/
def State.striped (s : State) (i v f n : Nat) : Bool :=
  s.anise && s.scan.state == .running && n ≠ 0 && ((s.placement i).y + v) % n == f % n

/-- The missed count of raster row y of pipe i (R156). -/
def State.missed (s : State) (i y : Nat) : Nat := Tab.get 0 (16384 * i + y) s.age.missed

/-- Set the missed count of raster row y of pipe i. -/
def State.setMissed (i y m : Nat) (s : State) : State := { s with age.missed := Tab.put 0 (16384 * i + y) m s.age.missed }

/-- The state as pipe i sees it: the working registers and surfaces that it took when it opened its window (R125). -/
def State.viewOf (s : State) (i : Nat) : State := { s with work := (s.pipe i).work, layers := (s.pipe i).layers }

/-- Anise samples the row segment of tile i at local v whole, with the given weight and sweep frame (R154 to R156): the row's counters are read and written in memory class 4 (R31). -/
def sampleRow (pipe : Nat) (ld : Load) (i v weight period frame n : Nat) (every : Bool) (s : State) : State :=
  let w := (s.familyOf i).tileW
  let y := (s.placement i).y + v
  let past := decide (s.capacity < s.stressAddr ((s.placement i).x + w - 1) y 2 + 4)
  let t := s.viewOf pipe
  let s := memRequestRange 4 (pipeSpan pipe) pipe (s.stressAddr (s.placement i).x y 0) (12 * w) s
  let s := forEach (List.range w) (fun u st =>
    let x := (t.placement i).x + u
    let px := pixelOf t ld i u v (t.pipe pipe).frame (t.pipe pipe).alert
    forEach ((List.range 3).filter fun c => every || cardState (t.card i) c != 1) (fun c st =>
      let r := stressRate (ld.stress t i (wd px.curves c)) (wd px.drive c)
      stressAdd (0x1000 + pipeSpan pipe) i x y c (stressInc weight period r frame n x y c) st) st) s
  if past then ageRange pipe s else s

/-- A stripe row is sampled when the pipe begins its segment, with the weight of its missed count, which returns to 0 with
the last of the pipe's segments in that raster row (DEDUCED, log 45). -/
def aniseRow (pipe i v : Nat) (s : State) : State :=
  let q := s.pipe pipe
  let y := (s.placement i).y + v
  match q.load with
  | none => s
  | some ld =>
    if !s.striped i v q.frame q.n then s
    else
      let more := (q.todo.drop 1).any fun t => (s.placement t.1).y + t.2 == y
      let s := sampleRow pipe ld i v (q.n * (1 + s.missed pipe y)) q.period q.frame q.n false s
      if more then s else s.setMissed pipe y 0

/-- Raster row y of pipe i has a segment in the stripe that was not read before the window closed (R156). -/
def missRow (i y : Nat) (s : State) : State :=
  let m := s.missed i y
  if m = 15 then detectNote 10 1 s else s.setMissed i y (m + 1)

/-- Of the segments of pipe i in frame f, those in one of the n stripes of that frame are missed, by raster row (R156). -/
def missRows (i n f : Nat) (l : List (Nat × Nat)) (s : State) : State :=
  let rows := ((l.filter fun t => s.striped t.1 t.2 f n).map fun t => (s.placement t.1).y + t.2).eraseDups
  forEach rows (missRow i) s

/-! ### Fennel sees a pixel (R210, R213, R224) -/

/-- Is the open frame a capture frame of a cell, so far as is known before its end (R213)? -/
def State.capturing (s : State) (c : ResCell) : Bool := !c.captured && c.fresh && decide (s.res.th ≤ c.still + 1)

/-- The least distance of a target byte to the palette of a component (R213). -/
def paletteError (f : BistFam) (c x : Nat) : Nat :=
  (List.range 8).foldl (fun m l => min m (max x (f.code c l) - min x (f.code c l))) 255

/-- A bistable cell of a capture is complete: its target bytes are written (R213, R224). -/
def captureCell (key cx cy col : Nat) (s : State) : State :=
  let f := s.bistFam (key / 64)
  forEach (List.range 3) (fun c st =>
    let sum := Tab.get 0 (3 * col + c) (st.cell key).sums
    let x := min 255 ((sum + 512) / 1024)
    let a := st.pair .resTargetBaseLo .resTargetBaseHi + (cy * (st.geom.width / 2) + cx) * 3 + c
    let st := if a < st.capacity then st.puts a [x]
      else (if (st.cell key).bad then st else detectNote 12 0 st).modCell key fun z => { z with bad := true }
    st.modCell key fun z => { z with err := z.err + paletteError f c x, sums := Tab.put 0 (3 * col + c) 0 z.sums }) s

/-- A residency cell has been completed: signature and capture are decided (R210, R213), and Fennel looks at it. -/
def resComplete (key : Nat) (s : State) : State :=
  let c := s.cell key
  let r := s.resRect (key / 64) (key % 64)
  let sig := Nat.xor c.crc 0xFFFFFFFF
  let n := r.w / 2 * (r.h / 2)
  let s := if c.sig = some sig then
      let good := s.capturing c && !c.bad
      s.modCell key fun z => { z with
        still := min 65535 (z.still + 1), captured := z.captured || good
        passed := if good then decide (16 * z.err ≤ fld s.res.rep 11 0 * 3 * n) else z.passed }
    else resChange key (s.modCell key fun z => { z with still := 0, sig := some sig })
  resDecide key (s.scan.frame + 1) s

/-- The tap of pixel (u, v) of tile i reaches Fennel. -/
def resTap (i u v : Nat) (tap : List Nat) (s : State) : State :=
  if !s.resOn || !(s.familyOf i).bistable then s
  else
    let key := 64 * i + 8 * (v / 64) + u / 64
    let r := s.resRect i (key % 64)
    let col := (u - r.x) / 2
    let cap := s.capturing (s.cell key)
    let s := s.modCell key fun c => { c with
      crc := crc32From c.crc (tap.flatMap (leBytes 2)), seen := c.seen + 1
      sums := if cap then (List.range 3).foldl (fun t k => Tab.put 0 (3 * col + k) (Tab.get 0 (3 * col + k) t + wd tap k) t) c.sums
              else c.sums }
    let s := if cap && u % 2 = 1 && v % 2 = 1 then
        captureCell key (((s.placement i).x + u) / 2) (((s.placement i).y + v) / 2) col s else s
    if (s.cell key).seen = r.w * r.h then resComplete key s else s

/-- A cell begins a frame window: nothing of it has been seen. -/
def ResCell.newWindow (c : ResCell) : ResCell :=
  { c with crc := 0xFFFFFFFF, seen := 0, sums := [], err := 0, bad := false, fresh := true, entry := false }

/-! ### Line buffers (R123, R31, R320) -/

/-- The memory class of a pipe's scan fetches (R31, R123, R320). -/
def Pipe.fetchClass (q : Pipe) : Nat := if q.sweep.isSome || q.urgent then 1 else 2

/-- The scan fetches of pipe i that wait take the class of its fetches now (R123, R320). -/
def reclass (i : Nat) (s : State) : State :=
  { s with memc.waiting := s.memc.waiting.map fun r =>
      if r.group == pipeSpan i && r.who == i && (r.cls == 1 || r.cls == 2) then { r with cls := (s.pipe i).fetchClass } else r }

/-- URGENT, and with it the class of the pipe's scan fetches, follows the watermark (R123). -/
def updateUrgent (i : Nat) (s : State) : State :=
  let wm := s.f (.spanLbCfg (pipeSpan i)) 7 0
  reclass i (s.modPipe i fun q =>
    { q with urgent := if q.fill < wm then true else if wm + 8 ≤ q.fill then false else q.urgent })

/-- A write of WM_LOW takes effect at once on every pipe of the span (R123). -/
def watermarkWrite (sp : Nat) (s : State) : State :=
  forEach (List.range 5) (fun j st => updateUrgent (if j < 4 then 4 * sp + j else 32 + sp) st) s

/-- LINE_BUFFER_FETCH: `kib` KiB of fetched data arrive in a pipe's scan portion or reserved lane, the memory's checks
say what they found, and the pipe asks for more while the portion has room (R123, R31, R396, R397). -/
def lineBufferFetch (i kib : Nat) (lane : Bool) (c : Check) (s : State) : State :=
  if !(s.span (pipeSpan i)).running || s.pipeBad i then s
  else
    let s := applyCheck i c s
    if lane then
      let s := s.modPipe i fun q => { q with lane := min 16 (q.lane + kib) }
      if (s.pipe i).sweep.isSome && (s.pipe i).lane < 16 then memRequestAll 0 (pipeSpan i) i s else s
    else
      let s := updateUrgent i (s.modPipe i fun q => { q with fill := min 176 (q.fill + kib) })
      if (s.pipe i).fill < 176 then memRequestAll (s.pipe i).fetchClass (pipeSpan i) i s else s

/-- The pixel pair's data leave the buffer: how many whole KiB that is, the spec does not say. -/
def drainBuffer (i : Nat) (s : State) : State :=
  if (s.pipe i).fill = 0 then updateUrgent i s
  else updateUrgent i
    ((s.modPipe i fun q => { q with fill := q.fill - Config.freeValue s.free % (q.fill + 1) }).tickFree)

/-! ### A pipe's step (R127, R287) -/

/-- Insert a segment by the raster x of its tile. -/
def insertByX (s : State) (t : Nat × Nat) : List (Nat × Nat) → List (Nat × Nat)
  | [] => [t]
  | a :: l => if (s.placement t.1).x ≤ (s.placement a.1).x then t :: a :: l else a :: insertByX s t l

/-- The segments of port p's share of a frame, in the order of R287; tiles out of reach are skipped, and a part whose
enumeration has not ended has none (R305, R306). -/
def State.segments (s : State) (p : Nat) : List (Nat × Nat) :=
  let tiles := if (s.port p).serves then (s.fedTiles p).filter s.reachable else []
  (List.range s.geom.height).flatMap fun y =>
    (tiles.filter fun i => decide ((s.rectOf i).y ≤ y ∧ y < (s.rectOf i).y + (s.rectOf i).h)).foldr
      (fun i l => insertByX s (i, y - (s.rectOf i).y) l) []

/-- What the open block of a context, with one more pixel pair of the deepest tile, may add to BACKLOG (R248). -/
def openBits (c : Codec) : Nat := (match c.open_ with | some b => b.raw | none => 0) + 84

/-- The output buffer of a context has no room for the block that is being filled: the pipe stalls (R248). -/
def State.pipeStalled (s : State) (i : Nat) : Bool :=
  match s.portOf i with
  | some p => decide (262144 < backlogBits s p + openBits (s.codec i))
  | none => true

/-- Pixel (u, v) of tile i needs layer or gain-map data: a layer covers it, or the gain stage is on (R123). -/
def State.needsData (s : State) (ld : Load) (i u v : Nat) : Bool :=
  bit ld.emitCtl 0 || (List.range 64).any fun n => s.layerCovers n ((s.placement i).x + u) ((s.placement i).y + v)

/-- The line buffer of pipe i is empty and its next pixel pair needs data of it: the pipe stalls (R123)
(DESIGN CHOICE, log 97). -/
def State.starved (s : State) (i tile v : Nat) (ld : Load) : Bool :=
  let q := s.pipe i
  q.fill == 0 && ((s.viewOf i).needsData ld tile q.col v || (s.viewOf i).needsData ld tile (q.col + 1) v)

/-- Pipe i stands at a segment boundary with an alert change before it: the next thing it does is its alert point (R318). -/
def State.atAlertPoint (s : State) (i : Nat) : Bool :=
  let q := s.pipe i
  q.waiting.isSome && q.opened && q.col == 0 && !(s.codec i).skip

/-- One pixel of the head segment of pipe i (DEDUCED, log 45). -/
def stepPixel (i tile v u : Nat) (ld : Load) (s : State) : List Nat × State :=
  let q := s.pipe i
  let px := pixelOf (s.viewOf i) ld tile u v q.frame q.alert
  let s := if px.exceeded && !q.exceeded then detectNote 8 0 (s.modPipe i fun q => { q with exceeded := true }) else s
  let s := if px.range then emitRange i s else s
  if q.skipping then ([], s)
  else (px.codes, pushPixel i tile v u px.codes (resTap tile u v px.tap s))

/-- PIXEL_PROCESS: the pipe processes its next pixel pair (R127). -/
def pixelProcess (i : Nat) (check : Check) (s : State) : State :=
  if !(s.span (pipeSpan i)).running || s.pipeBad i then s
  else
    let s := applyCheck i check s
    let q := s.pipe i
    match q.todo, q.load with
    | (tile, v) :: rest, some ld =>
      if s.pipeStalled i || q.sweep.isSome || s.atAlertPoint i || s.starved i tile v ld then s
      else
        let s := if q.col = 0 then aniseRow i tile v s else s
        let (a, s) := stepPixel i tile v q.col ld s
        let (b, s) := stepPixel i tile v (q.col + 1) ld s
        let s := if q.skipping then s
          else s.emit (.pixels i ((s.placement tile).x + q.col) ((s.placement tile).y + v) (a ++ b))
        let last := decide ((s.familyOf tile).tileW ≤ q.col + 2)
        drainBuffer i (s.modPipe i fun q => { q with col := if last then 0 else q.col + 2, todo := if last then rest else q.todo })
    | _, _ => s

end Sys2Proof.Machine
end

