-- ==== Sys2Proof/Machine/Age.lean ====
section
/-!
DEFINITION. Ageing accounts and spare emitters (R150 to R175): CLEAR, efficiency and the ageing knots, Cardamom,
checkpoints and restores, and the Hold accrual pass.
-/

namespace Sys2Proof.Machine

/-! ### Records and CLEAR (R152, R164) -/

/-- Write a tile's Cardamom record in device memory and in the span SRAM copy (R18, R164). -/
def setCard (i v : Nat) (s : State) : State :=
  { putIn (s.geom.tileBase + 32 * i + 16) 8 v s with age.cards := Tab.put 0 i v s.age.cards }

/-- Write 0 to every counter of a colour of a tile, or of all three. -/
def zeroCounters (i : Nat) (cs : List Nat) (s : State) : State :=
  let r := s.rectOf i
  forEach (List.range r.h) (fun v st => forEach (List.range r.w) (fun u st =>
    forEach cs (fun c st => putIn (st.stressAddr (r.x + u) (r.y + v) c) 4 0 st) st) st) s

/-- AGE_CLEAR: a write of 1 to AGE_CTL.CLEAR takes effect (R152). -/
def ageClear (s : State) : State := { s with age.clearing := true }

/-- AGE_CLEAR_END: every counter under a tile and every Cardamom record is 0, and the map is ready (R152). -/
def ageClearEnd (s : State) : State :=
  if !s.age.clearing then s
  else
    let s := forEach s.allTiles (fun i st => setCard i 0 (zeroCounters i [0, 1, 2] st)) s
    { s with age.clearing := false, age.mapReady := true, age.a0 := [] }

/-! ### Efficiency and targets (R158 to R160) -/

/-- DEGRADE_CURVE_BASE of a tile's family, read in place. -/
def State.degrade (s : State) (i : Nat) : Nat := s.lez (s.geom.familyBase + (s.placement i).family * 128 + 0x20) 8

/-- S[k] of degradation curve n. -/
def degradeS (s : State) (base n k : Nat) : Nat := s.lez (base + 256 * n + 8 * k) 4
/-- E[k] of degradation curve n. -/
def degradeE (s : State) (base n k : Nat) : Nat := s.lez (base + 256 * n + 8 * k + 4) 2

/-- The efficiency at a stress (R159). -/
def efficiency (s : State) (base n x : Nat) : Nat :=
  let top := (List.range 31).foldl (fun m k =>
    if m = k && decide (degradeS s base n k < degradeS s base n (k + 1)) then k + 1 else m) 0
  let e : Int :=
    if x ≤ degradeS s base n 0 then degradeE s base n 0
    else if degradeS s base n top ≤ x then degradeE s base n top
    else
      let k := (List.range top).foldl (fun b j => if degradeS s base n j ≤ x then j else b) 0
      degradeE s base n k + divRoundI (((degradeE s base n (k + 1) : Int) - degradeE s base n k) * (x - degradeS s base n k : Nat))
        (degradeS s base n (k + 1) - degradeS s base n k)
  (max 1 e).toNat

/-- SPARE_A of a subpixel; values below 0x4000 count as 0x4000 (R158). -/
def spareA (s : State) (base c : Nat) : Nat := max 0x4000 (s.lez (base + 0x600 + 2 * c) 2)

/-- AGE_REF.REF and MAX_GAIN. -/
def State.ageRef (s : State) : Nat × Nat := (s.f .ageRef 15 0, s.f .ageRef 31 16)

/-- The target of an efficiency with a scale (R160 step 3). -/
def targetGain (s : State) (scale e : Nat) : Nat := min s.ageRef.2 ((s.ageRef.1 * scale + e / 2) / e)

/-- A0 of a subpixel: the target of state 2 at e = 65,535 (R165). -/
def spareGain (s : State) (i c : Nat) : Nat := targetGain s (spareA s (s.degrade i) c) 65535

/-- The mean of the counters of block (a, b) of a tile (R160 step 2). -/
def blockMean (s : State) (i c a b : Nat) : Nat :=
  let r := s.rectOf i
  ((List.range 256).foldl (fun sum k => sum + s.lez (s.stressAddr (r.x + 16 * a + k % 16) (r.y + 16 * b + k / 16) c) 4) 0 + 128) / 256

/-- The largest counter of a colour of a tile (R160 step 5). -/
def largestCounter (s : State) (i c : Nat) : Nat :=
  let r := s.rectOf i
  (List.range (r.w * r.h)).foldl (fun m k => max m (s.lez (s.stressAddr (r.x + k % r.w) (r.y + k / r.w) c) 4)) 0

/-- The address of a target knot (R160 step 4). -/
def targetAddr (s : State) (i c a b : Nat) : Nat :=
  s.pair .ageTargetBaseLo .ageTargetBaseHi + i * 0x2000 + ((c * (s.knotDims i).2 + b) * (s.knotDims i).1 + a) * 2

/-- Every knot of a tile, as column and row. -/
def State.knots (s : State) (i : Nat) : List (Nat × Nat) :=
  (List.range (s.knotDims i).2).flatMap fun b => (List.range (s.knotDims i).1).map fun a => (a, b)

/-- A read of the counters of a tile reaches beyond the usable capacity (R175). -/
def State.countersPast (s : State) (i : Nat) : Bool :=
  let r := s.rectOf i
  decide (s.capacity < s.stressAddr (r.x + r.w - 1) (r.y + r.h - 1) 2 + 4)

/-- A read of the target knots of a tile reaches beyond the usable capacity (R175). -/
def State.targetsPast (s : State) (i : Nat) : Bool :=
  decide (s.capacity < targetAddr s i 2 ((s.knotDims i).1 - 1) ((s.knotDims i).2 - 1) + 2)

/-- A read of an AGE table of a tile reaches beyond the usable capacity (R175). -/
def State.agePast (s : State) (i : Nat) : Bool :=
  s.countersPast i || decide (s.capacity < s.degrade i + 0x640)

/-- The targets of a colour of a tile (R160); `seed`: the applied knots take them at once (R162). -/
def knotColour (seed : Bool) (i c : Nat) (s : State) : State :=
  let base := s.degrade i
  let spare := cardState (s.card i) c == 2
  let t := s
  forEach (s.knots i) (fun k st =>
    let m := blockMean t i c (min k.1 ((t.knotDims i).1 - 2)) (min k.2 ((t.knotDims i).2 - 2))
    let g := targetGain t (if spare then spareA t base c else 32768) (efficiency t base (if spare then 3 + c else c) m)
    let st := putIn (targetAddr t i c k.1 k.2) 2 g st
    if seed then putIn (t.knotAddr t.knotBase 0x2000 i c k.1 k.2) 2 g st else st) s

/-! ### Cardamom (R163 to R167) -/

/-- Every applied and target knot of a colour of a tile takes a value (R166). -/
def fillKnots (i c g : Nat) (s : State) : State :=
  let t := s
  forEach (s.knots i) (fun k st =>
    putIn (t.knotAddr t.knotBase 0x2000 i c k.1 k.2) 2 g (putIn (targetAddr t i c k.1 k.2) 2 g st)) s

/-- An EMITTER event of the port engine that serves a tile (R174). -/
def emitterEvent (i kind c word2 : Nat) (s : State) : State :=
  let p := s.tileFeeder i
  raiseEvent (0x2000 + s.dutyEngine (p / 4) (p % 4)) 5 [kind, i / 128 + at_ (i % 128 + 1) 8 + at_ c 16, word2, 0] s

/-- The step of R166 on a colour of a tile: knots at A0, counters 0, state 2. -/
def becomeSpare (i c : Nat) (s : State) : State :=
  let g := Tab.get (spareGain s i c) (4 * i + c) s.age.a0
  let s := zeroCounters i [c] (fillKnots i c g s)
  let s := setCard i (withFld (s.card i) (2 * c + 1) (2 * c) 2) s
  { s with age.a0 := Tab.put 0 (4 * i + c) 0 s.age.a0 }

/-- A fade ends: in frame N0 + 63 the colour becomes spare-driven for good, with an EMITTER event of kind 2 (R166,
R167). -/
def fadeEnd (i c : Nat) (s : State) : State := emitterEvent i 2 c (cardStart (s.card i)) (becomeSpare i c s)

/-- The fades that have reached frame N0 + 63 by frame `n` end as its window closes, where the tile's port engine, which makes
the writes, executes; where it does not, the selection of k = 64 goes on (R166). -/
def endFades (n : Nat) (s : State) : State :=
  forEach s.allTiles (fun i st => forEach (List.range 3) (fun c st =>
    if cardState (st.card i) c = 1 && fadeStep (st.card i) n = 64 && st.portEngineOn (st.tileFeeder i) then fadeEnd i c st
    else st) st) s

/-- A tile has a colour that fades. -/
def State.fading (s : State) (i : Nat) : Bool := (List.range 3).any fun c => cardState (s.card i) c == 1

/-- Engagement of colour c of a tile begins (R165, R167) (DEDUCED, log 46). -/
def engageColour (i c : Nat) (s : State) : State :=
  let n0 := (s.scan.frame + 2) % 2 ^ 32
  let card := withFld (withFld (s.card i) (2 * c + 1) (2 * c) 1) 47 16 n0
  let r := s.rectOf i
  let s := setCard i card { s with age.a0 := Tab.put 0 (4 * i + c) (spareGain s i c) s.age.a0 }
  logWrite 1 [r.x + at_ r.y 16, r.w + at_ r.h 16, c, n0] (spareSelect i c 0 n0 s)
    |> emitterEvent i 1 c n0

/-- Cardamom looks at a tile after a knot pass (R163). -/
def cardamom (i : Nat) (s : State) : State :=
  if !s.b .ageCtl 2 || !(s.familyOf i).spareEmitter then s
  else forEach (List.range 3) (fun c st =>
    if cardState (st.card i) c = 0 && !st.fading i &&
        decide (efficiency st (st.degrade i) c (largestCounter st i c) < (st.familyOf i).spareThreshold) then
      engageColour i c st else st) s

/-- Engagement entries whose log write failed are tried again (R167). -/
def retryUnlogged (s : State) : State :=
  forEach s.age.unlogged (fun e st => nvsRequest (.append 1 (e.headD 0) (e.drop 1)) st) { s with age.unlogged := [] }

/-- An engagement entry waits to be logged: AGE_STATUS.LOG_PENDING (R167, R369). -/
def State.logPending (s : State) : Bool :=
  let engagement := fun (o : NvsOp) => match o with | .append 1 _ _ => true | _ => false
  !s.age.unlogged.isEmpty || (s.nvs.queue ++ s.nvs.heldAppends ++ s.nvs.current.toList).any engagement

/-! ### Knot passes (R160 to R162) -/

/-- AGE_CTL.KNOTS. -/
def State.knotsOn (s : State) : Bool := s.b .ageCtl 1

/-- The knot pass of port p's chain, its counters read in class 4 and its other accesses made in class 3; with `seed` the
applied knots step to their targets (R31, R160, R162, R163). -/
def knotChain (seed : Bool) (p : Nat) (s : State) : State :=
  let tiles := s.fedTiles p
  let e := s.dutyEngine (p / 4) (p % 4)
  let s := memRequestAll 3 (p / 4) (engineWho e) (memRequestAll 4 (p / 4) (engineWho e) s)
  let s := forEach tiles (fun i st =>
    forEach ((List.range 3).filter fun c => cardState (st.card i) c != 1) (fun c st => knotColour seed i c st) st) s
  let s := if tiles.any s.agePast then detectNote 10 5 s else s
  forEach tiles cardamom (retryUnlogged s)

/-- KNOT_PASS of port p (R160). -/
def knotPass (p : Nat) (s : State) : State :=
  if s.knotsOn && s.scan.state == .running && s.portEngineOn p then knotChain false p s else s

/-- A seed pass starts, after a restore or on a write of KNOTS (R162). -/
def seedStart (restore : Bool) (s : State) : State :=
  { s with age.seeding := true, age.seedRestore := restore, age.seeded := false }

/-- SEED_PASS_END: every port's seed pass has ended (R162) (DEDUCED, log 47). -/
def seedPassEnd (s : State) : State :=
  if s.age.seeding && s.knotsOn then
    { forEach (List.range 32) (knotChain true) s with age.seeding := false, age.seedRestore := false, age.seeded := true }
  else s

/-- One bounded step of an applied knot towards its target (R161). -/
def stepKnot (a t : Nat) : Nat :=
  let step := max 1 (a / 1024)
  if a < t then min t (a + step) else if t < a then max t (a - step) else a

/-- KNOT_STEP of port p: each applied knot of its chain moves one step, once in a frame window; in Trim only in the
windows of frames that its pipe sends (R161, R334). -/
def knotStep (p : Nat) (s : State) : State :=
  let trimmed := s.power.state == .trim && (s.pipe (s.pipeOf p)).skipping
  if !s.knotsOn || s.age.seeding || s.scan.state != .running || !s.scan.windowOpen || trimmed || !s.portEngineOn p ||
      Tab.get 0 p s.age.stepped == s.scan.frame + 1 then s
  else
    let t := s
    let s := if (s.fedTiles p).any s.targetsPast then detectNote 10 5 s else s
    let s := memRequestAll 3 (p / 4) (engineWho (s.dutyEngine (p / 4) (p % 4))) s
    let s := forEach (s.fedTiles p) (fun i st =>
      forEach (List.range 3) (fun c st =>
        forEach (t.knots i) (fun k st =>
          let a := t.knotAddr t.knotBase 0x2000 i c k.1 k.2
          putIn a 2 (stepKnot (t.lez a 2) (t.lez (targetAddr t i c k.1 k.2) 2)) st) st) st) s
    { s with age.stepped := Tab.put 0 p (s.scan.frame + 1) s.age.stepped }

/-- CHECKPOINT_DUE: CKPT_INTERVAL seconds have passed (R168). -/
def checkpointDue (s : State) : State :=
  if s.anise && s.f .agePeriods 31 16 ≠ 0 then raiseEvent 10 5 [4, 0, 0, s.age.epoch] s else s

/-! ### The Hold accrual pass (R157) -/

/-- HOLD_ACCRUAL_PASS of the wake sequence: one increment to every counter for the held frame, or HOLD_GAP (R157)
(DEDUCED, log 48). -/
def holdAccrual (s : State) : State :=
  match s.power.move with
  | .wake 1 =>
    let s := { s with power.move := .wake 3 }
    if !s.anise || s.scan.state != .held then s
    else if s.age.heldGap then raiseEvent 10 5 [5, 0, 0, 0] (detectNote 10 2 s)
    else
      let weight := (s.timeNow - s.age.heldFrom) / (s.framePeriod * 10)
      forEach (List.range 32) (fun p st =>
        let i := st.pipeOf p
        match (st.pipe i).load with
        | none => st
        | some ld =>
          let st := st.modPipe i fun q => { q with ranged := false, ageRanged := false }
          let tiles := st.fedTiles p
          let past := tiles.any fun t => (List.range ((st.rectOf t).w * (st.rectOf t).h)).any fun k =>
            (pixelOf (st.viewOf i) ld t (k % (st.rectOf t).w) (k / (st.rectOf t).w) (st.pipe i).frame (st.pipe i).alert).range
          let st := if past then emitRange i st else st
          forEach tiles (fun t st => forEach (List.range (st.rectOf t).h) (fun v st =>
            sampleRow i ld t v weight st.framePeriod (st.scan.frame + 1) st.age.n true st) st) st) s
  | _ => s

/-! ### Checkpoints (R169 to R171) -/

/-- The rows of a tile's counters, each flat in pixels of three components (R169). -/
def counterRows (s : State) (i : Nat) : List (List Nat) :=
  let r := s.rectOf i
  (List.range r.h).map fun v => (List.range r.w).flatMap fun u =>
    (List.range 3).map fun c => s.lez (s.stressAddr (r.x + u) (r.y + v) c) 4

/-- The section of a tile: header, coded data, padding (R169). -/
def tileSection (s : State) (i : Nat) : List Nat :=
  let r := s.rectOf i
  let data := bytesOfBits (streamRows r.w 0 [] (counterRows s i))
  leBytes 2 r.x ++ leBytes 2 r.y ++ leBytes 2 r.w ++ leBytes 2 r.h ++ [i / 128, i % 128 + 1, 0, 0] ++ leBytes 4 data.length ++
    leBytes 8 (s.card i) ++ leBytes 4 (crc32 data) ++ [0, 0, 0, 0] ++ data ++ List.replicate ((4 - data.length % 4) % 4) 0

/-- A whole checkpoint; `time`: TIME at its start (R169). -/
def checkpointBytes (s : State) (time : Nat) : List Nat :=
  let body := s.allTiles.flatMap (tileSection s)
  let head := leBytes 4 0x4B435341 ++ leBytes 4 1 ++ leBytes 4 (s.age.epoch + 1) ++ leBytes 4 s.allTiles.length ++ leBytes 8 time ++
    leBytes 2 s.geom.width ++ leBytes 2 s.geom.height ++ leBytes 4 (64 + body.length)
  head ++ leBytes 4 (crc32 head) ++ List.replicate 28 0 ++ body

/-- STRESS_CHECKPOINT starts (R171): TIME then is kept for its header. -/
def runCheckpoint (j : Job) (s : State) : State :=
  memRequestAll 3 (j.engine / 9) (engineWho j.engine) (s.setJob { j with stage := .running, aux := s.time.count })

/-- STRESS_CHECKPOINT_END (R169, R171); `error`: a host write completed in error; `check`: what the checks of device memory
found, an uncorrectable word ending the command with MEDIA (R77, R397; its DETAIL, for which no code is given, is a free
value). Every row is read here, after whatever of its frame Anise has sampled (DESIGN CHOICE, log 98). -/
def checkpointEnd (n slot : Nat) (error : Bool) (check : Check) (s : State) : State :=
  match s.jobOf 8 n slot with
  | none => s
  | some j =>
    let s := memoryCheck check s
    if error then finishJob j 7 0x02000000 s
    else if Check.uncorrectable check then readFailed j s
    else
      let s := if s.allTiles.any s.countersPast then detectNote 10 5 s else s
      let b := checkpointBytes s j.aux
      let s := s.emit (.hostWrite (wd64 j.desc 2) b)
      finishJob j 0 b.length { s with age.epoch := (s.age.epoch + 1) % 2 ^ 32 }

/-! ### Restores (R172) -/

/-- Bytes of a buffer as a number, 0 past its end. -/
def bufLe (b : List Nat) (o n : Nat) : Nat := leVal ((b.drop o).take n)

/-- The header conditions of R172. -/
def restoreHeaderOk (s : State) (size : Nat) (b : List Nat) : Bool :=
  64 ≤ b.length && bufLe b 0 4 == 0x4B435341 && bufLe b 4 2 == 1 && bufLe b 0x20 4 == crc32 (b.take 32) &&
    bufLe b 0x18 4 == s.rd .scanWallSize && decide (bufLe b 0x1C 4 ≤ size)

/-- The tile of the accepted geometry with a given rectangle (R172 step 1). -/
def State.tileOf (s : State) (x y w h : Nat) : Option Nat := s.allTiles.find? fun i => decide (s.rectOf i = ⟨x, y, w, h⟩)

/-- Write the counters of a tile. -/
def putCounters (i : Nat) (rows : List (List Nat)) (s : State) : State :=
  let r := s.rectOf i
  forEach rows.zipIdx (fun row st => forEach row.1.zipIdx (fun x st =>
    putIn (st.stressAddr (r.x + x.2 / 3) (r.y + row.2) (x.2 % 3)) 4 x.1 st) st) s

/-- A section is applied: counters and record, with every state 1 made 2 (R172 step 3). -/
def applySection (i card : Nat) (rows : List (List Nat)) (s : State) : State :=
  let s := setCard i card (putCounters i rows s)
  forEach ((List.range 3).filter fun c => cardState card c == 1) (becomeSpare i) s

/-- The sections from offset o on, n of them: how many were skipped. -/
def restoreSections (b : List Nat) (total : Nat) : Nat → Nat → Nat → State → Nat × State
  | 0, _, skipped, s => (skipped, s)
  | n + 1, o, skipped, s =>
    let coded := bufLe b (o + 0x0C) 4
    let next := o + 32 + (coded + 3) / 4 * 4
    if total < o + 32 then restoreSections b total n next (skipped + 1) s
    else
      match s.tileOf (bufLe b o 2) (bufLe b (o + 2) 2) (bufLe b (o + 4) 2) (bufLe b (o + 6) 2) with
      | none => restoreSections b total n next skipped s
      | some i =>
        let data := (b.drop (o + 32)).take coded
        let r := s.rectOf i
        match (if data.length = coded && bufLe b (o + 0x18) 4 = crc32 data then
            decodeRows r.w r.h 0 [] (bitsOfBytes data) else none) with
        | none => restoreSections b total n next (skipped + 1) s
        | some rows => restoreSections b total n next skipped (applySection i (bufLe b (o + 0x10) 8) rows s)

/-- What a restore keeps for its end: the bytes read, EPOCH of its header, and the sections skipped. -/
def restoreAux (total epoch skipped : Nat) : Nat := total + at_ epoch 32 + at_ skipped 64

/-- STRESS_RESTORE starts with the buffer's bytes; none: a host read of it completed in error, with nothing restored. A buffer
of no bytes is OK at once (R75); FORMAT, after which no seed pass runs (DEDUCED, log 99); or the tile sections are restored
(R172 steps 1 to 3) (DEDUCED, log 49). -/
def runRestore (file : Option (List Nat)) (j : Job) (s : State) : State :=
  let size := wd j.desc 4
  if size = 0 then finishJob j 0 0 s
  else
    match file with
    | none => readFailed j (s.emit (.hostRead (wd64 j.desc 2) (min size 64)))
    | some file =>
      let b := file.take size
      let s := s.emit (.hostRead (wd64 j.desc 2) (min size 64))
      if !restoreHeaderOk s size b then finishJob j 4 0 s
      else
        let total := bufLe b 0x1C 4
        let s := s.emit (.hostRead (wd64 j.desc 2 + 64) (total - 64))
        let s := memRequestAll 3 (j.engine / 9) (engineWho j.engine) s
        let (skipped, s) := restoreSections (b.take total) total (bufLe b 0x0C 4) 64 0 s
        s.setJob { j with stage := .running, aux := restoreAux total (bufLe b 8 4) skipped }

/-- The engagement entries of the log partition: rectangle, colour and N0 (R368, R172). -/
def logEngagements (s : State) : List (Rect × Nat × Nat) :=
  (List.range 40).flatMap fun k => (List.range 64).filterMap fun e =>
    let at' := fun o => s.pageLe 2 (24 + k) (32 * e + o) 4
    if (s.readPage 2 (24 + k)).isSome && at' 4 ≠ 0 && at' 0 % 256 = 1 then
      some (⟨fld (at' 0x10) 15 0, fld (at' 0x10) 31 16, fld (at' 0x14) 15 0, fld (at' 0x14) 31 16⟩, fld (at' 0x18) 1 0, at' 0x1C)
    else none

/-- A logged engagement of a colour that the record shows in state 0 is applied as state 2 (R172). -/
def mergeEngagement (e : Rect × Nat × Nat) (s : State) : State :=
  match s.tileOf e.1.x e.1.y e.1.w e.1.h with
  | none => s
  | some i =>
    if 3 ≤ e.2.1 || cardState (s.card i) e.2.1 ≠ 0 then s
    else detectNote 10 4 (becomeSpare i e.2.1 (setCard i (withFld (s.card i) 47 16 e.2.2) s))

/-- SPARE_SELECT with k = 64 for every colour in state 2 (R172). -/
def restoreSelects (s : State) : State :=
  forEach s.configuredTiles (fun i st =>
    forEach ((List.range 3).filter fun c => cardState (st.card i) c == 2)
      (fun c st => spareSelect i c 1 (cardStart (st.card i)) st) st) s

/-- STRESS_RESTORE_END (R172): the log is merged, the epoch compared, and the command completes; a seed pass follows
while KNOTS is 1 (R162). -/
def restoreEnd (n slot : Nat) (s : State) : State :=
  match s.jobOf 9 n slot with
  | none => s
  | some j =>
    let s := forEach (logEngagements s) mergeEngagement s
    let s := if fld j.aux 63 32 ≠ s.age.epoch then detectNote 10 3 s else s
    let s := restoreSelects { s with age.mapReady := true }
    let s := if s.knotsOn then seedStart true s else s
    let skipped := j.aux / 2 ^ 64
    if skipped = 0 then finishJob j 0 (fld j.aux 31 0) s else finishJob j 7 (Nat.lor 0x01000000 skipped) s

end Sys2Proof.Machine
end

