-- ==== Sys2Proof/Machine/Alerts.lean ====
section
/-!
DEFINITION. Saffron alerts (R310 to R323, R461): the sequencer, the alert point of a pipe, its sweep as ALR packets,
the lanes that the sweep uses, and the end of a command.
-/

namespace Sys2Proof.Machine

/-! ### Health (R310) -/

/-- CODEC_STATUS.MODE of the context that serves port p (R248). -/
def State.codecMode (s : State) (p : Nat) : Nat :=
  if (s.codec (s.pipeOf p)).skip then 3 else if (s.port p).degraded then 2 else if (s.port p).idle ≠ 0 then 1 else 0

/-- Port p feeds tiles of a healthy chain (R310). -/
def State.healthy (s : State) (p : Nat) : Bool :=
  let q := s.port p
  q.role == 1 && q.state == 2 && !q.split && q.retired % 8 == 0 && !q.clove && decide (s.codecMode p ≤ 1) &&
    (s.chainTiles p).all fun i => (s.hop p (i % 128 + 1)).present && (s.hop p (i % 128 + 1)).configured

/-- The pipes that serve tiles: each with its port. -/
def State.servingPipes (s : State) : List (Nat × Nat) :=
  ((List.range 32).filter fun p => !(s.fedTiles p).isEmpty).map fun p => (s.pipeOf p, p)

/-! ### Runs of a row (R319) -/

/-- The window of an alert. -/
def AlertSurf.rect (a : AlertSurf) : Rect := { x := a.x, y := a.y, w := a.surf.w, h := a.surf.h }

/-- Insert a run [a, b) into ascending runs, joining those that touch or overlap. -/
def insertRun (a b : Nat) : List (Nat × Nat) → List (Nat × Nat)
  | [] => [(a, b)]
  | (c, d) :: l =>
    if b < c then (a, b) :: (c, d) :: l
    else if d < a then (c, d) :: insertRun a b l
    else insertRun (min a c) (max b d) l

/-- The runs of columns that a region covers in row v of a tile, each with an even first column and an even count. -/
def rowRuns (tile : Rect) (v : Nat) (region : List Rect) : List (Nat × Nat) :=
  let y := tile.y + v
  (region.filter fun r => decide (r.y ≤ y ∧ y < r.y + r.h ∧ r.x < tile.x + tile.w ∧ tile.x < r.x + r.w)).foldl
    (fun l r =>
      let a := r.x - tile.x
      let b := min tile.w (r.x + r.w - tile.x)
      insertRun (a - a % 2) (b + b % 2) l) []

/-- CMAX of a depth (R292). -/
def alrMax (depth : Nat) : Nat := 3968 / (3 * depth)

/-- A stretch of pixels that one ALR carries: tile, row, first column, count. -/
structure Stretch where
  tile : Nat
  v : Nat
  u : Nat
  n : Nat
  deriving DecidableEq, Repr

/-- A run [a, b) of row v cut into stretches of at most CMAX pixels. -/
def cutRun (tile v cmax : Nat) (run : Nat × Nat) : List Stretch :=
  let n := run.2 - run.1
  (List.range (divUp n cmax)).map fun k => { tile := tile, v := v, u := run.1 + k * cmax, n := min cmax (n - k * cmax) }

/-- The stretches of a sweep of port p, in the order of R287. -/
def State.stretches (s : State) (p : Nat) (region : List Rect) : List Stretch :=
  (s.segments p).flatMap fun t => (rowRuns (s.rectOf t.1) t.2 region).flatMap (cutRun t.1 t.2 (alrMax (s.tileDepth t.1)))

/-- The body of an ALR (R292). -/
def alrBody (frame : Nat) (last : Bool) (x : Stretch) (depth : Nat) (codes : List Nat) : List Nat :=
  [frame % 256, b2n last] ++ leBytes 2 x.u ++ leBytes 2 x.v ++ leBytes 2 x.n ++ bytesOfBits (codes.flatMap (bitsOfNat depth))

/-! ### Yielding and the lanes (R321, R322) -/

/-- The stripe rows that pipe i has not begun are missed (R156). -/
def missRest (i : Nat) (s : State) : State :=
  let q := s.pipe i
  let rest := if q.col = 0 then q.todo else q.todo.drop 1
  missRows i q.n q.frame rest s

/-- Pipe i yields the frame of its open window (R321). -/
def yieldFrame (i : Nat) (s : State) : State :=
  if (s.pipe i).yielded then s
  else
    let s := closeBlock i false (missRest i s)
    { s.modPipe i (fun q => { q with todo := [], col := 0, yielded := true, sentWhole := false, skipping := false }) with
        alert.yielded := (s.alert.yielded + 1) % 65536 }

/-- The lanes that a sweep uses: idle lanes wake, and DS comes in unless it is retired or in service (R322). -/
def sweepLanes (p : Nat) (s : State) : State :=
  let q := s.port p
  if q.role ≠ 1 || q.state ≠ 2 then s
  else
    let s := wakeLanes p s
    if bit q.inService 2 || bit q.retired 2 || q.dsSweep then s
    else
      let s := if s.b (.lanePrbsCtl p 2) 0 then
          lineAct p 2 7 (s.wr (.lanePrbsCtl p 2) (withBit (s.rd (.lanePrbsCtl p 2)) 0 false))
        else s
      sendSymbols p 2 (burst 64) ((s.modPort p fun q => { q with dsSweep := true }).modLane p 2 fun x => { x with state := 2 })

/-- DS leaves the sweep: 16 LEI, electrical idle, SPARE; the governor's count of FRAMES restarts (R322). -/
def releaseLanes (p : Nat) (s : State) : State :=
  let s := s.modCodec (s.pipeOf p) fun c => { c with history := [] }
  if (s.port p).dsSweep then
    lineAct p 2 2 (sendSymbols p 2 (List.replicate 16 symLei)
      ((s.modPort p fun q => { q with dsSweep := false }).modLane p 2 fun x => { x with state := 5 }))
  else s

/-! ### The end of a command (R323) -/

/-- A sweep runs, or a change waits for its alert point, in some pipe. -/
def State.sweeping (s : State) : Bool :=
  s.pipes.any fun q => q.2.sweep.isSome || q.2.waiting.isSome

/-- An alert point that is still to come keeps a command from completing: that of a pipe that serves a healthy chain or, with
no chain healthy, of any pipe that can still reach one (R323) (DEDUCED, log 43). -/
def State.pointsToCome (s : State) : Bool :=
  let healthy := s.servingPipes.any fun x => s.healthy x.2
  s.servingPipes.any fun x => (s.pipe x.1).waiting.isSome &&
    (if healthy then s.healthy x.2 else (s.port x.2).state == 2 && !s.pipeBad x.1)

/-- An ALERT command has completed OK, its doorbell accepted at `since`: CHANGES, and while RUNNING the latency in
microseconds, rounded to nearest (R324, R5). -/
def alertCounted (since : Nat) (s : State) : State :=
  { s with alert.changes := (s.alert.changes + 1) % 65536
           alert.latency := if s.scan.state = .running then min 0xFFFFFF ((s.time.count - since + 500) / 1000)
                            else s.alert.latency }

/-- The command that the sequencer carries completes when no alert point that it waits for is to come and every pipe that it
waits for has ended its sweep; surfaces of earlier alerts are let go when no sweep is left (R315, R323). -/
def alertDone (s : State) : State :=
  if s.alert.waiting then s
  else
    let s := if s.sweeping then s else { s with alert.old := [] }
    match s.alert.cmd with
    | none => s
    | some c =>
      if !s.alert.await.isEmpty || s.pointsToCome then s
      else
        let s := alertCounted c.since { s with alert.cmd := none }
        match s.jobAt c.ring c.slot with
        | some j => finishJob j 0 ((s.scan.frame + 1) % 2 ^ 32) s
        | none => s

/-- ALERT_SWEEP_END: the last ALR of a pipe's sweep is on the link (R319, R322, R323). -/
def alertSweepEnd (i : Nat) (s : State) : State :=
  match (s.pipe i).sweep, s.portOf i with
  | some _, some p =>
    if !(s.port p).txAlr.isEmpty then s
    else
      let s := reclass i (s.modPipe i fun q => { q with sweep := none, lane := 0 })
      alertDone (releaseLanes p { s with alert.await := s.alert.await.filter (· != i) })
  | _, _ => s

/-! ### The alert point and the sweep (R318 to R322, R461) -/

/-- What the pixels of a sweep find at the limits of R120 and R147, counted in the window whose values they use. -/
def sweepChecks (i : Nat) (px : List Pix) (s : State) : State :=
  let s := if px.any (·.exceeded) && !(s.pipe i).exceeded then
      detectNote 8 0 (s.modPipe i fun q => { q with exceeded := true }) else s
  if px.any (·.range) then emitRange i s else s

/-- Every ALR of a sweep is computed and handed to the port. -/
def sendSweep (i p : Nat) (ld : Load) (region : List Rect) (s : State) : State :=
  let t := s.viewOf i
  let n := (s.pipe i).frame
  let l := s.stretches p region
  forEach l.zipIdx (fun x st =>
    let px := (List.range x.1.n).map fun k => pixelOf t ld x.1.tile (x.1.u + k) x.1.v n s.alert.work
    let last := !(l.drop (x.2 + 1)).any fun y => y.tile == x.1.tile
    sendAlr p (x.1.tile % 128 + 1) (alrBody n last x.1 (s.tileDepth x.1.tile) (px.flatMap (·.codes))) (sweepChecks i px st)) s

/-- Pipe i, for port p, is at its alert point with a window open: it yields that window and sweeps the region
(DEDUCED, log 43). -/
def alertBegin (i p : Nat) (region : List Rect) (s : State) : State :=
  let healthy := s.healthy p
  let s := if s.scan.windowOpen then yieldFrame i s else closeBlock i false s
  let s := s.modPipe i fun q => { q with waiting := none, sweep := some region, alert := s.alert.work, lane := 0, dirty := true }
  let s := { s with alert.await := if healthy then s.alert.await ++ [i] else s.alert.await }
  -- alert-surface fetches in class 0, all others in class 1 (R320)
  let s := memRequestAll 1 (pipeSpan i) i (memRequestAll 0 (pipeSpan i) i (reclass i (sweepLanes p s)))
  let s := match (s.pipe i).load with
    | some ld => sendSweep i p ld region s
    | none => s
  if (s.port p).txAlr.isEmpty then alertSweepEnd i s else s

/-- ALERT_POINT: pipe i is at its first segment boundary after a change came to its span (R318). A pipe whose first
window is still to open, or whose port is in skip mode, waits for its next window (R461, R312) (DEDUCED, log 44). -/
def alertPoint (i : Nat) (s : State) : State :=
  match (s.pipe i).waiting, s.portOf i with
  | some region, some p =>
    if !s.atAlertPoint i || s.pipeBad i || !(s.span (pipeSpan i)).running then s
    else alertBegin i p region s
  | _, _ => s

/-! ### The sequencer (R316) -/

/-- Pipe i, for port p, ends its running sweep at the next pixel pair, what it had still to send is discarded, and it begins a
new one with a region (R316). -/
def sweepAgain (i p : Nat) (region : List Rect) (s : State) : State :=
  alertBegin i p region (s.modPort p fun r => { r with txAlr := [] })

/-- An access of pipe i found an uncorrectable word of a pipe's reserved lane, before which the state was s0: that pipe restarts
its running sweep (R396). -/
def laneRestart (i : Nat) (c : Check) (s0 s : State) : State :=
  match c with
  | .sramUe _ _ (.lineLane j) =>
    let x := if j.val < 4 then 4 * pipeSpan i + j.val else 32 + pipeSpan i
    match (s0.pipe x).sweep, (s.pipe x).sweep, s.portOf x with
    | some region, none, some p => sweepAgain x p region s
    | _, _, _ => s
  | _ => s

/-- A change with its region reaches every pipe: one that sweeps an earlier change sweeps again at once, with the union of the
regions; for any other the change waits for its alert point (R316). -/
def passChange (region : List Rect) (s : State) : State :=
  let s := { s with alert.await := [], alert.waiting := true }
  let s := forEach s.servingPipes (fun x st =>
    match (st.pipe x.1).sweep with
    | some old => sweepAgain x.1 x.2 (old ++ region) st
    | none => st.modPipe x.1 fun q => { q with waiting := some (q.waiting.getD [] ++ region) }) s
  alertDone { s with alert.waiting := false }

/-- The command that a new change replaces completes with ABORTED (R316). -/
def alertReplace (s : State) : State :=
  match s.alert.cmd with
  | none => s
  | some c =>
    let s := { s with alert.cmd := none }
    match s.jobAt c.ring c.slot with
    | some o => finishJob o 6 0 s
    | none => s

/-- An ALERT command reaches the sequencer with the alert to show, if any (R316). Where no sweep is made for it, a sweep of an
earlier change that still runs goes on, with its command and the surface it replaced (R315). -/
def alertChange (new : Option AlertSurf) (j : Job) (s : State) : State :=
  let next := (s.scan.frame + 1) % 2 ^ 32
  let since := match (s.ring j.ring).rung with | b :: _ => b.2 | [] => s.time.count
  if new.isNone && s.alert.work.isNone then finishJob j 0 next (alertCounted since s)
  else
    let region := (s.alert.work.toList ++ new.toList).map AlertSurf.rect
    let s := noteChange { s with alert.old := s.alert.old ++ s.alert.work.toList, alert.work := new }
    match s.scan.state with
    | .running => passChange region { alertReplace s with alert.cmd := some ⟨j.ring, j.slot, since⟩ }
    | .held => { alertReplace s with alert.cmd := some ⟨j.ring, j.slot, since⟩, alert.waiting := true }
    | _ => finishJob j 0 next (alertCounted since (if s.sweeping then s else { s with alert.old := [] }))

/-- ALERT_SHOW starts (R89, R316). -/
def runAlertShow (j : Job) (s : State) : State :=
  alertChange (some { surf := descSurface j.desc 2, alpha := fld (wd j.desc 2) 15 8, x := fld (wd j.desc 3) 15 0,
                      y := fld (wd j.desc 3) 31 16 }) j s

/-- ALERT_CLEAR starts (R89, R316). -/
def runAlertClear (j : Job) (s : State) : State := alertChange none j s

/-- STATE has become RUNNING after a wake: the change that was held goes to every span (R316, R313). -/
def alertResume (s : State) : State :=
  if s.alert.waiting && s.scan.state == .running then
    passChange ((s.alert.old ++ s.alert.work.toList).map AlertSurf.rect) s
  else s

/-- STATE has become STOPPED: pipes in which no window has opened have no sweep to make. -/
def alertStopped (s : State) : State :=
  alertDone (forEach (List.range 40) (fun i st =>
    if (st.pipe i).waiting.isSome && !(st.pipe i).opened then st.modPipe i fun q => { q with waiting := none } else st) s)

end Sys2Proof.Machine
end

