-- ==== Sys2Proof/Machine/Scan.lean ====
section
/-!
DEFINITION. Scan-out (R103 to R126): genlock, frame starts and latch points with everything that a latch point does
(commits, binds, retires, Fennel's frame, the governor and skip mode, Trim, idle frames), starts and stops, commits,
reloads, and the geometry check's start and end.
-/

namespace Sys2Proof.Machine

/-! ### Genlock (R106 to R109) -/

/-- Always-on cycles of 10 ns. -/
def State.cycles (s : State) : Nat := s.time.count / 10

/-- The lock range in cycles: ⌊NOMINAL / 2,000⌋ (R106). -/
def State.lockRange (s : State) : Nat := s.nominal / 2000

/-- SCAN_GENLOCK_OFFSET.OFFSET. -/
def State.genlockOffset (s : State) : Nat := s.f .scanGenlockOffset 22 0

/-- ACTIVE_LINES × LINE_PERIOD: cycles from a frame start to its latch instant (R103). -/
def State.activeCycles (s : State) : Nat := s.f .scanLineTiming 31 16 * s.f .scanLineTiming 15 0

/-- A GENLOCK event (R109). -/
def genlockEvent (kind : Nat) (s : State) : State :=
  raiseEvent 7 1 [kind, s.scan.period.getD 0, s.scan.frame % 2 ^ 32, 0] s

/-- A period that differs by more than 100 ppm from the one held at the last loss (R109). -/
def farPeriod (loss : Option Nat) (p : Nat) : Bool :=
  match loss with
  | none => false
  | some q => decide (q < (max p q - min p q) * 10000)

/-- Lock is gained with the fourth consecutive in-range period (R107, R108, R111). -/
def lockGained (s : State) : State :=
  let far := farPeriod s.scan.lossPeriod (s.scan.period.getD 0)
  let s := { s with scan.locked := true, scan.everLocked := true, scan.lockHeld := true,
                    scan.rephase := true, scan.rephaseWait := false, scan.outRange := 0 }
  let s := genlockEvent (if far then 3 else 1) s
  let s := if s.scan.state = .acquiring then { s with scan.state := .running, scan.next := .frameStart } else s
  if s.power.state = .hold then wakeIf 4 s else s

/-- One out-of-range period: a slip while locked, with frame starts from holdover until an edge places one, and the loss of
lock with the third in a row (R107). -/
def outOfRange (s : State) : State :=
  let s := { s with scan.inRange := 0 }
  if !s.scan.locked then s
  else
    let s := { s with scan.slips := (s.scan.slips + 1) % 256, scan.outRange := s.scan.outRange + 1,
                      scan.holdover := true }
    if s.scan.outRange < 3 then s
    else
      let s := { s with scan.locked := false, scan.holdover := true, scan.lossPeriod := s.scan.period,
                        scan.outRange := 0, scan.placed := none, scan.rephase := false, scan.rephaseWait := false }
      let s := detectNote 7 0 (genlockEvent 2 s)
      if s.power.state = .hold then wakeIf 3 s else s

/-- A window passes with no edge (R106): the measurement ends, and another window begins at its end. -/
def emptyWindow (to_ : Nat) (s : State) : State :=
  outOfRange { s with scan.reference := none, scan.windowFrom := to_ }

/-- The windows that have run out before the cycle `now` (DEDUCED, log 36). -/
def passWindows (now : Nat) : Nat → State → State
  | 0, s => s
  | n + 1, s =>
    let end_ := s.scan.windowFrom + s.nominal + s.lockRange
    if end_ < now then passWindows now n (emptyWindow end_ s) else s

/-- An accepted edge places the next frame start at the edge plus OFFSET, which ends holdover (R107); one that re-phases
does so only where the period is long enough, or where it is the first frame start after a return (R108, R113). -/
def placeStart (now : Nat) (s : State) : State :=
  let at' := now + s.genlockOffset
  let s := { s with scan.lastAccepted := some now }
  if !s.scan.locked then s
  else if s.scan.rephase && !s.scan.returning && (match s.scan.lastStart with
      | some t => decide (at' < t + s.activeCycles + 5000)
      | none => false) then { s with scan.placed := none }
  else { s with scan.placed := some at', scan.holdover := false }

/-- An active edge in cycle `now` (R106, R107). -/
def activeEdge (now : Nat) (s : State) : State :=
  let s := { passWindows now (now + 1 - s.scan.windowFrom) s with scan.lastEdge := some now }
  let s := if s.scan.returning && !s.scan.locked && s.scan.placed.isNone then
      { s with scan.placed := some (now + s.genlockOffset) }
    else s
  match s.scan.reference with
  | none => { s with scan.reference := some now, scan.windowFrom := now }
  | some r =>
    let d := now - r
    if d + s.lockRange < s.nominal then outOfRange s
    else
      let s := { s with scan.reference := some now, scan.windowFrom := now, scan.period := some d, scan.outRange := 0,
                        scan.measured := min d 0x7FFFFF, scan.inRange := min 4 (s.scan.inRange + 1) }
      placeStart now (if !s.scan.locked && decide (4 ≤ s.scan.inRange) then lockGained s else s)

/-- GENLOCK_EDGE after `dt` cycles: a rising or falling edge of GENLOCK_IN (R106, R341). -/
def genlockEdge (dt : Nat) (rising : Bool) (s : State) : State :=
  let s := advance dt s
  if rising == s.b .scanGenlockOffset 31 then s
  else if s.power.state = .keep ∧ !s.time.running then keepGenlockEdge s
  else if !s.time.running then s
  else activeEdge s.cycles s

/-- GENLOCK_WINDOW_EXPIRY after `dt` cycles: the running window ends with no edge (R106). -/
def genlockWindowExpiry (dt : Nat) (s : State) : State :=
  let s := advance dt s
  if s.time.running then emptyWindow s.cycles s else s

/-- The retained period of R113 and R345. -/
def State.retainedPeriod (s : State) : Nat := if s.scan.lockHeld then s.scan.period.getD s.nominal else s.nominal

/-- The end of the window of R106 counted from the last accepted edge. -/
def State.edgeWindowEnd (s : State) : Nat := (s.scan.lastAccepted.getD 0) + s.nominal + s.lockRange

/-- The cycle in which the next frame start falls, where it follows from what has come so far (R107, R108, R111, R113,
R345): at the placed edge, else in holdover; while locked not before the window of the last accepted edge has ended, but
for the one period that runs in holdover when a re-phasing edge is passed over (DEDUCED, log 93). -/
def State.frameDue (s : State) : Option Nat :=
  let waits := s.scan.locked && (!s.scan.rephase || s.scan.rephaseWait || s.scan.returning)
  match s.scan.placed, s.scan.lastStart with
  | some t, _ => some t
  | none, some l =>
    if s.scan.returning then some (if s.scan.locked then max l s.edgeWindowEnd else l + s.retainedPeriod)
    else if waits then some (max (l + s.framePeriod) s.edgeWindowEnd)
    else some (l + s.framePeriod)
  | none, none => if s.scan.locked then some s.edgeWindowEnd else none

/-! ### Groups and their application (R49, R125, R126) -/

/-- The registers of a commit group (R124, R119, R216). -/
def groupRegs : Group → List Reg
  | .scan => [.scanBackground, .scanCompCfg]
  | .layer => (List.range 64).flatMap fun n =>
      [.layerCtl n, .layerWinPos n, .layerWinSize n, .layerCropPos n, .layerCropSize n]
  | .res => .resDefault :: (List.range 16).flatMap fun n => [.resRegionPos n, .resRegionSize n, .resRegionCtl n]

/-- The commit register of a group. -/
def commitReg : Group → Reg
  | .scan => .scanCommit
  | .layer => .layerCommit
  | .res => .resCommit

/-- The shadows of a group become its working values, and its commit bit clears. -/
def applyGroup (g : Group) (s : State) : State :=
  forEach (groupRegs g) (fun r st => State.setWk r (st.rd r) st) s |>.wr (commitReg g) 0

/-- Has a group's commit reached the frame timing generator? -/
def State.committed (s : State) : Group → Bool
  | .scan => s.scan.commitScan
  | .layer => s.scan.commitLayer
  | .res => s.scan.commitRes

/-- Steps 1 and 2 of R125: the completed commits apply, in the order scan-out, layer, residency. True: one applied. -/
def applyCommits (s : State) : Bool × State :=
  let any := s.committed .scan || s.committed .layer || s.committed .res
  let s := if s.committed .scan then applyGroup .scan s else s
  let s := if s.committed .layer then applyGroup .layer s else s
  let s := if s.committed .res then applyGroup .res s else s
  (any, { s with scan.commitScan := false, scan.commitLayer := false, scan.commitRes := false })

/-- A commit applies at once while STOPPED (R126). -/
def commitNow (g : Group) (s : State) : State :=
  let s := applyGroup g s
  retireCheck 0 { s with scan.latchFrame := s.scan.frame % 2 ^ 32 }

/-- An accepted write of 1 to the commit bit of a group (R124, R126). -/
def commitWrite (g : Group) (s : State) : State :=
  let s := s.wr (commitReg g) 1
  if s.scan.state = .stopped then commitNow g s else s

/-- COMMIT_COMPLETE: the settings of the commit bits reach the frame timing generator (R124). -/
def commitComplete (s : State) : State :=
  let has := fun g => s.b (commitReg g) 0
  if s.scan.state = .stopped then
    forEach [Group.scan, Group.layer, Group.res] (fun g st => if has g then commitNow g st else st) s
  else { s with scan.commitScan := has .scan, scan.commitLayer := has .layer, scan.commitRes := has .res }

/-! ### Fennel's frame (R211, R214, R217, R219, R221, R334) -/

/-- TH and TH_RET: whole frames in so many seconds (R211). -/
def framesIn (seconds period : Nat) : Nat := divUp (seconds * 100000000) period

/-- The policy of a cell for frame n: one that comes into force (R221), else BISTABLE holds its state (R216). -/
def policyApply (key n : Nat) (s : State) : State :=
  let new := s.policyOf key
  let c := s.cell key
  if new = c.policy then
    if new = 2 && c.state ≠ 3 && !c.entry then s.modCell key fun c => { c with state := 3 } else s
  else
    let bright := s.bright (key / 64)
    s.modCell key fun c =>
      let c := { c with ended := none, due := 0, ret := if c.bstate = 0 && c.state ≠ 0 then 0 else c.ret }
      if new = 1 ∨ new = 3 then { c with policy := new, state := 0 }
      else if new = 2 then { c with policy := new, state := 3 }
      else if c.policy = 2 then
        (if c.bstate = 2 && bright then { c with policy := new, state := 3 } else { c with policy := new, state := 4, n0 := n })
      else { c with policy := new, state := 0 }

/-- A cell as frame n closes: fades end, and RET counts (R217). -/
def resClose (key n : Nat) (s : State) : State :=
  let c := s.cell key
  if s.fennelRuns && c.policy = 0 && c.state = 2 && c.due = 0 && decide (c.n0 + 31 ≤ n) then
    resEvent 1 key (n + 1) (s.modCell key fun c => { c with state := 3 })
  else if s.fennelRuns && c.policy = 0 && c.state = 4 && c.due = 0 && decide (c.n0 + 31 ≤ n) then
    s.modCell key fun c => { (if c.bstate = 0 then { c with ret := 0 } else c) with state := 0 }
  else if c.state = 0 && c.bstate = 0 then s.modCell key fun c => { c with ret := c.ret + 1 }
  else s

/-- The cells of the tiles that pipe i, for port p, serves. -/
def State.pipeCells (s : State) (p : Nat) : List Nat :=
  (s.fedTiles p).flatMap fun i => (s.resCells i).map fun n => 64 * i + n

/-- The closed frame's part of Fennel: a skipped frame is an equal observation of every cell of its pipe (R334). -/
def resFrameClosed (n : Nat) (s : State) : State :=
  if !s.resOn then s
  else
    let s := forEach s.allCells (fun k st => resClose k n st) s
    let s := forEach s.servingPipes (fun x st =>
      if (st.pipe x.1).skipping then
        forEach (st.pipeCells x.2) (fun k st => st.modCell k fun c => { c with still := min 65535 (c.still + 1) }) st
      else st) s
    forEach s.allCells (fun k st => resDecide k (n + 1) st) s

/-- What a latch point that opens frame n brings to Fennel: settings, thresholds, policies, and F of every cell of a
pipe that opens a window; `holds`: ports whose pipe keeps its window open (R246) (DEDUCED, log 41). -/
def resLatch (n : Nat) (holds : List Nat) (s : State) : State :=
  let p := s.framePeriod
  let s := { s with
    res.timing := s.rd .resTiming, res.ambient := s.rd .resAmbient, res.rep := s.rd .resRep, res.back := s.rd .resReturn
    res.th := framesIn (s.f .resTiming 7 0) p, res.thRet := framesIn (s.f .resTiming 15 8) p }
  let s := { s with bist.queue := s.bist.queue.filter fun r => !r.void }
  if !s.resOn then
    if s.res.off then s
    else forEach (List.range 40) (fun i st => st.modPipe i fun q => { q with dirty := true }) { s with res.off := true }
  else
    let s := forEach s.allCells (fun k st => policyApply k n st) { s with res.off := false }
    forEach (s.servingPipes.filter fun x => !holds.contains x.2) (fun x st =>
      forEach (st.pipeCells x.2) (fun k st =>
        let f := (st.cell k).factor n
        let changed := decide (f ≠ (st.cell k).f)
        let st := st.modCell k fun c => { c.newWindow with f := f }
        if changed then st.modPipe x.1 fun q => { q with dirty := true } else st) st) s

/-! ### The closing of a window (R122, R156, R244 to R246, R331) -/

/-- Does the window of port p's pipe stay open over the latch point that closes frame n: skip mode, and n even (R246)? -/
def State.holdsWindow (s : State) (p n : Nat) : Bool := (s.codec (s.pipeOf p)).skip && n % 2 == 0

/-- Each of the last FRAMES closed frames was not abandoned and had S within ENTER of C1, as CODEC_GOV stands now (R245). -/
def Codec.met (c : Codec) (c1 : Nat) : Bool :=
  let l := c.history.take (fld c.gov 15 8)
  l.length == fld c.gov 15 8 && l.all fun f => !f.1 && decide (f.2 ≤ c1 * fld c.gov 7 0 / 256)

/-- The governor at a latch point (R245). -/
def governorLatch (i p : Nat) (s : State) : State :=
  let c := s.codec i
  let q := s.port p
  let c1 := oneLane s.framePeriod
  let headroom := decide (s.rawFrame (s.chainOf p) + 8192 * fld c.gov 20 16 + 576 ≤ 2 * c1)
  if q.role ≠ 1 || q.state ≠ 2 then s
  else if q.idle ≠ 0 then
    if headroom then s
    else (wakeLanes p s).modCodec i fun c => { c with wakes := (c.wakes + 1) % 65536, history := [] }
  else if bit c.ctl 2 && q.served == 2 && c.met c1 && headroom && (s.pipe i).sweep.isNone then
    match q.running.reverse with
    | l :: _ => idleLane p l s
    | [] => s
  else s

/-- Skip mode at the latch point that opens frame n (R246): the exit at an even frame, or the entry. -/
def skipLatch (i p n : Nat) (s : State) : State :=
  let c := s.codec i
  let c1 := oneLane s.framePeriod
  let degraded := (s.port p).degraded
  if c.skip then
    if n % 2 = 0 && (!degraded ||
        (match c.justClosed with | some f => decide (f.2 ≤ c1 * fld c.deg 15 8 / 256) | none => false)) then
      s.modCodec i fun c => { c with skip := false }
    else s
  else if degraded && (s.port p).state == 2 && bit c.ctl 3 &&
      (match c.justClosed with | some f => f.1 || decide (c1 * fld c.deg 7 0 / 256 < f.2) | none => false) then
    detectNote (codecUnit i) 0 (s.modCodec i fun c => { c with skip := true })
  else s

/-- Pipe i, for port p, closes its window as the latch point closes frame n. -/
def closePipe (i p n : Nat) (s : State) : State :=
  let q := s.pipe i
  if s.holdsWindow p n then s.modCodec i fun c => { c with skipSyn := false, justClosed := none }
  else
    let skipMode := (s.codec i).skip
    -- in skip mode the rows of the odd frame n are missed (R247)
    let s := if skipMode then missRows i s.age.n n ((s.fedTiles p).flatMap fun t =>
        (List.range (s.rectOf t).h).map fun v => (t, v)) s else s
    let s := missRest i s
    let s := if q.skipping then s.modPipe i fun q => { q with todo := [], col := 0 }
      else if q.yielded then s else abandonFrame i true s
    let s := closeFrameStats i s
    s.modCodec i fun c => { c with
      history := ((c.abandoned, c.frameBits) :: c.history).take 255, justClosed := some (c.abandoned, c.frameBits), skipSyn := skipMode }

/-- The pipes that have a window open. -/
def State.openPipes (s : State) : List (Nat × Nat) := s.servingPipes.filter fun x => (s.pipe x.1).opened

/-- BIST_STATUS.IDLE: no pass runs and no cell has PEND = 1 (R208). -/
def State.bistIdle (s : State) : Bool :=
  !((List.range 64).any fun k => (s.drive k).pass.isSome) &&
    !(s.bist.stateReady && s.allTiles.any fun i => (s.familyOf i).bistable && s.tilePending i)

/-- No residency cell moves, and no request of Fennel's is queued or in flight (R331). -/
def State.resQuiet (s : State) : Bool :=
  s.res.cells.all fun c => c.2.state != 1 && c.2.state != 2 && c.2.state != 4 && !c.2.asked

/-- The closed frame counts towards self-entered Hold, or the count restarts (R331). -/
def countIdle (s : State) : State :=
  if s.b .powerSelfref 0 && (s.power.state == .run || s.power.state == .trim) && s.scan.state == .running then
    let idle := !s.scan.changed && !s.power.activity && s.bistIdle && s.resQuiet
    { s with power.idleCount := if idle then min 65535 (s.power.idleCount + 1) else 0 }
  else s

/-- A latch point closes the open window of frame n: its unfinished work is abandoned and its counts are taken. -/
def closeWindow (s : State) : State :=
  if !s.scan.windowOpen then s
  else
    let n := s.scan.frame
    let moving := !s.resQuiet
    let s := forEach (List.range 40) (fun i st => st.modCodec i fun c => { c with justClosed := none }) s
    let s := forEach s.openPipes (fun x st => closePipe x.1 x.2 n st) s
    let s := resFrameClosed n (endFades n s)
    let s := countIdle { s with power.activity := s.power.activity || moving }
    { s with scan.windowOpen := false, scan.show_ := n % 2 ^ 32, scan.changed := false, power.activity := false }

/-! ### The opening of a window (R104, R125, R146, R333, R461) -/

/-- Does pipe i skip frame n in Trim (R333)? (DEDUCED, log 38) -/
def State.trimSkips (s : State) (i p : Nat) : Bool :=
  let q := s.pipe i
  s.power.state == .trim && q.sentWhole && !q.dirty && decide (q.skips < s.f .powerTiming 23 16) && !s.scan.firstWindow &&
    !(s.fedTiles p).any s.fading

/-- Pipe i, for port p, opens its window on frame n; `wasSkip`: the port was in skip mode up to this latch point; `applied`:
the latch point applied a commit or a bind, or a LAYER_WRITE runs on (DEDUCED, log 39). -/
def openPipe (i p n : Nat) (wasSkip applied : Bool) (s : State) : State :=
  if (s.port p).state ≠ 2 || s.pipeBad i || !(s.span (pipeSpan i)).running then
    let s := s.modPipe i fun q => { q with todo := [], col := 0 }
    if s.pipeBad i then s.modCodec i fun c => { c.newFrame with abandoned := true } else s
  else if (s.codec i).skip && n % 2 = 1 then s.modCodec i fun c => { c with skips := (c.skips + 1) % 65536 }
  else
    let first := !(s.pipe i).opened
    let s := s.modPipe i fun q => { q with
      frame := n, period := s.framePeriod, n := s.age.n, todo := [], col := 0, ranged := false, ageRanged := false, exceeded := false
      skipping := false, yielded := false, opened := true, work := s.work, layers := s.layers
      alert := if q.sweep.isSome || q.waiting.isSome then q.alert else s.alert.work }
    let s := s.modCodec i Codec.newFrame
    let s := if (s.pipe i).reload || (s.pipe i).load.isNone then loadPipe i p s else s
    let s := s.modPipe i fun q => { q with reload := false }
    let all := s.segments p
    if (s.pipe i).sweep.isSome then
      yieldFrame i (s.modPipe i fun q => { q with todo := all, skips := 0 })
    else
      match (s.pipe i).waiting with
      | some region =>
        if first || wasSkip || (s.codec i).skip then alertBegin i p region (s.modPipe i fun q => { q with todo := all, skips := 0 })
        else s.modPipe i fun q => { q with todo := all, skips := 0, sentWhole := true, dirty := applied }
      | none =>
        if s.trimSkips i p then
          s.modPipe i fun q => { q with skipping := true, skips := q.skips + 1, todo := all.filter fun t => s.striped t.1 t.2 n s.age.n }
        else
          memRequestAll (s.pipe i).fetchClass (pipeSpan i) i
            (s.modPipe i fun q => { q with todo := all, skips := 0, sentWhole := true, dirty := applied })

/-- CODEC_CTL, GOV and DEG of every context take effect (R248) (DEDUCED, log 40). -/
def codecLatch (s : State) : State :=
  forEach (List.range 40) (fun i st => st.modCodec i fun c =>
    { c with ctl := st.rd (.codecCtl i), gov := st.rd (.codecGov i), deg := st.rd (.codecDeg i) }) s

/-- A latch point that opens a window: R125 steps 1 to 5, then every pipe opens the new frame. -/
def openWindow (s : State) : State :=
  let n := s.scan.frame + 1
  let due := s.fencesDue
  let (committed, s) := applyCommits s
  let bound := s.jobs.any fun j => j.stage == .binding
  let s := retireCheck (n % 2 ^ 32) (applyBinds (n % 2 ^ 32) s)
  -- a LAYER_WRITE that runs on is a content change of the new frame too (R114)
  let writing := s.jobs.any fun j => j.opcode == 2 && j.stage == .running
  let applied := committed || bound || writing
  let s := { s with scan.frame := n, scan.latchFrame := if committed then n % 2 ^ 32 else s.scan.latchFrame }
  let s := if applied then forEach (List.range 40) (fun i st => st.modPipe i fun q => { q with dirty := true }) s else s
  let s := latchFences due s
  let s := match s.power.move with | .switch t => applySwitch t s | _ => s
  let s := codecLatch { s with age.n := s.f .ageCtl 26 16 }
  let skipping := (List.range 32).filter fun p => (s.codec (s.pipeOf p)).skip
  let s := forEach ((List.range 32).filter fun p => !(s.fedTiles p).isEmpty) (fun p st =>
    governorLatch (st.pipeOf p) p (skipLatch (st.pipeOf p) p n st)) s
  let holds := (List.range 32).filter fun p => (s.codec (s.pipeOf p)).skip && n % 2 == 1
  let s := resLatch n holds s
  let s := { s with scan.windowOpen := true, scan.changed := applied }
  let s := forEach s.servingPipes (fun x st => openPipe x.1 x.2 n (skipping.contains x.2) applied st) s
  alertDone { s with scan.firstWindow := false }

/-! ### The two marks (R103, R104, R112, R113) -/

/-- Scan-out is stopped for good: waiting commits and binds apply (R125, R126). -/
def scanStopped (s : State) : State :=
  let s := { s with scan.state := .stopped, scan.closed := false, scan.windowOpen := false, scan.placed := none
                    scan.lastStart := none, scan.rephase := false }
  let (committed, s) := applyCommits s
  let s := retireCheck 0 (applyBinds 0 s)
  let s := if committed then { s with scan.latchFrame := s.scan.frame % 2 ^ 32 } else s
  let rings := (s.jobs.filter fun j => match j.stage with | .fence _ => true | _ => false).map (·.ring)
  let s := alertStopped (forEach rings (fun n st => stopCheck n (fenceCheck n st)) s)
  match s.power.move with
  | .switch t => applySwitch t s
  | .entry 3 keep => idlePorts keep s
  | _ => s

/-- CHANNEL_LOST: the channel's Halt, and STATE becomes STOPPED with all that this brings: completed commits and started binds
apply, retires and FENCEs are decided (R397, R125, R79). -/
def channelLostStop (m : Nat) (s : State) : State :=
  let t := channelLost m s
  if (s.channel m).lost || s.scan.state == .stopped then t else scanStopped t

/-- The flags of the SYN that a frame start sends to port p (R289). -/
def State.synFlags (s : State) (p : Nat) (handover resume : Bool) : Nat :=
  b2n handover + 2 * b2n (s.codec (s.pipeOf p)).skipSyn + 4 * b2n resume

/-- A latch point clears PENDING, and every pipe then loads as it opens its next window (R146). -/
def takeReload (s : State) : State :=
  if !s.emitter.pending then s
  else forEach (List.range 40) (fun i st => st.modPipe i fun q => { q with reload := true }) { s with emitter.pending := false }

/-- Every engine that executes writes a checkpoint at a latch point (R393). -/
def checkpointEngines (s : State) : State :=
  forEach ((List.range 72).filter fun e => (s.engine e).running) (fun e st => st.checkpoint e) s

/-- LATCH_POINT after `dt` cycles: it closes the open window, and opens the next unless scan-out stops or hands over
(R104, R112, R113, R125) (DEDUCED, log 42). -/
def latchPoint (dt : Nat) (s : State) : State :=
  let s := advance dt s
  if s.scan.next ≠ .latch || (s.scan.state ≠ .running && s.scan.state ≠ .stopping) then s
  else
    let s := checkpointEngines s
    let s : State := takeReload { closeWindow s with scan.next := .frameStart }
    if s.scan.state = .stopping then { s with scan.closed := true }
    else if s.scan.handover then { s with scan.closed := true, age.heldFrom := s.timeNow, age.heldGap := false }
    else openWindow s

/-- FRAME_START after `dt` cycles: SYN on every port that is up; the last one of a stop or hand-over ends scan-out
(R104, R107, R112, R113, R289, R390) (DESIGN CHOICE, log 5). -/
def frameStart (dt : Nat) (s : State) : State :=
  let s := advance dt s
  if s.scan.next ≠ .frameStart || (s.scan.state ≠ .running && s.scan.state ≠ .stopping) then s
  else
    let handover := s.scan.closed && s.scan.state == .running
    let resume := decide (0 < s.faultg.resumeFrames)
    let s := forEach s.upPorts (fun p st => sendSyn p st.scan.show_ (st.synFlags p handover resume) st) s
    let s : State := { s with
      faultg.resumeFrames := s.faultg.resumeFrames - 1, scan.next := .latch, scan.lastStart := some s.cycles
      scan.rephase := s.scan.rephase && s.scan.placed.isNone, scan.placed := none, scan.returning := false
      scan.rephaseWait := s.scan.rephase && s.scan.placed.isNone
      scan.holdover := s.scan.holdover || (s.scan.locked && s.scan.placed.isNone) }
    if !s.scan.closed then s
    else if s.scan.state = .stopping then scanStopped s
    else
      let s := { s with scan.state := .held, scan.closed := false, scan.handover := false }
      match s.power.move with
      | .entry 3 keep => idlePorts keep s
      | _ => s

/-! ### Start, stop, reload (R111, R112, R146) -/

/-- The settings conditions of R105 and of R111 hold. -/
def State.startTimingOk (s : State) : Bool :=
  let nom := s.nominal
  decide (s.genlockOffset < nom) && decide (s.activeCycles + 5000 + divUp nom 2000 ≤ nom) &&
    decide (200000000000000 ≤ (nom - nom / 2000) * s.geomRate * 20010)

/-- A write of START is accepted (R111): STOPPED, geometry, timing, no seed pass after a restore, and device memory
initialised (R419). -/
def State.startAllowed (s : State) : Bool :=
  s.scan.state == .stopped && s.memc.initDone && s.geom.valid && s.startTimingOk && !(s.age.seeding && s.age.seedRestore)

/-- SCAN_START: the accepted write's effect, with its FREERUN (R111, R146, R156); a free-running first frame start falls 2 to
4 always-on cycles later, which of them the spec leaves open (DESIGN CHOICE, log 94). -/
def scanStart (freerun : Bool) (s : State) : State :=
  let s := s.wr .scanCtl (4 * b2n freerun)
  let s := { s with
    scan.state := if s.scan.locked || freerun then .running else .acquiring
    scan.next := .frameStart, scan.closed := false, scan.handover := false, scan.windowOpen := false
    scan.show_ := s.scan.frame % 2 ^ 32, scan.firstWindow := true, scan.lockHeld := s.scan.locked
    scan.lastStart := none, scan.returning := false
    scan.placed := if !s.scan.locked && freerun then some (s.cycles + 2 + Config.freeValue s.free % 3) else none
    age.missed := [], scan.rephaseWait := false, free := s.free + 1 }
  forEach (List.range 40) (fun i st => st.modPipe i fun q =>
    { q with load := none, reload := false, opened := false, todo := [], col := 0, sentWhole := true, skips := 0 }) s

/-- SCAN_STOP: the accepted write's effect, with its FREERUN (R112). -/
def scanStop (freerun : Bool) (s : State) : State :=
  let s := s.wr .scanCtl (4 * b2n freerun)
  if s.scan.state = .acquiring then scanStopped s
  else if s.scan.state = .running then { s with scan.state := .stopping }
  else s

/-- EMIT_RELOAD: a write of 1 to RELOAD (R146). -/
def emitReload (s : State) : State :=
  if s.scan.state = .stopped then s else { s with emitter.pending := true }

/-! ### The geometry check (R23, R462) -/

/-- GEOM_CHECK: a write of 1 to CHECK starts the check. -/
def geomCheckStart (s : State) : State :=
  { s with geom.busy := true, geom.valid := false, geom.versions := [s.mem] }

/-- The accepted geometry replaces the copies of every span, the Cardamom records with it (R16, R18, R23, R180)
(DEDUCED, log 37). -/
def geomAccept (acc : CheckAcc) (s : State) : State :=
  let fams := checkFamilies s
  let tiles := acc.tiles.foldl (fun t x => Tab.put {} x.1 x.2 t) []
  { s with
    geom.valid := true, geom.error := 0, geom.port := 0, geom.hop := 0, geom.copied := true
    geom.width := s.f .scanWallSize 15 0, geom.height := s.f .scanWallSize 31 16
    geom.families := fams.zipIdx.foldl (fun t x => Tab.put {} x.2 x.1 t) []
    geom.tiles := tiles, geom.familyBase := s.familyBase, geom.tileBase := s.tileTableBase
    geom.chains := (List.range 32).foldl (fun t p => Tab.put {} p ⟨s.setTiles p, s.setLooped p⟩ t) []
    age.cards := acc.tiles.foldl (fun t x => Tab.put 0 x.1 (s.lez (s.tileTableBase + 32 * x.1 + 16) 8) t) []
    bist.stateReady := false }

/-- GEOM_CHECK_END: the check ends with its result (R23, R24, R170). -/
def geomCheckEnd (s : State) : State :=
  if !s.geom.busy then s
  else
    let r := geomCheck s
    let s := match r with
      | .ok acc => geomAccept acc s
      | .error (e, p, h) => { s with geom.error := e, geom.port := p, geom.hop := h }
    { s with geom.busy := false, geom.versions := [] }.tickFree

end Sys2Proof.Machine
end

