-- ==== Sys2Proof/Machine/StartUp.lean ====
section
/-!
DEFINITION. Resets (R407 to R409, R433), the start-up sequence (R410 to R414), fuses and trims (R415 to R418), the
memory initialise (R419, R420), the hold capacitor (R364, R366), JTAG (R445), pipe takeovers (R394), scrubbing (R397).
-/

namespace Sys2Proof.Machine

/-! ### Resets -/

/-- POWER_ON_RESET (R407, R433): everything but the fuses, the store and the repairs left pending takes its reset value,
PHASE 0, and the balls their levels; held off while a power-down save runs (R434) (DESIGN CHOICE, log 22). -/
def powerOnReset (s : State) : State :=
  if s.nvs.current = some .powerSave then s
  else
    { State.reset with
      pending := s.pending, out := s.out, free := s.free
      nvs := { pages := s.nvs.pages, leftOut := s.nvs.leftOut, pwrfailHigh := s.nvs.pwrfailHigh }
      fuse := { words := s.fuse.words }
      memc := { channels := (List.range 16).foldl (fun t m => Tab.put {} m { repairs := (s.channel m).repairs } t) [] } }

/-- POWER_ON_RESET_RELEASE: phase FUSES begins (R410, R433). -/
def powerOnResetRelease (s : State) : State := if s.glob.phase = 0 then { s with glob.phase := 1 } else s

/-- The number by which a command from before a PCIe reset names its ring: no ring has it (R408) (DEDUCED, log 32). -/
def orphan (n : Nat) : Nat := n + 8192

/-- Every command in progress keeps running as an orphan; what names its ring follows. -/
def orphanAll (s : State) : State :=
  let pair := fun (x : Nat × Nat) => (orphan x.1, x.2)
  let nvsOp := fun (o : NvsOp) => match o with
    | .ringRead r sl p g o l h => .ringRead (orphan r) sl p g o l h
    | .ringWrite r sl p g o d => .ringWrite (orphan r) sl p g o d
    | .ringSave r sl => .ringSave (orphan r) sl
    | o => o
  let cmd := fun (c : Cmd) => match c.owner with | .tile r sl => { c with owner := .tile (orphan r) sl } | _ => c
  let s := forEach (List.range 32) (fun p st => st.modPort p fun q => { q with
    cmds := q.cmds.map cmd, bcasts := q.bcasts.map fun b => (b.1, pair b.2)
    frames := q.frames.map fun f => { f with ends := f.ends.map pair } }) s
  let s := forEach (List.range 64) (fun k st =>
    st.setUpdate k ((st.update k).map fun u => { u with ring := orphan u.ring })) s
  { s with
    jobs := s.jobs.map fun j => { j with ring := orphan j.ring }
    power.fromRing := s.power.fromRing.map pair
    alert.cmd := s.alert.cmd.map fun c => { c with ring := orphan c.ring }
    nvs.queue := s.nvs.queue.map nvsOp, nvs.current := s.nvs.current.map nvsOp }

/-- A started LAYER_WRITE stops at its next row boundary: how many rows it has written whole, and their bytes, are free
values here (R408 step 3) (DESIGN CHOICE, log 33). -/
def stopWrite (j : Job) (s : State) : State :=
  let bytes := wd j.desc 6
  let rows := Config.freeValue s.free % (wd j.desc 7 + 1)
  let s := forEach (List.range rows) (fun r st =>
    st.puts (wd64 j.desc 4 + r * wd j.desc 9)
      ((List.range bytes).map fun i => Config.freeValue (s.free + 1 + r * bytes + i) % 256)) s
  { s with free := s.free + 1 + rows * bytes, jobs := s.jobs.filter fun x => x != j }

/-- Does a PCIe reset drop the command: parked, a FENCE, or still waiting for a slot (R408 step 2)? -/
def Job.dropped (j : Job) : Bool :=
  match j.stage with
  | .parked | .stalled | .fetched | .fence _ => true
  | _ => false

/-- The registers of the HOSTIF block, which both PCIe resets reset (R409). -/
def inHostif (a : Nat) : Bool := decide (0x10000 ≤ a ∧ a < 0x20000)

/-- RINGCTL after a PCIe reset: ENABLE, HW_INDEX and SW_INDEX are 0 (R408 step 1) (DEDUCED, log 34). -/
def ringsReset (s : State) : State :=
  let s := forEach (s.regs.filterMap fun r => match locate r.1 with | some (.ringCtl n) => some n | _ => none)
    (fun n st => st.wr (.ringCtl n) (withBit (st.rd (.ringCtl n)) 0 false)) s
  forEach (s.rings.map (·.1)) (fun n st => st.modRing n fun r =>
    { r with hw := 0, sw := 0, seen := 0, stopping := false, waiting := [], lost := 0, rung := [] }) s

/-- A Conventional Reset (2) or a Function Level Reset (3) (R408, R409). -/
def pcieReset (kind : Nat) (s : State) : State :=
  let s := ringsReset s
  let s := forEach (List.range 72) (fun e st => st.modEngine e fun g => { g with bells := [], fetch := none, job := none }) s
  let s := { s with jobs := s.jobs.filter fun j => !j.dropped }
  let s := forEach (s.jobs.filter fun j => j.opcode == 2 && j.stage == .running) stopWrite s
  let s := { s with jobs := s.jobs.filter fun j => j.opcode != 7 }
  let s := orphanAll s
  let h := s.host
  { s with
    regs := s.regs.filter fun r => !inHostif r.1
    glob.unlocked := false, glob.lastReset := kind
    host := { h with accErr := none, accErrCount := 0, msix := [], pba := [], msixEnable := false, funcMask := false
                     l12 := false, aspm := false, linkState := 0, d3hot := false, linkUp := h.linkUp && kind == 3, training := h.training && kind == 3
                     bar2Log := 0 } }

/-- PCIE_LINK_DOWN: the link leaves L0 other than to L1 or a substate (R386). -/
def pcieLinkDown (s : State) : State := detectNote 1 2 { s with host.linkUp := false, host.training := false }

/-- LINK_TRAINING_START: PERST_N is deasserted and phase VOLTAGE has ended: the link trains to what the two ends
share (R11, R412, R456). -/
def linkTrainingStart (speed width : Nat) (reversed : Bool) (s : State) : State :=
  if s.glob.phase < 4 then s
  else { s with host.perstHigh := true, host.training := true, host.linkUp := true, host.speed := speed % 16,
                host.width := width % 32, host.reversed := reversed }

/-! ### Fuses and trims (R415 to R418) -/

/-- Fuse word i as FUSE_WORD shows it. -/
def State.fuseWord (s : State) (i : Nat) : Nat := Tab.get 0 i s.fuse.words

/-- The corrected data of fuse word i, 0 where it is uncorrectable. -/
def State.fuseData (s : State) (i : Nat) : Nat := if bit (s.fuseWord i) 31 then 0 else fld (s.fuseWord i) 23 0

/-- The words that a read returned take their places (R415) (DEDUCED, log 24). -/
def takeFuses (reads : List (Nat × Nat)) (s : State) : State :=
  let ws := reads.foldl (fun t r => Tab.put 0 (r.1 % 256) (r.2 % 2 ^ 32) t) s.fuse.words
  { s with fuse.words := ws, fuse.readDone := true, fuse.ue := ws.any fun w => bit w.2 31
           fuse.ce := satU (ws.filter fun w => bit w.2 30).length 8 }

/-- The "fuse" fields load from words 0 to 5; a field of an uncorrectable word keeps what it holds (R413, R416). -/
def loadFuseFields (s : State) : State :=
  let bad := fun i => bit (s.fuseWord i) 31
  let d := s.fuseData
  { s with
    fuse.id := if bad 0 || bad 1 || bad 2 then s.fuse.id else d 0 + at_ (d 1) 24 + at_ (fld (d 2) 15 0) 48
    fuse.rev := if bad 3 then s.fuse.rev else fld (d 3) 15 0
    fuse.runMv := if bad 4 then s.fuse.runMv else fld (d 4) 15 0
    fuse.retMv := if bad 5 then s.fuse.retMv else fld (d 5) 15 0 }

/-- The code in `w` bits at bit `o` of the fuse words from `base` on, 24 bits to a word; none where one of them is
uncorrectable. -/
def State.fuseField (s : State) (base o w : Nat) : Option Nat :=
  let words := (List.range w).map fun k => base + (o + k) / 24
  if words.any fun i => bit (s.fuseWord i) 31 then none
  else some ((List.range w).foldl (fun a k => a + at_ (bitN (s.fuseData (base + (o + k) / 24)) ((o + k) % 24)) k) 0)

/-- The selections and trims in the order of R417: field number, reset code, fused code, whether a step is one code. -/
def State.trims (s : State) : List (Nat × Nat × Nat × Bool) :=
  let sel := Config.selectionFields.map fun f => (0, (s.fuseField 6 f.1 f.2).getD 0, false)
  let trim := Config.trimFields.map fun f => (2 ^ (f.2 - 1), (s.fuseField 16 f.1 f.2).getD (2 ^ (f.2 - 1)), true)
  (sel ++ trim).zipIdx.map fun x => (x.2, x.1.1, x.1.2.1, x.1.2.2)

/-- The code that field k holds. -/
def State.appliedCode (s : State) (k reset : Nat) : Nat := Tab.get reset k s.fuse.applied

/-- Steps that lead every field from its applied code to its fused one (R417). -/
def State.trimSteps (s : State) : Nat :=
  s.trims.foldl (fun a t =>
    let c := s.appliedCode t.1 t.2.1
    a + if t.2.2.2 then max c t.2.2.1 - min c t.2.2.1 else b2n (c != t.2.2.1)) 0

/-- Field k takes a code. -/
def applyCode (k reset code : Nat) (s : State) : State :=
  { s with fuse.applied := Tab.put reset k code s.fuse.applied }

/-- TRIM_STEP in phase TRIMS: the first field that does not hold its fused value moves one step (R417). -/
def trimStep (s : State) : State :=
  if s.glob.phase ≠ 2 then s
  else
    match s.trims.find? fun t => s.appliedCode t.1 t.2.1 != t.2.2.1 with
    | none => s
    | some (k, reset, fused, codes) =>
      let c := s.appliedCode k reset
      let next := if !codes then fused else if c < fused then c + 1 else c - 1
      { applyCode k reset next s with fuse.steps := (s.fuse.steps + 1) % 4096 }

/-- FUSE_RELOAD, accepted: the words are read again (R418). -/
def fuseReload (s : State) : State := startLong 4 { s with fuse.reloading := true }

/-- FUSE_RELOAD_END: with the words read, every applied value steps back to its fused one; an uncorrectable word ends
the reload with MEDIA, after FUSE_UE (R418). -/
def fuseReloadEnd (reads : List (Nat × Nat)) (s : State) : State :=
  if !s.fuse.reloading then s
  else
    let s := loadFuseFields (takeFuses reads { s with fuse.reloading := false })
    let s := { s with fuse.steps := s.trimSteps % 4096 }
    let s := forEach s.trims (fun t st => applyCode t.1 t.2.1 t.2.2.1 st) s
    if s.fuse.ue then endLong 7 (detect 5 0 s) else endLong 0 s

/-! ### The hold capacitor (R364, R366) -/

/-- A measurement's result: CAP_UF from the fall, the energies, and the worst-case save (R364, R366). -/
def capResult (vhold fall : Nat) (s : State) : State :=
  let cap := if fall = 0 then Config.freeValue s.free % 65536 else 20000 / fall
  let s : State := { s with nvs.capUf := cap, nvs.vhold := vhold, nvs.measuring := false, nvs.lastMeasure := s.time.count }
  let s := maceSample (worstSavePages s) (if fall = 0 then s.tickFree else s)
  let s := s.emit (.holdSwitch true false)
  if energyAt cap vhold < energyNeed (worstSavePages s) then detectNote 4 3 s else s

/-- CAP_MEASURE: the charge switch opens and 20 mA are drawn, in Run and Trim, unless a write or save runs
(DEDUCED, log 85). -/
def capMeasure (s : State) : State :=
  let writes := match s.nvs.current with
    | none | some (.regRead ..) | some (.ringRead ..) => false
    | _ => true
  if s.nvs.measuring || writes || !(s.power.state == .run || s.power.state == .trim) then s
  else { s with nvs.measuring := true }.emit (.holdSwitch false true)

/-- CAP_MEASURE_END: after 1 ms, with VHOLD and its fall in mV. -/
def capMeasureEnd (vhold fall : Nat) (s : State) : State := if s.nvs.measuring then capResult vhold fall s else s

/-- LOG_APPEND_RETRY: 100 ms after the Mace check refused an internal append (R365). -/
def logAppendRetry (s : State) : State := nvsGo { s with nvs.retry := false }

/-- NVS_SAVE_END: a save ends, the host's or the power-down's (R374, R376). -/
def nvsSaveEnd (s : State) : State := if s.nvs.current = some .powerSave then powerSaveEnd s else nvsHostSaveEnd s

/-! ### The start-up phases (R410 to R414) -/

/-- Phase STORE ends: the scan, TIME, and the capacitor (R349, R364, R375). -/
def storePhase (vhold fall : Nat) (s : State) : State :=
  let s := storeScan s
  let s := { s with time.count := if s.nvs.saveValid then s.nvs.lastTime else 0, time.running := true, nvs.scanned := true }
  let s := if s.nvs.saveValid then detectNote 2 1 s else s
  nvsGo (capResult vhold fall s)

/-- The lanes in service of a port whose retired lanes are known (R252, R270). -/
def servedLanes (retired : Nat) : Nat :=
  let data := (List.range 2).foldl (fun a l => if bit retired l then a else a + 2 ^ l) 0
  if data ≠ 3 && !bit retired 2 then data + 4 else data

/-- The spare map's words of span i apply; an entry that names no unit is ignored (R402, R413). -/
def applySpanMap (i w pipes : Nat) (s : State) : State :=
  let s := forEach (List.range 9) (fun j st =>
    if bit w (4 + j) then st.modEngine (9 * i + j) fun g => { g with failed := true } else st) s
  s.modSpan i fun x => { x with
    spareFor := if fld w 3 0 < 8 then fld w 3 0 else 0xF
    pipeFailed := fld w 20 16
    slots := (List.range 4).map fun j => if fld pipes (3 * j + 2) (3 * j) = 4 then 4 else j }

/-- Phase SPARES: pages 20 and 21 of the store's log apply (R402, R410). -/
def sparesPhase (s : State) : State :=
  let s0 := s
  let s := if s0.pageLe 2 20 0 4 ≠ 1 then s
    else
      let s := forEach (List.range 8) (fun i st =>
        applySpanMap i (s0.pageLe 2 20 (4 + 4 * i) 4) (s0.pageLe 2 20 (0x24 + 4 * i) 4) st) s
      let s := forEach (List.range 32) (fun p st =>
        let r := s0.pageLe 2 20 (0x44 + 4 * p) 4 % 8
        st.modPort p fun q => { q with retired := r, inService := servedLanes r }) s
      forEach (List.range 16) (fun m st =>
        st.setChannel m { st.channel m with repaired := fld (s0.pageLe 2 20 (0xC4 + 4 * m) 4) 15 8 }) s
  forEach (List.range 8) (fun i st => st.modSpan i fun x => { x with
    sramRepairs := (List.range 64).filterMap fun k =>
      let w := s0.pageLe 2 21 (0x100 * i + 4 * k) 4
      if bit w 31 then some (fld w 19 16, fld w 15 0) else none }) s

/-- A post-package repair that was left pending is made and recorded (R401, R419). -/
def makeRepair (m : Nat) (r : Nat × Nat) (s : State) : State :=
  let c := s.channel m
  let s := s.setChannel m { c with repaired := c.repaired + 1, repairs := c.repairs.erase r }
  engaged 13 1 6 r.2 (at_ m 28 + r.1) (Config.freeValue s.free % 2 ^ 32) (sourceIndex (channelUnit m) 0) 20 s.tickFree

/-- Phase MEMORY: capacity, remaps, repairs, and the channels that did not train (R413, R419). -/
def memoryPhase (fitted ok : Nat) (s : State) : State :=
  let s := { s with memc.fittedGiB := [16, 32, 64].getD fitted 0, memc.channelsOk := ok, memc.trained := true }
  let s0 := s
  let s := forEach (List.range 16) (fun m st => st.setChannel m { st.channel m with
    remaps := (List.range 64).filterMap fun k =>
      let w := s0.pageLe 2 (22 + m / 8) (0x100 * (m % 8) + 4 * k) 4
      if bit w 31 then some (fld w 23 0) else none }) s
  let s := forEach (List.range 16) (fun m st => forEach (s0.channel m).repairs (fun r st => makeRepair m r st) st) s
  let n := (List.range 16).foldl (fun a m => a + (s0.channel m).repairs.length) 0
  forEach ((List.range 16).filter fun m => !bit ok m) channelLost { s with memc.repairsDone := satU n 8 }

/-- Phase ENGINES: engines start, the self-test's failures engage spares with cause 4, and start-up is complete: ALIVE
starts unless Clove or FATAL is on (R414, R421). -/
def enginesPhase (fails : List TestFail) (s : State) : State :=
  let s := forEach fails (applyTestFail 4) (startEngines s)
  let s := { s with glob.phase := 8, glob.ready := true }
  if s.faultg.clove || s.faultg.fatal then s else { s with faultg.alive := true }.emit (.alive true)

/-- The regulator's voltage at the release of power-on reset, 750 to 850 mV (R433) (DESIGN CHOICE, log 26). -/
def bootMv (s : State) : Nat := 750 + Config.freeValue s.free % 101

/-- Phase VOLTAGE begins: the ramp from the boot voltage to RUN_MV (R339, R410). -/
def voltagePhase (s : State) : State :=
  let s := { s with glob.phase := 3, fuse.trimsDone := true, power.confirmedMv := bootMv s }.tickFree
  ramp (if s.fuse.runMv = 0 then s.power.confirmedMv else s.fuse.runMv) s

/-- STARTUP_PHASE: the phase that runs ends with what it brought (R410, R413). -/
def startupPhase (e : PhaseEnd) (s : State) : State :=
  match e with
  | .fuses reads =>
    if s.glob.phase ≠ 1 then s
    else
      let s : State := { loadFuseFields (takeFuses reads s) with glob.phase := 2 }
      if s.fuse.ue then detect 5 0 s else s
  | .trims => if s.glob.phase = 2 && s.trimSteps == 0 then voltagePhase s else s
  | .voltage =>
    if s.glob.phase = 3 && s.power.avsStep.isNone && decide (s.fuse.runMv ≤ s.power.confirmedMv) then
      { s with glob.phase := 4 }
    else s
  | .store vhold fall =>
    if s.glob.phase ≠ 4 || s.nvs.scanned then s
    else if s.faultg.fatal then storePhase vhold fall s
    else storePhase vhold fall { s with glob.phase := 5 }
  | .spares => if s.glob.phase = 5 then sparesPhase { s with glob.phase := 6 } else s
  | .memory fitted ok => if s.glob.phase = 6 then memoryPhase fitted ok { s with glob.phase := 7 } else s
  | .engines fails => if s.glob.phase = 7 then enginesPhase fails s else s

/-- VOLTAGE_RAISE_RETRY: 10 ms after RAISE_FAIL in phase VOLTAGE, the raise is tried again (R413). -/
def voltageRaiseRetry (s : State) : State :=
  if s.glob.phase = 3 && s.power.avsStep.isNone && decide (s.power.confirmedMv < s.fuse.runMv) then ramp s.fuse.runMv s
  else s

/-! ### The memory initialise (R420) -/

/-- MEMORY_INITIALISE, accepted. -/
def memoryInitialise (s : State) : State := startLong 5 { s with memc.initialising := true }

/-- MEMORY_INITIALISE_END: every byte is 0, and what described the memory is no longer valid; MEDIA where a channel is
lost. -/
def memoryInitialiseEnd (s : State) : State :=
  if !s.memc.initialising then s
  else
    let s : State := { s with
      memc.initialising := false, age.mapReady := false, age.seeded := false, bist.stateReady := false
      bist.tablesValid := false, geom.valid := false }
    if s.memLost then endLong 7 s else endLong 0 { s with mem := [], memc.initDone := true }

/-! ### Other events -/

/-- SYSCLK_LOSS outside Keep and Off: handled as a falling edge of PWRFAIL_N (R435) (DEDUCED, log 84). -/
def sysclkLoss (s : State) : State := if s.power.state = .keep then s else powerFail s.nvs.vhold s

/-- The device identification register: REVISION [3:0], 0x1610, the manufacturer code of the BSDL file, and 1 (R445). -/
def State.idcode (s : State) : Nat := at_ (fld s.fuse.rev 3 0) 28 + at_ 0x1610 12 + at_ (Config.manufacturer % 2048) 1 + 1

/-- JTAG_INSTRUCTION: the instruction takes its place; IDCODE lays the identification register on TDO; EXTEST, CLAMP and HIGHZ
are a Fatal detection of AON_UE (R386, R445). -/
def jtagInstruction (i : JtagInstr) (s : State) : State :=
  let s : State := { s with glob.jtag := i }
  match i with
  | .bypass | .samplePreload => s
  | .idcode => s.emit (.idcode s.idcode)
  | .extest | .clamp | .highz => detect 6 0 s

/-- ENGINE_WATCHDOG: a running engine has missed its heartbeat for 4 µs (R386, R393). -/
def engineWatchdog (e : Nat) (s : State) : State := if (s.engine e).running then engineFail e 1 s else s

/-- MEMORY_SCRUB of a row: class-4 traffic, and what the check of the row found (R31, R397); its requests stand in the
host interface's group (DESIGN CHOICE, log 92). -/
def memoryScrub (m row : Nat) (c : Check) (s : State) : State :=
  if !s.memc.trained || s.power.selfRefresh || s.power.coreOff || (s.channel m).lost then s
  else
    let s := memRequest m 4 8 16 s
    match c with
    | .dramCe _ _ => dramCe m row s
    | .dramUe _ _ => dramUe m row s
    | _ => s

/-- The codec context of the spare pipe takes the settings of the replaced one (R394). -/
def copyCodec (i sp : Nat) (s : State) : State :=
  let s := s.wr (.codecDeg sp) (s.rd (.codecDeg i))
  let s := (s.wr (.codecCtl sp) (s.rd (.codecCtl i))).wr (.codecGov sp) (s.rd (.codecGov i))
  let c := s.codec i
  s.modCodec sp fun d => { d with ctl := c.ctl, gov := c.gov, deg := c.deg, skip := c.skip }

/-- What the spare takes over of the open frame from the context it replaces: its abandonment and its share of S (R247). -/
def takeCodec (i new : Nat) (s : State) : State :=
  let c := s.codec i
  s.modCodec new fun d => { d.newFrame with
    laid := frameBits c (s.pipe i).frame, raw := c.raw, nCoded := c.nCoded, nRaw := c.nRaw, abandoned := c.abandoned }

/-- What the spare takes over of the pipe it replaces: the tables as last loaded (R146) (DEDUCED, log 100), the values of the
open window (R125, R319), and the alert. -/
def takePipe (i new : Nat) (s : State) : State :=
  let old := s.pipe i
  s.modPipe new fun q => { q with
    load := old.load, reload := old.reload, work := old.work, layers := old.layers, frame := old.frame, period := old.period
    n := old.n, waiting := old.waiting, alert := old.alert, opened := old.opened, yielded := old.yielded, todo := [], col := 0
    dirty := true, sentWhole := false }

/-- PIPE_TAKEOVER_END of a span: the spare pipe has loaded its tables and serves the port from the next window; a sweep
starts again in it from its first row (R394, R398, R403). -/
def pipeTakeoverEnd (sp : Nat) (s : State) : State :=
  match (s.span sp).pipeTakeover with
  | none => s
  | some p =>
    let i := s.pipeOf p
    let new := 32 + sp
    let cause := (s.span sp).pipeCause
    let s := s.modSpan sp fun x => { x with pipeTakeover := none }
    if bit (s.span sp).pipeFailed 4 then detectLasting (spanUnit sp) 6 s
    else
      let sweep := (s.pipe i).sweep
      let s := takePipe i new (takeCodec i new (copyCodec i new s))
      let s := s.modSpan sp fun x => { x with slots := x.slots.set (p % 4) 4 }
      let s := s.modPipe i fun q => { q with waiting := none, sweep := none, todo := [] }
      let s := { s with alert.await := s.alert.await.filter (· != i) }
      let s := match sweep with
        | some region => sweepAgain new p region s
        | none => s
      engaged (0x1000 + sp) 1 2 cause i new (sourceIndex (spanUnit sp) 5) 20 s
        |> spareEvent (0x1000 + sp) 3 [2 + at_ cause 8, i, new]

end Sys2Proof.Machine
end

