-- ==== Sys2Proof/Machine/Forced.lean ====
section
/-!
DEFINITION. Forced detections (R385), writes of FAULT_ENABLE (R383), and the return from Clove (R390).
-/

namespace Sys2Proof.Machine

/-- The condition of source k of unit u lasts. -/
def holdLive (u k : Nat) (s : State) : State :=
  s.setFault u { s.fault u with live := withBit (s.fault u).live k true }

/-- A free choice among n units, which the spec does not make for a forced detection. -/
def freePick (n : Nat) (s : State) : Nat := Config.freeValue s.free % n

/-- What a forced detection of an engine's source does (R385, R393, R395, R399). -/
def forcedEngine (e k : Nat) (s : State) : State :=
  let sp := e / 9
  let out := fun (st : State) => st.modEngine e fun g => { g with failed := true, running := false }
  match k with
  | 0 =>
    let s := s.modEngine e fun g => { g with ce := min (g.ce + 1) 0xFFFF }
    if s.f .faultgLimits 23 8 ≤ (s.engine e).ce then engineFail e 2 s else s
  | 1 =>
    if (s.engine e).failed then s
    else if e % 9 = 8 then
      (if s.spareEngine sp then
        holdLive (engineUnit e) 1 (out s)
          |> engaged (0x1000 + sp) 2 7 1 e e (sourceIndex (engineUnit e) 1) 20
          |> spareEvent (0x1000 + sp) 3 [7 + at_ 1 8, e, e]
      else s)
    else if s.spareEngine sp then
      holdLive (engineUnit e) 1 ((out s).modEngine e fun g => { g with takeover := true, cause := 1 })
    else s
  | 2 => holdLive (engineUnit e) 2 (out s)
  | _ => s

/-- What a forced detection of a span's source does: which row and which pipe is open (R385, R394 to R396). -/
def forcedSpan (sp k : Nat) (s : State) : State :=
  let u := spanUnit sp
  let fail := fun (slot : Nat) (st : State) =>
    st.modSpan sp fun x => { x with pipeFailed := withBit x.pipeFailed slot true }
  let p := 4 * sp + freePick 4 s
  let i := s.pipeOf p
  match k with
  | 3 =>
    let array := freePick 16 s
    let row := Config.freeValue (s.free + 1) % 65536
    let used := ((s.span sp).sramRepairs.filter fun r => r.1 == array).length
    if used < 4 then
      let failed := at_ sp 28 + at_ array 16 + row
      let s := (s.modSpan sp fun x => { x with sramRepairs := x.sramRepairs ++ [(array, row)] })
        |> engaged (0x1000 + sp) 1 4 1 failed used (sourceIndex u 3) 21
      (if used = 3 then spareEvent (0x1000 + sp) 3 [4 + at_ 1 8, failed, used] s else s).tickFree.tickFree
    else s.tickFree.tickFree
  | 5 =>
    if s.sparePipe sp && !s.pipeBad i then
      ((abandonFrame i false (fail (pipeSlot i) s)).modSpan sp fun x => { x with pipeTakeover := some p, pipeCause := 1 }).tickFree
    else s.tickFree
  | 6 => (holdLive u 6 (abandonFrame i false (fail (pipeSlot i) s))).tickFree
  | 7 =>
    if s.sparePipe sp then
      engaged (0x1000 + sp) 2 7 1 (32 + sp) (32 + sp) (sourceIndex u 7) 20 (fail 4 s)
        |> spareEvent (0x1000 + sp) 3 [7 + at_ 1 8, 32 + sp, 32 + sp]
    else s
  | _ => s

/-- What a forced detection of a port's source does: which lane, or where a chain splits, is open (R270, R273, R385). -/
def forcedPort (p k : Nat) (s : State) : State :=
  let l := freePick 2 s
  let q := s.port p
  match k with
  | 0 =>
    if bit q.inService l && !bit q.inService 2 && !bit q.retired 2 then
      (laneRetired p l 0 1 2 (dsTakesOver p (retireLane p l s))).tickFree
    else s.tickFree
  | 1 => if bit q.inService l then (laneRetired p l 1 3 l (holdLive (portUnit p) 1 (wakeLanes p (retireLane p l s)))).tickFree
         else s.tickFree
  | 2 =>
    if q.state = 0 then s
    else
      dropTiles p (chainEvent p 2 0 0 5
        (leaveUp p (holdLive (portUnit p) 2 (s.modPort p fun q => { q with state := 5 }))))
  | 3 =>
    let feed := s.chainOf p
    (splitChainWith (holdLive (portUnit feed) 3) feed (freePick ((s.chain feed).tiles + 1) s) s).tickFree
  | 5 => holdLive (portUnit p) 5 (s.modPort p fun q => { q with uLost := true })
  | _ => s

/-- What a forced detection of a memory channel's source does: which row is open (R385, R397). -/
def forcedChannel (m k : Nat) (s : State) : State :=
  let c := s.channel m
  match k with
  | 1 =>
    let row := freePick (2 ^ 24) s
    if c.remaps.length < 64 then
      dramRemapped m row 1 c (zeroWords m (s.setChannel m { c with remaps := c.remaps ++ [row] }).tickFree)
    else s.tickFree
  | 2 => haltScan { holdLive (channelUnit m) 2 (s.setChannel m { c with lost := true }) with memLost := true }
  | _ => s

/-- What a forced detection of source k of unit u engages, withdraws or loses (R385) (DESIGN CHOICE, log 35). -/
def forcedAction (u k : Nat) (s : State) : State :=
  if u < 14 then s
  else if u < 22 then forcedSpan (u - 14) k s
  else if u < 94 then forcedEngine (u - 22) k s
  else if u < 126 then forcedPort (u - 94) k s
  else if u < 166 then s
  else forcedChannel (u - 166) k s

/-- The source positions that a value's bits name in unit u (R379, R386). -/
def sourcesOf (u bits : Nat) : List Nat := (List.range (positions u)).filter fun k => bit bits k && (severity u k).isSome

/-- FAULT_FORCE, accepted: one forced detection of each named source, with its action unless DRY (R385). -/
def faultForce (u bits : Nat) (s : State) : State :=
  let ks := sourcesOf u bits
  let s := detectGroup u ks true false s
  if s.dry then s else faultActions u ks true (forEach ks (fun k st => forcedAction u k st) s)

/-- Does the value force a Halt or Fatal source (R385)? -/
def forcesHalt (u bits : Nat) : Bool := (sourcesOf u bits).any fun k => decide (2 ≤ (severity u k).getD 0)

/-- FAULT_ENABLE, accepted: the enable bits, and the vector of each set bit whose sticky bit is 1 (R383)
(DEDUCED, log 78). -/
def faultEnable (u v : Nat) (s : State) : State :=
  let e := v % 2 ^ positions u
  let s := s.setFault u { s.fault u with enable := e }
  forEach ((List.range (positions u)).filter fun k => bit e k && bit (s.fault u).sticky k)
    (fun k st => sendMsix (st.f (.faultgVector (sourceIndex u k)) 10 0) st) s

/-- Is the sticky bit of any Halt source 1 (R390)? -/
def State.haltSticky (s : State) : Bool :=
  s.faults.any fun f => (List.range (positions f.1)).any fun k => bit f.2.sticky k && severity f.1 k == some 2

/-- May RESUME be accepted (R390)? -/
def State.resumeAllowed (s : State) : Bool := !s.faultg.fatal && !s.haltSticky && s.faultg.clove

/-- RESUME, accepted: Clove ends, ALIVE restarts, and the RESUME SYNs follow (R390). -/
def cloveLeave (s : State) : State :=
  let s := forEach (List.range 32) (fun p st => st.modPort p fun q => { q with clove := false }) s
  let alive := s.power.state != .off && !(s.power.state == .keep && !s.time.timeclk)
  let s := { s with
    faultg.clove := false, faultg.firstSource := 0, faultg.firstSeverity := 0, faultg.firstForced := false
    faultg.firstValid := false, faultg.firstTime := 0, faultg.cloveSeverity := 0, faultg.alive := alive }
  let s := if alive then s.emit (.alive true) else s
  if s.scan.state = .running then { s with faultg.resumeFrames := 16 }
  else forEach s.upPorts (fun p st =>
    sendSyn p (st.scan.frame % 2 ^ 32) 4 (st.modPort p fun q => { q with resumeLeft := 15 })) s

end Sys2Proof.Machine
end

