-- ==== Sys2Proof/Machine/RegRead.lean ====
section
/-!
DEFINITION. What every register reads as (R6, R36): the stored value of a register that the host writes, the shadow of
an RWS field (R50), the working value of a wide register (R52), 0 for WO fields, and the live value of an RO field.
-/

namespace Sys2Proof.Machine

/-- The sum of the parts of a register, each a value at a bit position. -/
def fields (l : List (Nat × Nat)) : Nat := l.foldl (fun a x => a + at_ x.2 x.1) 0

/-- Bit k of the sticky bits of unit u, as 0 or 1. -/
def State.stickyN (s : State) (u k : Nat) : Nat := bitN (s.fault u).sticky k

/-- The low half of a wide value (R51). -/
def lo32 (n : Nat) : Nat := n % 2 ^ 32

/-- The high half of a wide value (R51). -/
def hi32 (n : Nat) : Nat := n / 2 ^ 32 % 2 ^ 32

/-- The first record of the access-error log, or the header of no request (R44). -/
def State.accRec (s : State) : AccErr := s.host.accErr.getD ⟨0, ⟨false, 0, 0, 0, 0, 0⟩⟩

/-- The LENGTH that the log shows: 0 for a zero-length read, a read of one DW with no byte enabled (R42, R44). -/
def logLength (h : ReqHdr) : Nat := if !h.write && h.lenDw ≤ 1 && h.fbe == 0 then 0 else h.lenDw

/-- HOSTIF_ACC_ERR_INFO (R44). -/
def State.accInfo (s : State) : Nat :=
  let r := s.accRec
  fields [(0, r.kind), (4, b2n r.hdr.write), (8, r.hdr.fbe), (12, r.hdr.lbe), (16, logLength r.hdr), (28, b2n (r.hdr.bar == 2)),
    (31, b2n s.host.accErr.isSome)]

/-- SCAN_GENLOCK_MEAS (R126): the last measured period, or all ones when no edge has come within 2 × NOMINAL. -/
def State.genlockMeas (s : State) : Nat :=
  match s.scan.lastEdge with
  | none => 0x7FFFFF
  | some e => if 2 * s.nominal < s.cycles - e then 0x7FFFFF else satU s.scan.measured 23

/-- The current line of the timing period; 0 outside RUNNING and STOPPING (R126). -/
def State.scanLine (s : State) : Nat :=
  match s.scan.state, s.scan.lastStart with
  | .running, some t | .stopping, some t => (s.cycles - t) / s.f .scanLineTiming 15 0
  | _, _ => 0

/-- SCAN_POSITION; a line number beyond 16 bits reads as a free value, for the spec states none (DEDUCED, log 15). -/
def State.scanPosition (s : State) : Nat :=
  let l := s.scanLine
  fields [(0, if l < 65536 then l else Config.freeValue s.free % 65536), (16, b2n (s.f .scanLineTiming 31 16 ≤ l))]

/-- The alert of the working alert state, or none (R324). -/
def State.alertShown (s : State) : AlertSurf := s.alert.work.getD ⟨{}, 0, 0, 0⟩

/-- The pipes that sweep (R324). -/
def State.sweeps (s : State) : Nat := ((List.range 40).filter fun i => (s.pipe i).sweep.isSome).length

/-- BIST_STATUS (R208) (DEDUCED, log 57). -/
def State.bistStatus (s : State) : Nat :=
  let tempWait := s.bist.stateReady && s.bistTiles.any fun i => s.tilePending i && !(s.tileHop i).telValid
  fields [(0, b2n s.bist.tablesValid), (1, b2n s.bist.stateReady), (2, b2n s.bist.initialising), (3, b2n s.bist.checking),
    (4, b2n (!s.bist.recUpdates.isEmpty || !s.bist.recPasses.isEmpty)), (5, b2n s.bist.recovering), (6, b2n s.bistIdle),
    (7, b2n tempWait), (8, fld (s.fault 11).sticky 3 0)]

/-- The counts of BIST_ACTIVE (R208). -/
def State.bistActive (s : State) : Nat :=
  fields [(0, ((List.range 64).filter fun k => (s.update k).isSome).length),
    (8, ((List.range 64).filter fun k => (s.flight k).isSome).length),
    (16, ((List.range 64).filter fun k => (s.drive k).pass.isSome).length)]

/-- BIST_TILE_INFO of tile i (R208). -/
def State.bistTileInfo (s : State) (i : Nat) : Nat :=
  fields [(0, Tab.get 0 i s.bist.vop), (16, Tab.get 0 i s.bist.band),
    (20, b2n ((List.range 64).any fun k => (s.drive k).tile == some i)), (21, b2n (s.tileHop i).telValid)]

/-- The update entry of the recovery record that BIST_REC_SEL selects; zeros beyond the last (R208). -/
def State.recEntry (s : State) : RecUpdate := s.bist.recUpdates.getD (s.f .bistRecSel 5 0) ⟨0, 0, 0, 0, 0, 0, 0⟩

/-- RES_CELL_INFO of the cell that RES_CELL_SEL selects; 0 where it does not exist (R226). -/
def State.resCellInfo (s : State) : Nat :=
  let tile := s.f .resCellSel 11 0
  let n := s.f .resCellSel 17 12
  if (s.resCells tile).contains n then
    let c := s.cell (tile * 64 + n)
    fields [(0, c.state), (3, c.bstate), (5, c.policy), (7, b2n (c.captured && c.passed)), (16, satU c.still 16)]
  else 0

/-- MEMC_STATUS (R423). -/
def State.memcStatus (s : State) : Nat :=
  let fitted := match s.memc.fittedGiB with | 16 => 0 | 32 => 1 | 64 => 2 | _ => 3
  let ok := (List.range 16).filter fun m => bit s.memc.channelsOk m && !(s.channel m).lost
  fields [(0, b2n s.memc.trained), (1, b2n s.memc.initDone), (2, b2n s.memc.initialising), (4, fitted),
    (16, ok.foldl (fun a m => a + 2 ^ m) 0)]

/-- RING_STATUS of ring n (R62): only a submission ring stalls (DEDUCED, log 17). -/
def State.ringStatus (s : State) (n : Nat) : Nat :=
  let r := s.ring n
  fields [(0, b2n r.stopping), (1, b2n (s.ringBlocked n)), (2, b2n (s.ringKind n == 0 && s.ringStalled n)), (3, b2n r.armed),
    (4, b2n (s.ringKind n != 0 && s.ringFull n))]

/-- The pipe in slot j of span i (R9). -/
def pipeAt (i j : Nat) : Nat := if j < 4 then 4 * i + j else 32 + i

/-- ENGINE_STATUS of engine e (R458); the SERVES of a failed engine that is no spare keeps the engine's own j
(DEDUCED, log 16). -/
def State.engineStatus (s : State) (e : Nat) : Nat :=
  let g := s.engine e
  let j := e % 9
  let carried := (s.span (e / 9)).spareFor
  let role := if j < 4 then 0 else if j < 8 then 1 else if carried < 8 then 3 else 2
  let serves := if j < 8 then j else if g.failed || 8 ≤ carried then 0xF else carried
  fields [(0, role), (4, serves), (8, b2n g.failed), (9, b2n (g.running && !g.failed))]

/-- PORT_STATUS of port p (R280). -/
def State.portStatus (s : State) (p : Nat) : Nat :=
  let q := s.port p
  fields [(0, q.state), (3, q.role), (5, b2n q.degraded), (6, b2n q.split), (7, b2n q.noPartner), (8, b2n q.uLost),
    (16, q.splitHop)]

/-- PORT_HOP_STATUS of port p (R308): PRESENT while the hop is within reach. -/
def State.hopStatus (s : State) (p : Nat) : Nat :=
  let h := s.f (.portHopSel p) 7 0
  let y := s.hop p h
  fields [(0, b2n (s.reachable (128 * p + (h - 1)))), (1, b2n y.configured), (2, b2n y.mismatch), (3, b2n y.telValid), (4, b2n y.silent),
    (8, y.crack % 4), (16, y.fault % 256)]

/-- LANE_STATUS of lane l of port p (R280). -/
def State.laneStatus (s : State) (p l : Nat) : Nat :=
  let x := s.lane p l
  let dir := (s.port p).receives l
  fields [(0, x.state), (3, b2n (dir && x.clock)), (4, b2n x.sync), (5, b2n dir), (8, x.syncLosses)]

/-- CODEC_STATUS of context i (R248): SERVING for a port with tiles, and for the far feed of a cut looped chain; the PORT of a
context that serves none is a free value. -/
def State.codecStatus (s : State) (i : Nat) : Nat :=
  match s.portOf i with
  | some p => fields [(0, p), (5, b2n (s.isFeed p || (s.port p).split)), (8, s.codecMode p),
      (16, min 32 (backlogBits s p / 8192))]
  | none => Config.freeValue s.free % 32

/-- FAULTG_SPARES (R405). -/
def State.spares (s : State) : Nat :=
  let lane := fun p => let q := s.port p; q.role == 1 && !bit q.inService 2 && !bit q.retired 2
  fields [(0, ((List.range 8).filter s.spareEngine).length), (4, ((List.range 8).filter s.sparePipe).length),
    (8, ((List.range 32).filter lane).length)]

/-- FAULTG_PENDING word w (R405). -/
def State.faultPending (s : State) (w : Nat) : Nat :=
  (List.range 32).foldl (fun a j =>
    let u := sourceUnit (32 * w + j)
    a + at_ (s.stickyN u.1 u.2) j) 0

/-- FAULT_FIRST of unit u (R404). -/
def State.faultFirst (s : State) (u : Nat) : Nat :=
  match (s.fault u).first with
  | none => 0
  | some r => fields [(0, r.pos), (4, r.severity), (6, r.worst), (8, b2n r.forced), (31, 1)]

/-- TIME of the first-error record of unit u (R404). -/
def State.faultTime (s : State) (u : Nat) : Nat := match (s.fault u).first with | none => 0 | some r => r.time

/-- FAULTG_FIRST (R405). -/
def State.firstSafe (s : State) : Nat :=
  fields [(0, s.faultg.firstSource), (12, s.faultg.firstSeverity), (14, b2n s.faultg.firstForced), (31, b2n s.faultg.firstValid)]

/-- DW w of MSI-X table entry e (R34): address, upper address, data, vector control. -/
def MsixEntry.word (e : MsixEntry) : Nat → Nat
  | 0 => lo32 e.addr
  | 1 => hi32 e.addr
  | 2 => e.data % 2 ^ 32
  | _ => b2n e.mask

/-- DW i of the pending-bit array (R34). -/
def State.pbaWord (s : State) (i : Nat) : Nat :=
  (List.range 32).foldl (fun a j => a + at_ (b2n (Tab.get false (32 * i + j) s.host.pba)) j) 0

/-- NVS_STATUS (R378). -/
def State.nvsStatus (s : State) : Nat :=
  fields [(0, b2n s.nvs.reading), (1, s.nvs.lastOp), (8, s.nvs.result), (16, s.nvs.reason), (24, b2n s.nvs.saveValid),
    (25, b2n s.nvs.recordDropped), (26, s.nvs.saveKind)]

/-- NVS_LOCKS (R378). -/
def State.nvsLocks (s : State) : Nat :=
  fields [(0, wd s.nvs.fails 0), (2, wd s.nvs.fails 1), (4, wd s.nvs.fails 2), (6, wd s.nvs.fails 3), (8, s.nvs.locked)]

/-- The value that a read of a register returns (DEDUCED, log 74). -/
def regValue (r : Reg) (s : State) : Nat :=
  match r with
  | .globalId => 0x1DC91610
  | .globalMagic => 0x50475731
  | .globalVersion => s.fuse.rev % 256 + 0x100
  | .globalCaps => 0x001B2208
  | .globalUnlock => 0
  | .globalBusy => fields [(0, b2n s.glob.busy), (1, b2n s.glob.done), (2, s.glob.op), (8, s.glob.result), (16, b2n s.glob.unlocked)]
  | .globalStart => fields [(0, s.glob.phase), (4, b2n s.glob.ready), (8, s.glob.lastReset)]
  | .hostifLink => fields [(0, s.host.speed), (4, s.host.width), (9, b2n s.host.reversed)]
  | .hostifBar2Window => fields [(0, s.f .hostifBar2Window 7 0), (8, s.host.bar2Log)]
  | .hostifAccErrAddrLo => lo32 (s.accRec.hdr.offset / 4 * 4)
  | .hostifAccErrAddrHi => hi32 s.accRec.hdr.offset
  | .hostifAccErrInfo => s.accInfo
  | .hostifAccErrCount => s.host.accErrCount
  | .timeCountLo => lo32 s.timeNow
  | .timeCountHi => hi32 s.timeNow
  | .timeFlags => fields [(0, b2n s.time.coarse), (1, s.stickyN 2 1)]
  | .timeAlarmLo => lo32 s.time.alarm
  | .timeAlarmHi => hi32 s.time.alarm
  | .timeAlarmCtl => b2n s.time.arm
  | .powerReq => 0
  | .powerStatus => fields [(0, s.power.state.code), (3, b2n (s.power.move != .none)), (4, s.power.goal.code),
      (7, b2n s.power.serving), (8, b2n (s.power.resume == .trim))]
  | .powerIdleCount => s.power.idleCount
  | .powerWakeEn => s.rd .powerWakeEn + 1
  | .powerWakeSrc => s.power.wakeSrc
  | .powerVolt => fields [(0, s.fuse.runMv), (16, s.fuse.retMv)]
  | .powerAvsStatus => fields [(0, s.power.confirmedMv), (16, s.stickyN 3 0), (17, s.stickyN 3 1), (18, b2n s.power.avsStep.isSome)]
  | .nvsPassLo | .nvsPassHi | .nvsNewpassLo | .nvsNewpassHi => 0
  | .nvsStatus => s.nvsStatus
  | .nvsLocks => s.nvsLocks
  | .nvsHold => fields [(0, satU s.nvs.capUf 16), (16, satU s.nvs.vholdMv 16)]
  | .nvsEnergy => fields [(0, satU s.nvs.availUj 16), (16, satU s.nvs.needUj 16)]
  | .nvsFlags => fields [(0, fld (s.fault 4).sticky 4 0), (5, s.freeSpares.length)]
  | .nvsLife => s.nvs.life
  | .nvsCycles => lo32 s.nvs.cycles
  | .nvsSaveSeq => lo32 s.nvs.saveSeq
  | .nvsLogHead => lo32 s.nvs.logHead
  | .nvsLastTimeLo => lo32 s.nvs.lastTime
  | .nvsLastTimeHi => hi32 s.nvs.lastTime
  | .nvsTileSeconds => Tab.get 0 (s.f .nvsTileSel 11 0) s.nvs.tileSeconds
  | .fuseStatus => fields [(0, b2n s.fuse.readDone), (1, b2n s.fuse.trimsDone), (2, b2n s.fuse.ue), (8, s.fuse.ce), (16, s.fuse.steps)]
  | .fuseCtl => 0
  | .fuseWord => s.fuseWord (s.f .fuseWordSel 7 0)
  | .fuseIdLo => lo32 s.fuse.id
  | .fuseIdHi => hi32 s.fuse.id
  | .fuseRev => s.fuse.rev % 65536
  | .faultgSafe => fields [(0, b2n s.faultg.clove), (1, b2n s.faultg.fatal), (2, b2n s.faultg.alive)]
  | .faultgFirst => s.firstSafe
  | .faultgFirstTimeLo => lo32 s.faultg.firstTime
  | .faultgFirstTimeHi => hi32 s.faultg.firstTime
  | .faultgTest => fields [(0, s.rd .faultgTest % 2), (1, b2n s.faultg.testRan), (2, b2n s.faultg.testFailed)]
  | .faultgSpares => s.spares
  | .faultgPending w => s.faultPending w
  | .scanStatus => fields [(0, s.scan.state.code), (3, b2n s.scan.locked), (4, b2n s.scan.holdover), (8, s.scan.slips)]
  | .scanGenlockMeas => s.genlockMeas
  | .scanFrameLo => lo32 s.scan.frame
  | .scanFrameHi => hi32 s.scan.frame
  | .scanLatchFrame => lo32 s.scan.latchFrame
  | .scanPosition => s.scanPosition
  | .scanGeomCtl => 0
  | .scanGeomStatus => fields [(0, b2n s.geom.busy), (1, b2n s.geom.valid), (4, s.geom.error), (8, s.geom.port), (16, s.geom.hop)]
  | .scanAlertStatus => fields [(0, b2n s.alert.work.isSome), (1, b2n (s.sweeps ≠ 0)), (8, s.sweeps)]
  | .scanAlertPos => fields [(0, s.alertShown.x), (16, s.alertShown.y)]
  | .scanAlertSize => fields [(0, s.alertShown.surf.w), (16, s.alertShown.surf.h)]
  | .scanAlertAddrLo => lo32 s.alertShown.surf.addr
  | .scanAlertAddrHi => hi32 s.alertShown.surf.addr
  | .scanAlertFmt => fields [(0, s.alertShown.surf.format), (2, s.alertShown.surf.encoding), (8, s.alertShown.alpha)]
  | .scanAlertPitch => s.alertShown.surf.pitch
  | .scanAlertLatency => satU s.alert.latency 24
  | .scanAlertCounts => fields [(0, s.alert.changes), (16, s.alert.yielded)]
  | .layerOverStatus => s.stickyN 8 0
  | .layerSurfAddrLo n => lo32 (s.layer n).addr
  | .layerSurfAddrHi n => hi32 (s.layer n).addr
  | .layerSurfSize n => fields [(0, (s.layer n).w), (16, (s.layer n).h)]
  | .layerSurfPitch n => (s.layer n).pitch
  | .layerSurfFmt n => fields [(0, (s.layer n).format), (2, (s.layer n).encoding), (4, b2n (s.layer n).bound)]
  | .emitReload => 0
  | .emitStatus => fields [(0, b2n s.emitter.pending), (1, s.stickyN 9 0)]
  | .ageStatus => fields [(0, b2n s.age.mapReady), (1, b2n s.age.clearing), (2, b2n s.age.seeded), (3, b2n s.logPending),
      (4, fld (s.fault 10).sticky 5 0)]
  | .ageEpoch => lo32 s.age.epoch
  | .ageCkptSize => lo32 s.ckptWorst
  | .bistStatus => s.bistStatus
  | .bistActive => s.bistActive
  | .bistCheckResult => s.bist.checkResult
  | .bistTileInfo => s.bistTileInfo (s.f .bistTileSel 11 0)
  | .bistRecCount => fields [(0, s.bist.recUpdates.length), (8, s.bist.recPasses.length)]
  | .bistRecRegion => fields [(0, s.recEntry.cx), (16, s.recEntry.cy)]
  | .bistRecSize => fields [(0, s.recEntry.cw), (16, s.recEntry.ch)]
  | .bistRecTargetLo => lo32 s.recEntry.addr
  | .bistRecTargetHi => hi32 s.recEntry.addr
  | .bistRecPitch => s.recEntry.pitch
  | .resCounts => if s.res.off then 0 else (s.allCells.filter fun k => (s.cell k).f == 0).length
  | .resFlags => s.stickyN 12 0
  | .resCellInfo => s.resCellInfo
  | .memcInit => 0
  | .memcStatus => s.memcStatus
  | .memcRepairs => fields [(0, s.memc.repairsDone), (8, satU ((List.range 16).foldl (fun a m => a + (s.channel m).repairs.length) 0) 8)]
  | .ringHwIndex n => (s.ring n).hw
  | .ringSwIndex n => (s.ring n).sw
  | .ringStatus n => s.ringStatus n
  | .ringDropped n => (s.ring n).dropped
  | .spanParkStatus i => s.parked i
  | .spanBoundsAddrLo i => match (s.span i).bounds with | none => 0 | some b => lo32 b.addr
  | .spanBoundsAddrHi i => match (s.span i).bounds with | none => 0 | some b => hi32 b.addr
  | .spanBoundsInfo i => match (s.span i).bounds with
      | none => 0
      | some b => fields [(0, b.ring), (16, b.opcode), (24, b.field), (31, 1)]
  | .spanBoundsCount i => (s.span i).boundsCount
  | .spanLbStatus i j => fields [(0, (s.pipe (pipeAt i j)).fill), (8, b2n (s.pipe (pipeAt i j)).urgent),
      (16, (s.pipe (pipeAt i j)).underruns)]
  | .spanPipeMap i => fields [(0, s.pipeMapBits i), (16, (s.span i).pipeFailed)]
  | .spanEngineMap i => fields [(0, (s.span i).spareFor), (8, s.engineFailed i)]
  | .engineStatus e => s.engineStatus e
  | .engineCeCount e => (s.engine e).ce
  | .portStatus p => s.portStatus p
  | .portLanes p => fields [(0, (s.port p).inService), (4, (s.port p).idle), (8, (s.port p).retired % 8)]
  | .portAlarm p => fields [(0, (s.port p).alarmHop), (8, (s.port p).alarmMask), (16, (s.port p).alarmCount)]
  | .portCrcErr p => (s.port p).crcErr
  | .portCntClear _ => 0
  | .portEnum p => fields [(0, (s.port p).depth), (8, (s.port p).found), (16, (s.port p).mismatch),
      (24, b2n ((s.port p).enum != .idle)), (25, b2n (s.port p).done)]
  | .portHopStatus p => s.hopStatus p
  | .portHopTel p => fields [(0, (s.hop p (s.f (.portHopSel p) 7 0)).temp % 65536),
      (16, (s.hop p (s.f (.portHopSel p) 7 0)).ambient % 65536)]
  | .portFrameErr p => (s.port p).frameErr
  | .laneStatus p l => s.laneStatus p l
  | .laneCv p l => (s.lane p l).cv
  | .laneDisp p l => (s.lane p l).disp
  | .lanePrbsErr p l => (s.lane p l).prbsErr
  | .laneSymbolsLo p l => lo32 (s.lane p l).symbols
  | .laneSymbolsHi p l => hi32 (s.lane p l).symbols
  | .laneInjected p l => (s.lane p l).injected
  | .laneDfe p l => if (s.lane p l).adapts then Config.freeValue s.free % 2 ^ 30 else (s.lane p l).taps
  | .laneEye _ _ => Config.freeValue s.free % 2 ^ 16
  | .codecStatus i => s.codecStatus i
  | .codecFlags i => fld (s.fault (codecUnit i)).sticky 1 0
  | .codecFrameBits i => lo32 (s.codec i).frameBits
  | .codecRawBits i => lo32 (s.codec i).rawBits
  | .codecBlocks i => fields [(0, satU (s.codec i).blocksCoded 16), (16, satU (s.codec i).blocksRaw 16)]
  | .codecCounts i => fields [(0, (s.codec i).wakes), (16, (s.codec i).skips)]
  | .doorbell n => (s.ring n).sw
  | .faultStatus u => (s.fault u).sticky
  | .faultLive u => (s.fault u).live
  | .faultEnable u => (s.fault u).enable
  | .faultForce _ => 0
  | .faultFirst u => s.faultFirst u
  | .faultFirstTimeLo u => lo32 (s.faultTime u)
  | .faultFirstTimeHi u => hi32 (s.faultTime u)
  | .faultMerge u => (s.fault u).merge
  | .msixTable i => (s.msixEntry (i / 4)).word (i % 4)
  | .msixPba i => s.pbaWord i
  | _ => s.rd r

end Sys2Proof.Machine
end

