-- ==== Sys2Proof/Machine/RegTests.lean ====
section
/-!
DEFINITION. The tests that a BAR0 request meets (R39), and what a refusal does (R40 to R46): the access-error log, the
AER report and the detection of HOSTIF ACC_ERR.
-/

namespace Sys2Proof.Machine

/-! ### Refusal (R41, R42) -/

/-- The header of a request, as the log and the AER Header Log take it; `bar` is 0 or 2. -/
def reqHdr (write : Bool) (bar : Nat) (q : Req) : ReqHdr :=
  { write := write, bar := bar, offset := q.offset, lenDw := q.lenDw, fbe := q.fbe, lbe := q.lbe }

/-- The AER report of an error whose Uncorrectable Error Status bit is k (R41): with non-fatal severity a read's error is
an Advisory Non-Fatal one; the severity and mask settings of the host govern the message (PRESUMED, log 10). -/
def aerReport (advisory : Bool) (k : Nat) (h : ReqHdr) (s : State) : State :=
  let masked := bit s.host.aerMask k
  let s := { s with host.aerUncor := withBit s.host.aerUncor k true, host.headerLog := some h }
  if bit s.host.aerSev k then (if masked then s else s.emit (.aerMessage 2))
  else if advisory then
    let s := { s with host.aerCor := withBit s.host.aerCor 13 true }
    if masked || bit s.host.aerCorMask 13 then s else s.emit (.aerMessage 0)
  else if masked then s else s.emit (.aerMessage 1)

/-- The access-error log takes a refusal (R42): the first record is kept, each later one is counted. -/
def accErrLog (kind : Nat) (h : ReqHdr) (s : State) : State :=
  match s.host.accErr with
  | none => { s with host.accErr := some { kind := kind, hdr := h } }
  | some _ => { s with host.accErrCount := inc16 s.host.accErrCount }

/-- A request to BAR 0 or 2 is refused with a kind: the log, AER, the detection of HOSTIF ACC_ERR, and the completion of a
read in error (R41, R42). -/
def refuse (bar : Nat) (write : Bool) (kind : Nat) (q : Req) (s : State) : State :=
  let h := reqHdr write bar q
  let s := detectNote 1 0 (aerReport (!write) (if kind = 1 then 20 else 15) h (accErrLog kind h s))
  if write then s else s.emit (if kind = 1 then .readUnsupported bar q.offset else .readAbort bar q.offset)

/-! ### Steps 1 and 2 -/

/-- Is the register in the MSI-X table or the pending-bit array (R34)? -/
def Reg.isMsix : Reg → Bool
  | .msixTable _ => true
  | .msixPba _ => true
  | _ => false

/-- An aligned 8-byte request (R34). -/
def reqEight (q : Req) : Bool := q.lenDw == 2 && q.fbe == 15 && q.lbe == 15 && q.offset % 8 == 0

/-- Step 2 (R33, R34). -/
def widthOk (r : Reg) (q : Req) : Bool := (q.lenDw == 1 && q.fbe == 15) || (r.isMsix && reqEight q)

/-- The register that a request addresses (step 1): that of the aligned DW of its lowest byte. -/
def reqReg (q : Req) : Option Reg := locate (q.offset / 4 * 4)

/-! ### Step 3 and the state test of every write -/

/-- Writes that GLOBAL_BUSY never refuses (R57, R34). -/
def Reg.busyExempt (r : Reg) : Bool :=
  r.onlyW1C || r.isMsix || (match r with | .doorbell _ => true | _ => false)

/-- GLOBAL_BUSY refuses a write (R55, R57); the BAR2 window is accepted during a memory initialise (R456) (DEDUCED, log 9). -/
def Reg.busyBars (r : Reg) (s : State) : Bool :=
  s.glob.busy && !r.busyExempt && !(r == .hostifBar2Window && s.glob.op == 5)

/-- A state in which every write is refused with kind 6, but for the exceptions that it names: before PHASE reads 8
(R411), in Off (R327), after a Fatal detection (R391). -/
def stateBars (r : Reg) (v : Nat) (s : State) : Bool :=
  if r.isMsix then false
  else if s.power.state == .off then true
  else if r.onlyW1C then false
  else if s.glob.phase ≠ 8 then true
  else s.faultg.fatal && !(r == .powerReq && v % 8 == 4)

/-! ### Step 6: busy -/

/-- Does a ring command of the store run (R56)? -/
def State.ringNvs (s : State) : Bool :=
  s.jobs.any fun j => (j.opcode == 11 || j.opcode == 12 || j.opcode == 13) && j.stage == .running

/-- A shadowed register while its group's commit bit reads 1; the commit bit itself may be written (R50). -/
def shadowBusy (r : Reg) (s : State) : Bool :=
  match r.group with
  | some g => r != commitReg g && s.b (commitReg g) 0
  | none => false

/-- Step 6 of R39: the busy condition of the register's chapter holds. -/
def regBusy (r : Reg) (v : Nat) (s : State) : Bool :=
  match r with
  | .scanWallSize | .scanFamilyBaseLo | .scanFamilyBaseHi | .scanTileTableBaseLo | .scanTileTableBaseHi | .scanGeomRate
  | .scanGeomCtl | .scanChain _ => s.geom.busy
  | .ringCtl n => bit v 0 && !s.ringOn n && (s.ring n).stopping
  | .ageCtl => bit v 3 && s.age.clearing
  | .bistCtl => fld v 4 1 ≠ 0 && (s.bist.initialising || s.bist.checking || s.bist.recovering)
  | .memcInit => bit v 0 && (s.memc.initialising || s.geom.busy)
  | .powerReq => s.power.move != .none
  | .nvsCmd => s.nvs.reading || ((v % 8 == 2 || v % 8 == 3) && s.ringNvs)
  | .nvsRange | .nvsBuf _ => s.nvs.reading
  | .nvsKeyCtl => bit v 3 && s.ringNvs
  | _ => shadowBusy r s

/-! ### Step 7: state -/

/-- Scan-out is running: any state but STOPPED (R110). -/
def State.scanRuns (s : State) : Bool := s.scan.state != .stopped

/-- A transition to Hold or Keep runs (R112). -/
def State.enteringHold (s : State) : Bool := match s.power.move with | .entry _ _ => true | .keepEntry => true | _ => false

/-- The step-7 test of SCAN_CTL (R111, R112, R126). -/
def scanCtlState (v : Nat) (s : State) : Bool :=
  match bit v 0, bit v 1 with
  | true, true => false
  | true, false => !s.startAllowed
  | false, true => s.scan.state == .stopping || s.scan.state == .stopped || s.scan.state == .held || s.enteringHold
  | false, false => s.scanRuns

/-- The shadows of an enabled layer break the bounds of R119. -/
def State.layerBreaks (s : State) (n : Nat) : Bool :=
  let bad := fun crop win => 4 * win < crop || 64 * crop < win
  s.b (.layerCtl n) 0 &&
    (bad (s.f (.layerCropSize n) 15 0) (s.f (.layerWinSize n) 15 0) || bad (s.f (.layerCropSize n) 31 16) (s.f (.layerWinSize n) 31 16))

/-- Is ring n an enabled ring of a kind? -/
def State.ringIs (s : State) (n kind : Nat) : Bool := s.ringOn n && s.ringKind n == kind

/-- The enabled submission rings; each has a context that differs from reset (R63). -/
def State.submissionRings (s : State) : List Nat := (s.rings.map (·.1)).filter fun m => s.ringIs m 0

/-- The step-7 test of RING_CTL (R63, R64). -/
def ringCtlState (n v : Nat) (s : State) : Bool :=
  match bit v 0, s.ringOn n with
  | true, false => s.ringKind n == 0 && (!s.ringIs (s.ringCq n) 1 ||
      (s.ringClass n == 0 && decide (16 ≤ (s.submissionRings.filter fun m => s.ringClass m == 0).length)))
  | false, true =>
    (s.ringKind n == 1 && s.submissionRings.any fun m => s.ringCq m == n) ||
    (s.ringKind n == 2 && (List.range 16).any fun c =>
      s.b (.hostifEventRoute c) 16 && s.f (.hostifEventRoute c) 12 0 == n)
  | _, _ => false

/-- The step-7 test of AGE_CTL (R175). -/
def ageCtlState (v : Nat) (s : State) : Bool :=
  ((bit v 0 && !s.b .ageCtl 0 || bit v 1 && !s.b .ageCtl 1) && !s.age.mapReady) ||
  (bit v 3 && (s.scanRuns || s.b .ageCtl 0 || !s.geom.valid))

/-- A recovery record is held (R205). -/
def State.recordHeld (s : State) : Bool := !s.bist.recUpdates.isEmpty || !s.bist.recPasses.isEmpty

/-- TABLES_VALID, STATE_READY and SCAN_GEOM_STATUS.VALID are all 1. -/
def State.bistReady (s : State) : Bool := s.bist.tablesValid && s.bist.stateReady && s.geom.valid

/-- The step-7 test of BIST_CTL (R208). -/
def bistCtlState (v : Nat) (s : State) : Bool :=
  let passes := (List.range 64).any fun k => (s.drive k).pass.isSome
  (bit v 0 && !s.b .bistCtl 0 && !s.bistReady) ||
  ((bit v 1 || bit v 2) && (bit v 0 || passes)) ||
  (bit v 3 && !(s.recordHeld && s.bist.stateReady && s.bist.tablesValid && bit v 0)) ||
  (bit v 4 && !s.recordHeld)

/-- The step-7 test of PORT_CTL of port p (R280). -/
def portCtlState (p v : Nat) (s : State) : Bool :=
  let old := s.rd (.portCtl p)
  (bit v 0 && !bit old 0 && roleOf s p == 0 && !bit v 1) || (bit v 2 && !bit v 1) || (bit v 3 && (s.port p).state != 2) ||
  (bit old 0 && (bit v 1 != bit old 1 || bit v 2 != bit old 2))

/-- R276 lets a generator of lane l of port p run: DS while it is not in service, in UP or TEST, or any lane in TEST. -/
def State.genAllowed (s : State) (p l : Nat) : Bool :=
  let q := s.port p
  q.state == 4 || (l == 2 && q.state == 2 && !bit q.inService 2)

/-- The step-7 test of LANE_PRBS_CTL of lane l of port p (R280): under LOOPBACK each lane position both transmits and receives
(R276) (DEDUCED, log 113). -/
def prbsState (p l v : Nat) (s : State) : Bool :=
  let old := s.rd (.lanePrbsCtl p l)
  let rx := (s.port p).receives l
  (bit v 0 && !bit old 0 && ((rx && !s.loops p) || !s.genAllowed p l)) || (bit v 1 && !bit old 1 && !rx && !s.loops p) ||
  (fld v 3 2 ≠ fld old 3 2 && (bit old 0 || bit old 1))

/-- The step-7 test of MEMC_INIT (R420) (DEDUCED, log 20). -/
def State.memcInitBarred (s : State) : Bool :=
  !s.memc.trained || s.scanRuns || s.b .ageCtl 0 || s.b .ageCtl 1 || s.drive1 || s.b .resCtl 0 ||
    s.jobs.any fun j => opMemory j.opcode && j.stage != .fetched && j.stage != .stalled

/-- The step-7 test of FUSE_CTL (R418). -/
def State.fuseBarred (s : State) : Bool :=
  s.glob.phase ≠ 8 || s.scanRuns || (List.range 32).any fun p => (s.port p).state != 0

/-- Step 7 of R39, beyond the states of `stateBars`: the write is not allowed in the present state. -/
def regState (r : Reg) (v : Nat) (s : State) : Bool :=
  match r with
  | .scanWallSize | .scanFamilyBaseLo | .scanFamilyBaseHi | .scanTileTableBaseLo | .scanTileTableBaseHi | .scanGeomRate
  | .scanGeomCtl | .scanChain _ | .scanGenlockPeriod | .scanGenlockOffset | .scanLineTiming => s.scanRuns
  | .scanCtl => scanCtlState v s
  | .layerCommit => bit v 0 && (List.range 64).any s.layerBreaks
  | .ringBaseLo n | .ringBaseHi n | .ringCfg n => s.ringOn n
  | .ringCtl n => ringCtlState n v s
  | .doorbell n => !s.ringOn n
  | .hostifEventRoute _ => bit v 16 && !s.ringIs (fld v 12 0) 2
  | .ageCtl => ageCtlState v s
  | .ageStressBaseLo | .ageStressBaseHi => s.b .ageCtl 0 || s.age.mapReady
  | .ageTargetBaseLo | .ageTargetBaseHi => s.b .ageCtl 1
  | .bistStateBaseLo | .bistStateBaseHi | .bistParityBaseLo | .bistParityBaseHi => s.bist.stateReady
  | .bistCtl => bistCtlState v s
  | .resCtl => bit v 0 && !s.b .resCtl 0 && !s.bistReady
  | .resTargetBaseLo | .resTargetBaseHi => s.b .resCtl 0
  | .portCtl p => portCtlState p v s
  | .portTxCfg p => s.b (.portCtl p) 0
  | .lanePrbsCtl p l => prbsState p l v s
  | .powerReq => match PowerState.ofCode (v % 8) with | some t => powerRefused t s | none => false
  | .powerAvsCfg => s.host.l12
  | .timeAlarmLo | .timeAlarmHi => s.time.arm
  | .fuseCtl => bit v 0 && s.fuseBarred
  | .memcInit => bit v 0 && s.memcInitBarred
  | .faultForce u => forcesHalt u v && !s.b .faultgInject 0
  | .faultgSafe => bit v 3 && !s.resumeAllowed
  | _ => false

/-! ### Step 8: ranges -/

/-- Is n outside [lo, hi]? -/
def outside (n lo hi : Nat) : Bool := decide (n < lo ∨ hi < n)

/-- SCAN_WALL_SIZE (R26). -/
def wallSizeBad (v : Nat) : Bool :=
  let w := fld v 15 0
  let h := fld v 31 16
  w % 16 ≠ 0 || h % 16 ≠ 0 || 16384 < w || 10240 < h || (w == 0) != (h == 0)

/-- A doorbell index that the ring cannot take (R65, R66). -/
def doorbellBad (n v : Nat) (s : State) : Bool :=
  let i := fld v 15 0
  let size := s.ringSize n
  let r := s.ring n
  size ≤ i || (s.ringKind n ≠ 0 && decide ((r.hw + size - r.sw) % size < (i + size - r.sw) % size))

/-- Step 8 of R39: a written field is outside its range (R59). -/
def regRange (r : Reg) (v : Nat) (s : State) : Bool :=
  match r with
  | .hostifBar2Window => fld v 7 0 % 2 ^ s.host.bar2Log ≠ 0
  | .powerReq => 5 ≤ v % 8
  | .powerSelfref => fld v 31 16 == 0
  | .powerTiming => fld v 15 0 == 0 || fld v 23 16 == 0 || fld v 31 24 == 0
  | .powerLtr => fld v 9 0 == 0 || fld v 25 16 == 0
  | .powerAvsCfg => outside (fld v 3 0) 1 10 || outside (fld v 15 8) 10 255
  | .nvsCmd => 4 ≤ v % 8 || partPages (fld v 5 4) ≤ fld v 13 8 || (v % 8 == 3 && fld v 5 4 ≠ 3)
  | .nvsRange => 2048 < fld v 27 16 || 2048 < fld v 10 0 + fld v 27 16
  | .faultgLimits => fld v 7 0 == 0 || fld v 23 8 == 0
  | .scanCtl => bit v 0 && bit v 1
  | .scanGenlockPeriod => outside (fld v 22 0) 416667 4170838
  | .scanLineTiming => fld v 15 0 == 0 || fld v 31 16 == 0
  | .scanCompCfg => v % 4 == 3
  | .scanWallSize => wallSizeBad v
  | .scanGeomRate => outside (fld v 15 0) 2398 24000
  | .scanChain _ => 128 < fld v 7 0
  | .layerWinPos _ => signed v 16 < -16384 || 16383 < signed v 16 || signed (v / 65536) 16 < -16384 || 16383 < signed (v / 65536) 16
  | .layerWinSize _ => outside (fld v 15 0) 1 16384 || outside (fld v 31 16) 1 16384
  | .layerCropPos _ => 16383 < fld v 15 0 || 10239 < fld v 31 16
  | .layerCropSize _ => outside (fld v 15 0) 1 16384 || outside (fld v 31 16) 1 10240
  | .emitPqCfg => outside (fld v 13 0) 100 10000
  | .ageCtl => outside (fld v 26 16) 60 1920
  | .ageRef => fld v 15 0 < 0x4000 || fld v 31 16 < 0x8000
  | .agePeriods => fld v 15 0 < 60 || (fld v 31 16 ≠ 0 && fld v 31 16 < 60)
  | .bistCtl => 1 < ones (fld v 4 1) 4
  | .resTiming => fld v 7 0 == 0 || fld v 15 8 == 0
  | .resAmbient => fld v 19 16 == 0
  | .resRegionPos _ => fld v 15 0 % 16 ≠ 0 || fld v 31 16 % 16 ≠ 0
  | .resRegionSize _ => fld v 15 0 % 16 ≠ 0 || fld v 31 16 % 16 ≠ 0 || outside (fld v 15 0) 16 16384 || outside (fld v 31 16) 16 16384
  | .ringCfg _ => v % 4 == 3 || outside (fld v 8 4) 4 16
  | .doorbell n => doorbellBad n v s
  | .spanRingSched _ => fld v 7 0 == 0 || fld v 15 8 == 0 || fld v 23 16 == 0
  | .spanLbCfg _ => outside (fld v 7 0) 8 168
  | .portTxCfg _ => v % 4 == 3 || fld v 3 2 == 3
  | .portTiming _ => fld v 7 0 == 0
  | .portHopSel _ => outside (fld v 7 0) 1 128
  | .codecGov _ => fld v 7 0 == 0 || fld v 15 8 == 0 || fld v 20 16 == 0
  | .codecDeg _ => fld v 7 0 == 0 || fld v 15 8 == 0 || fld v 7 0 < fld v 15 8
  | _ => false

/-! ### GLOBAL_UNLOCK (R45) and the whole order -/

/-- The unlock key (R45). -/
def unlockKey : Nat := 0x5AFFC10E

/-- The kind with which a write of v to a register is refused, steps 3 to 8 of R39; none: it is accepted. A write of
GLOBAL_UNLOCK meets step 3, the state test, and then its own table (R45). No register holds a WOC field, so that step 5
refuses nothing. -/
def writeKind (r : Reg) (v : Nat) (s : State) : Option Nat :=
  if r.busyBars s then some 5
  else if r == .globalUnlock then
    if stateBars r v s then some 6 else if v = unlockKey ∨ v = 0 then none else some 3
  else if r.guarded && !s.glob.unlocked then some 3
  else if regBusy r v s then some 5
  else if stateBars r v s || regState r v s then some 6
  else if regRange r v s then some 7
  else none

/-- The lock re-arms after a write request to a guarded register, accepted or refused (R46); a request of several DW goes by
the register of its lowest one (DESIGN CHOICE, log 102). -/
def rearm (q : Req) (s : State) : State :=
  match reqReg q with
  | some r => if r.guarded then { s with glob.unlocked := false } else s
  | none => s

end Sys2Proof.Machine
end

