-- ==== Sys2Proof/Machine/RegWrite.lean ====
section
/-!
DEFINITION. What an accepted BAR0 write does (R6, R43, R45, R49, R52, and each register's chapter): one function of the
register and the value, which every command that is a register write calls.
-/

namespace Sys2Proof.Machine

/-- The value that a write stores: its writable bits. -/
def Reg.keep (r : Reg) (v : Nat) : Nat := Nat.land v r.rw

/-- A write to the _HI of a writable pair applies both halves (R52). -/
def writePair (lo hi : Reg) (v : Nat) (s : State) : State := (s.wr lo (s.held lo)).wr hi (hi.keep v)

/-- Store a written value: a _LO goes to its holding register, a _HI applies the pair, any other register takes it. -/
def storeReg (r : Reg) (v : Nat) (s : State) : State :=
  match r.hiOf, r.loOf with
  | some _, _ => s.setHeld r (r.keep v)
  | none, some lo => writePair lo r v s
  | none, none => s.wr r (r.keep v)

/-! ### The parts with effects -/

/-- A pending message is sent once MSI-X is enabled and neither the function nor the vector masks it (R101); a bit pending since
before MSI-X Enable was cleared counts too (DEDUCED, log 101). -/
def msixFlush (v : Nat) (s : State) : State :=
  let e := s.msixEntry v
  if Tab.get false v s.host.pba && s.host.msixEnable && !s.host.funcMask && !e.mask then
    { s with host.pba := Tab.put false v false s.host.pba }.emit (.msix v e.addr e.data)
  else s

/-- DW w of an MSI-X entry takes a value; address bits 1 and 0 read 0. -/
def MsixEntry.set (e : MsixEntry) (w v : Nat) : MsixEntry :=
  match w with
  | 0 => { e with addr := hi32 e.addr * 2 ^ 32 + v / 4 * 4 }
  | 1 => { e with addr := v * 2 ^ 32 + lo32 e.addr }
  | 2 => { e with data := v }
  | _ => { e with mask := bit v 0 }

/-- A write to DW i of the MSI-X table (R34, R101). -/
def msixWrite (i v : Nat) (s : State) : State :=
  msixFlush (i / 4) { s with host.msix := Tab.put {} (i / 4) ((s.msixEntry (i / 4)).set (i % 4) v) s.host.msix }

/-- A geometry setting register takes a value: VALID clears (R25). -/
def geomSetting (r : Reg) (v : Nat) (s : State) : State := { storeReg r v s with geom.valid := false }

/-- TIME_ALARM_CTL (R350, R457). -/
def alarmWrite (v : Nat) (s : State) : State :=
  let s := { s with time.arm := bit v 0 }
  if bit v 0 && s.time.alarm ≤ s.timeNow then fireAlarm false s else s

/-- POWER_REQ from the register (R328 to R330); after a Fatal detection Off runs only steps 4, 6, 7 and 8 of R337
(R391) (DEDUCED, log 13). -/
def powerReqReg (v : Nat) (s : State) : State :=
  match PowerState.ofCode (v % 8) with
  | none => s
  | some t =>
    if t = s.power.state then s
    else
      let s := startLong 3 { s with power.fromReg := true, power.fromRing := none }
      if s.faultg.fatal then offDischarge (beginMove .off (.off 4) s) else powerRequest t s

/-- A register operation of the store is answered at once with ACCESS (R362, R378). -/
def nvsDenied (long : Bool) (s : State) : State := endRegister long 5 0 s

/-- A register operation that a password guards (R362): it goes to the store, or ends with ACCESS. -/
def nvsGuarded (long : Bool) (part : Nat) (write : Bool) (op : NvsOp) (s : State) : State :=
  match checkPassword part write s.nvs.pass s with
  | (none, s) => nvsRequest op s
  | (some _, s) => nvsDenied long s

/-- NVS_CMD: PARTITION, PAGE and the operation of OP (R361, R362, R376, R378). -/
def nvsCmdWrite (v : Nat) (s : State) : State :=
  let s := s.wr .nvsCmd (Reg.nvsCmd.keep v)
  let part := fld v 5 4
  let page := fld v 13 8
  let off := s.f .nvsRange 10 0
  let len := s.f .nvsRange 27 16
  match v % 8 with
  | 1 => nvsGuarded false part false (.regRead part page off len) { s with nvs.lastOp := 1, nvs.reading := true }
  | 2 =>
    let s := startLong 1 { s with nvs.lastOp := 2 }
    if part = 0 ∨ part = 3 then nvsDenied true s else nvsGuarded true part true (.regWrite part page off len) s
  | 3 => nvsGuarded true 3 true .regSave (startLong 2 { s with nvs.lastOp := 3 })
  | _ => s

/-- NVS_KEY_CTL: the named password, and SET_PASSWORD (R363, R378). -/
def nvsKeyWrite (v : Nat) (s : State) : State :=
  let s := s.wr .nvsKeyCtl (Reg.nvsKeyCtl.keep v)
  if bit v 3 then
    let s := startLong 1 { s with nvs.lastOp := 5 }
    if v % 4 = 0 then nvsDenied true s else nvsGuarded true (v % 4) true (.setPassword (v % 4) (bit v 2)) s
  else s

/-- SCAN_CTL (R111, R112, R126). -/
def scanCtlWrite (v : Nat) (s : State) : State :=
  if bit v 0 then scanStart (bit v 2) s
  else if bit v 1 then scanStop (bit v 2) s
  else s.wr .scanCtl (Reg.scanCtl.keep v)

/-- A commit bit: 1 commits, unless it reads 1 already; 0 changes nothing (R49). -/
def commitBit (g : Group) (v : Nat) (s : State) : State :=
  if bit v 0 && !s.b (commitReg g) 0 then commitWrite g s else s

/-- AGE_CTL (R152, R162, R175) (DEDUCED, log 18). -/
def ageCtlWrite (v : Nat) (s : State) : State :=
  let knots := s.b .ageCtl 1
  let s := s.wr .ageCtl (Reg.ageCtl.keep v)
  let s := if bit v 1 && !knots then seedStart false s
    else if !bit v 1 && knots then { s with age.seeded := false, age.seeding := false } else s
  if bit v 3 then ageClear s else s

/-- BIST_CTL (R180, R203, R206 to R208). -/
def bistCtlWrite (v : Nat) (s : State) : State :=
  let s := s.wr .bistCtl (Reg.bistCtl.keep v)
  if bit v 1 then { s with bist.initialising := true }
  else if bit v 2 then { s with bist.checking := true, bist.tablesValid := false }
  else if bit v 3 then bistRecover s
  else if bit v 4 then { s with bist.recUpdates := [], bist.recPasses := [] }
  else s

/-- RES_CTL (R219): every record is reset when ENABLE becomes 1; requests lose their effect when it becomes 0. -/
def resCtlWrite (v : Nat) (s : State) : State :=
  let on := s.b .resCtl 0
  let s := s.wr .resCtl (Reg.resCtl.keep v)
  if bit v 0 && !on then resReset s else if !bit v 0 && on then resVoid s else s

/-- RING_CTL of ring n (R63, R64). -/
def ringCtlWrite (n v : Nat) (s : State) : State :=
  let on := s.ringOn n
  let s := s.wr (.ringCtl n) ((Reg.ringCtl n).keep v)
  if bit v 0 && !on then ringStart n s else if !bit v 0 && on then ringStop n s else s

/-- ENABLE of port p becomes 1 (R264, R276): the port comes up, once a running port idle has ended; with TEST it goes
to TEST (DEDUCED, log 19). -/
def portStart (p : Nat) (test : Bool) (s : State) : State :=
  let idling := (s.port p).state == 6
  let s := s.modPort p fun q => { q with role := roleOf s p, done := false }
  if idling then s.modPort p fun q => { q with afterIdle := if test then .test else .bringUp }
  else if test then testPort p s
  else bringUp p s

/-- ENABLE of port p becomes 0 (R267, R307): port idle, then DOWN; a HELD port has idled already. -/
def portStop (p : Nat) (s : State) : State :=
  match (s.port p).state with
  | 0 => s
  | 3 => dropTiles p (chainEvent p 2 0 0 0 (s.modPort p fun q => { q with state := 0 }))
  | 6 => s.modPort p fun q => { q with afterIdle := .down }
  | _ => beginIdle p .down s

/-- RETRAIN of port p (R274): port idle and a new bring-up; the ports of a split chain join again. -/
def portRejoin (p : Nat) (s : State) : State :=
  let q := s.port p
  let s := beginIdle p .bringUp s
  if q.role = 1 && q.split then
    let s := s.modPort p fun q => { q with joining := true }
    if (s.port (partner p)).state = 1 ∨ (s.port (partner p)).state = 2 then beginIdle (partner p) .bringUp s else s
  else s

/-- PORT_CTL of port p (R264, R267, R274, R276, R280). -/
def portCtlWrite (p v : Nat) (s : State) : State :=
  let on := s.b (.portCtl p) 0
  let s := s.wr (.portCtl p) ((Reg.portCtl p).keep v)
  if bit v 0 && !on then portStart p (bit v 1) s
  else if !bit v 0 && on then portStop p s
  else if bit v 0 && bit v 3 then portRejoin p s
  else s

/-- LANE_PRBS_CTL of lane l of port p (R276, R277). -/
def prbsWrite (p l v : Nat) (s : State) : State :=
  prbsControl p l (s.rd (.lanePrbsCtl p l)) (v % 16) (s.wr (.lanePrbsCtl p l) ((Reg.lanePrbsCtl p l).keep v))

/-- The access-error log is cleared (R43). -/
def accErrClear (s : State) : State := { s with host.accErr := none, host.accErrCount := 0 }

/-- FAULT_FIRST.VALID is cleared: the record and the merge count (R382). -/
def firstClear (u : Nat) (s : State) : State := s.setFault u { s.fault u with first := none, merge := 0 }

/-- POWER_WAKE_SRC: the written 1s clear their bits (R353). -/
def wakeSrcWrite (v : Nat) (s : State) : State := { s with power.wakeSrc := s.power.wakeSrc - Nat.land s.power.wakeSrc v }

/-- What an accepted write of v to a register does. -/
def regWrite (r : Reg) (v : Nat) (s : State) : State :=
  match r with
  | .globalUnlock => { s with glob.unlocked := v == unlockKey }
  | .globalBusy => if bit v 1 then { s with glob.done := false } else s
  | .hostifAccErrInfo => if bit v 31 then accErrClear s else s
  | .timeFlags => clearSticky 2 (Nat.land v 2) (if bit v 0 then { s with time.coarse := false } else s)
  | .timeAlarmHi => { s with time.alarm := v * 2 ^ 32 + s.held .timeAlarmLo }
  | .timeAlarmCtl => alarmWrite v s
  | .powerReq => powerReqReg v s
  | .powerSelfref => { storeReg r v s with power.idleCount := 0 }
  | .powerWakeSrc => wakeSrcWrite v s
  | .powerLtr => sendLtr (s.power.state == .hold || s.power.state == .keep) (storeReg r v s)
  | .powerAvsStatus => clearSticky 3 (fld v 17 16) s
  | .nvsCmd => nvsCmdWrite v s
  | .nvsPassHi => { s with nvs.pass := v * 2 ^ 32 + s.held .nvsPassLo }
  | .nvsNewpassHi => { s with nvs.newPass := v * 2 ^ 32 + s.held .nvsNewpassLo }
  | .nvsPassLo => s.setHeld r v
  | .nvsNewpassLo => s.setHeld r v
  | .nvsKeyCtl => nvsKeyWrite v s
  | .nvsFlags => clearSticky 4 (fld v 4 0) s
  | .fuseCtl => if bit v 0 then fuseReload s else s
  | .faultgSafe => if bit v 3 then cloveLeave s else s
  | .scanCtl => scanCtlWrite v s
  | .scanCommit => commitBit .scan v s
  | .layerCommit => commitBit .layer v s
  | .resCommit => commitBit .res v s
  | .scanWallSize | .scanFamilyBaseLo | .scanFamilyBaseHi | .scanTileTableBaseLo | .scanTileTableBaseHi | .scanGeomRate
  | .scanChain _ => geomSetting r v s
  | .scanGeomCtl => if bit v 0 then geomCheckStart s else s
  | .layerOverStatus => clearSticky 8 (fld v 0 0) s
  | .emitReload => if bit v 0 then Sys2Proof.Machine.emitReload s else s
  | .emitStatus => clearSticky 9 (fld v 1 1) s
  | .ageCtl => ageCtlWrite v s
  | .ageStatus => clearSticky 10 (fld v 9 4) s
  | .bistCtl => bistCtlWrite v s
  | .bistStatus => clearSticky 11 (fld v 11 8) s
  | .resCtl => resCtlWrite v s
  | .resFlags => clearSticky 12 (fld v 0 0) s
  | .memcInit => if bit v 0 then memoryInitialise s else s
  | .ringCtl n => ringCtlWrite n v s
  | .spanBoundsInfo i => if bit v 31 then s.modSpan i fun x => { x with bounds := none, boundsCount := 0 } else s
  | .spanLbCfg i => watermarkWrite i (storeReg r v s)
  | .portCtl p => portCtlWrite p v s
  | .portCntClear p => if bit v 0 then clearCounts p s else s
  | .lanePrbsCtl p l => prbsWrite p l v s
  | .codecFlags i => clearSticky (codecUnit i) (fld v 1 0) s
  | .doorbell n => ringBell n (fld v 15 0) s
  | .faultStatus u => clearSticky u (fld v 15 0) s
  | .faultEnable u => Sys2Proof.Machine.faultEnable u v s
  | .faultForce u => Sys2Proof.Machine.faultForce u v s
  | .faultFirst u => if bit v 31 then firstClear u s else s
  | .msixTable i => msixWrite i v s
  | _ => storeReg r v s

end Sys2Proof.Machine
end

