-- ==== Sys2Proof/Machine/Access.lean ====
section
/-!
DEFINITION. PCIe requests (R33 to R46, R327, R411, R453 to R456): the BAR0 write and read, the BAR2 access, poisoned
writes, the BAR2 resize and configuration writes.
-/

namespace Sys2Proof.Machine

/-- A host access in Keep finds the core off: the exit from L1 that carries it starts a service period (R342)
(DEDUCED, log 6). -/
def hostArrive (s : State) : State := if s.power.coreOff then serviceStart s else s

/-! ### BAR0 -/

/-- The low and high DW of a write's value. -/
def dwLo (v : Nat) : Nat := v % 2 ^ 32
/-- The second DW of an 8-byte write's value. -/
def dwHi (v : Nat) : Nat := v / 2 ^ 32 % 2 ^ 32

/-- An accepted write: one DW, or both of an 8-byte MSI-X request (R34) (DEDUCED, log 11). -/
def takeWrite (q : Req) (r : Reg) (v : Nat) (s : State) : State :=
  let s := regWrite r (dwLo v) s
  if q.lenDw = 2 then
    match locate (q.offset + 4) with
    | some r2 => regWrite r2 (dwHi v) s
    | none => s
  else s

/-- A refused write: the report, and the lock where a value of GLOBAL_UNLOCK is refused with kind 3 (R45)
(DEDUCED, log 12). -/
def refuseWrite (q : Req) (r : Reg) (kind : Nat) (s : State) : State :=
  let s := refuse 0 true kind q s
  if r == .globalUnlock && kind == 3 then { s with glob.unlocked := false } else s

/-- The tests of R39 on a write request of v, and its effect or refusal, before the re-arm. -/
def writeTests (q : Req) (v : Nat) (s : State) : State :=
  match reqReg q with
  | none => refuse 0 true 1 q s
  | some r =>
    if !widthOk r q then refuse 0 true 2 q s
    else
      match writeKind r (dwLo v) s with
      | some k => refuseWrite q r k s
      | none => powerGo (takeWrite q r v s)

/-- A BAR0 write request of v: the tests of R39, then the effect or the refusal, then the re-arm of R46; in D3hot the
function decodes no memory request (R454) (PRESUMED, log 7). -/
def bar0Write (q : Req) (v : Nat) (s : State) : State :=
  let s := hostArrive s
  if s.host.d3hot then s else rearm q (writeTests q v s)

/-- A write of one DW to a register. -/
def regReq (r : Reg) : Req := { offset := r.addr, lenDw := 1, fbe := 15, lbe := 0 }

/-- A one-DW write to a register by its name. -/
def writeReg (r : Reg) (v : Nat) (s : State) : State := bar0Write (regReq r) v s

/-- The bytes that a read of a register returns; the next DW follows for an 8-byte request. -/
def readBytes (q : Req) (r : Reg) (s : State) : List Nat :=
  leBytes 4 (regValue r s) ++
    (if q.lenDw = 2 then match locate (q.offset + 4) with | some r2 => leBytes 4 (regValue r2 s) | none => [] else [])

/-- A BAR0 read (R36, R39 steps 1 and 2). -/
def bar0Read (q : Req) (s : State) : State :=
  let s := hostArrive s
  if s.host.d3hot then s.emit (.readUnsupported 0 q.offset)
  else
    match reqReg q with
    | none => refuse 0 false 1 q s
    | some r =>
      if !widthOk r q then refuse 0 false 2 q s
      else (s.emit (.readData 0 q.offset (readBytes q r s))).tickFree

/-! ### BAR2 (R35, R453) -/

/-- The byte numbers of a request, counted from its offset, that its byte enables name. -/
def reqBytes (q : Req) : List Nat :=
  (List.range (4 * q.lenDw)).filter fun i =>
    bit (if i / 4 = 0 then q.fbe else if i / 4 + 1 = q.lenDw then q.lbe else 15) (i % 4)

/-- The device address of a BAR2 offset (R453). -/
def State.bar2Addr (s : State) (o : Nat) : Nat := s.f .hostifBar2Window 7 0 * 2 ^ 28 + o

/-- The controller has lost device memory under R391 or R397 (DEDUCED, log 79). -/
def State.memoryGone (s : State) : Bool :=
  s.power.state != .off && (s.faultg.fatal || (List.range 16).any fun m => (s.channel m).lost)

/-- The kind with which a BAR2 request is refused; none: it is accepted (R35, R327, R411, R419) (DEDUCED, log 8). -/
def bar2Kind (q : Req) (s : State) : Option Nat :=
  if !s.memc.trained then some 6
  else if s.memoryGone then none
  else if (reqBytes q).any fun i => s.capacity ≤ s.bar2Addr (q.offset + i) then some 1
  else if s.memc.initialising then some 5
  else if !s.memc.initDone || s.power.selfRefresh || s.power.state == .off then some 6
  else none

/-- The channels that a request to device addresses reaches, in 256-byte granules (R30): class 3 of the host
interface (R31, R32). -/
def hostRequests (q : Req) (s : State) : State :=
  let gs := ((reqBytes q).map fun i => s.bar2Addr (q.offset + i) / 256).eraseDups
  forEach gs (fun g st => memRequest (g % 16) 3 8 0 st) s

/-- The named bytes of a write go to device memory (R35). -/
def bar2Store (q : Req) (data : List Nat) (s : State) : State :=
  forEach (reqBytes q) (fun i st =>
    { st with mem := Mem.put (st.bar2Addr (q.offset + i)) (data.getD i 0) st.mem }) s

/-- A BAR2 access: a write stores the bytes its enables name, which is a content change (R114); a read returns those
bytes; a controller that has lost device memory reads 0xFF and drops writes (R35). -/
def bar2Access (write : Bool) (q : Req) (data : List Nat) (s : State) : State :=
  let s := hostArrive s
  if s.host.d3hot then (if write then s else s.emit (.readUnsupported 2 q.offset))
  else
    match bar2Kind q s with
    | some k => refuse 2 write k q s
    | none =>
      if s.memoryGone then
        (if write then s else s.emit (.readData 2 q.offset ((reqBytes q).map fun _ => 0xFF)))
      else if write then noteChange (noteVersion (bar2Store q data (hostRequests q s)))
      else
        (hostRequests q s).emit (.readData 2 q.offset ((reqBytes q).map fun i => s.byte (s.bar2Addr (q.offset + i))))

/-! ### Poisoned writes, BAR2 size, configuration space -/

/-- A poisoned write request: dropped before every test, reported through AER (status bit 12), and a detection of HOSTIF
POISONED (R38). -/
def poisonedTlp (bar2 : Bool) (q : Req) (s : State) : State :=
  detectNote 1 1 (aerReport false 12 (reqHdr true (if bar2 then 2 else 0) q) s)

/-- The host changes the BAR2 size: BASE is aligned down to it (R453). -/
def bar2Resize (log : Nat) (s : State) : State :=
  let base := s.f .hostifBar2Window 7 0
  { s with host.bar2Log := log }.wr .hostifBar2Window (base / 2 ^ log * 2 ^ log)

/-- Every vector whose message waits is looked at again (R101). -/
def msixFlushAll (s : State) : State := forEach (s.host.pba.map (·.1)) msixFlush s

/-- A configuration write (R41, R101, R346, R454). -/
def configurationWrite (w : ConfigWrite) (s : State) : State :=
  match w with
  | .msix en mask => msixFlushAll { s with host.msixEnable := en, host.funcMask := mask }
  | .l12 en => { s with host.l12 := en }
  | .aspm en => { s with host.aspm := en }
  | .aerSeverity v => { s with host.aerSev := v }
  | .aerMask v => { s with host.aerMask := v }
  | .aerCorMask v => { s with host.aerCorMask := v }
  | .aerClear v => { s with host.aerUncor := s.host.aerUncor - Nat.land s.host.aerUncor v }
  | .aerCorClear v => { s with host.aerCor := s.host.aerCor - Nat.land s.host.aerCor v }
  | .power d3 => { s with host.d3hot := d3 }

end Sys2Proof.Machine
end

