-- ==== Sys2Proof/Machine/MeanAccess.lean ====
section
/-!
DEFINITION. The meanings of the register and memory access commands (R33 to R59, R101, R453, R454).
-/

namespace Sys2Proof.Machine

/-- REGISTER_WRITE (R39): a BAR0 write request. -/
def execRegisterWrite (req : Req) (data : Nat) (s : State) : Host.Outcome State Fault Refusal :=
  .next (bar0Write req data s)

/-- ACC_ERR_LOG_CLEAR (R43): a write of 1 to HOSTIF_ACC_ERR_INFO.VALID. -/
def execAccErrLogClear (s : State) : Host.Outcome State Fault Refusal :=
  .next (writeReg .hostifAccErrInfo 0x80000000 s)

/-- BAR2_ACCESS (R35). -/
def execBar2Access (write : Bool) (req : Req) (data : List Nat) (s : State) : Host.Outcome State Fault Refusal :=
  .next (bar2Access write req data s)

/-- POISONED_TLP (R38). -/
def execPoisonedTlp (bar2 : Bool) (req : Req) (s : State) : Host.Outcome State Fault Refusal :=
  .next (poisonedTlp bar2 req s)

/-- GLOBAL_UNLOCK (R45): a write of a key. -/
def execGlobalUnlock (key : Nat) (s : State) : Host.Outcome State Fault Refusal :=
  .next (writeReg .globalUnlock key s)

/-- MSIX_TABLE_WRITE (R101, R34): a write request of 4 or 8 bytes. -/
def execMsixTableWrite (req : Req) (data : List Nat) (s : State) : Host.Outcome State Fault Refusal :=
  .next (bar0Write req (leVal data) s)

/-- BAR2_RESIZE (R453). -/
def execBar2Resize (log : Fin 9) (s : State) : Host.Outcome State Fault Refusal := .next (bar2Resize log s)

/-- BAR0_READ (R36, R39). -/
def execBar0Read (req : Req) (s : State) : Host.Outcome State Fault Refusal := .next (bar0Read req s)

/-- CONFIGURATION_WRITE (R101, R346, R454). -/
def execConfigurationWrite (w : ConfigWrite) (s : State) : Host.Outcome State Fault Refusal :=
  .next (configurationWrite w s)

/-- PCIE_LINK_DOWN (R386). -/
def execPcieLinkDown (s : State) : Host.Outcome State Fault Refusal := .next (pcieLinkDown s)

end Sys2Proof.Machine
end

