-- ==== Sys2Proof/Machine/MeanLayers.lean ====
section
/-!
DEFINITION. The meanings of the commands of ageing, the bistable layer and residency (R150 to R226).
-/

namespace Sys2Proof.Machine

/-- AGE_CLEAR (R152): a write of CLEAR, the other fields as they stand. -/
def execAgeClear (s : State) : Host.Outcome State Fault Refusal :=
  .next (writeReg .ageCtl (withBit (s.rd .ageCtl) 3 true) s)

/-- AGE_CLEAR_END (R152). -/
def execAgeClearEnd (s : State) : Host.Outcome State Fault Refusal := .next (ageClearEnd s)

/-- SEED_PASS_END (R162). -/
def execSeedPassEnd (s : State) : Host.Outcome State Fault Refusal := .next (seedPassEnd s)

/-- KNOT_PASS (R160). -/
def execKnotPass (port : Fin 32) (s : State) : Host.Outcome State Fault Refusal := .next (knotPass port s)

/-- KNOT_STEP (R161). -/
def execKnotStep (port : Fin 32) (s : State) : Host.Outcome State Fault Refusal := .next (knotStep port s)

/-- CHECKPOINT_DUE (R168, R171). -/
def execCheckpointDue (s : State) : Host.Outcome State Fault Refusal := .next (checkpointDue s)

/-- HOLD_ACCRUAL_PASS (R157). -/
def execHoldAccrualPass (s : State) : Host.Outcome State Fault Refusal := .next (holdAccrual s)

/-- BIST_INIT (R180): a write of INIT with DRIVE 0. -/
def execBistInit (s : State) : Host.Outcome State Fault Refusal := .next (writeReg .bistCtl 2 s)

/-- BIST_INIT_END (R180). -/
def execBistInitEnd (s : State) : Host.Outcome State Fault Refusal := .next (powerGo (bistInitEnd s))

/-- BIST_CHECK (R207): a write of CHECK with DRIVE 0. -/
def execBistCheck (s : State) : Host.Outcome State Fault Refusal := .next (writeReg .bistCtl 4 s)

/-- BIST_CHECK_END (R207). -/
def execBistCheckEnd (s : State) : Host.Outcome State Fault Refusal := .next (powerGo (bistCheckEnd s))

/-- BIST_RECOVER (R206): a write of RECOVER with DRIVE 1. -/
def execBistRecover (s : State) : Host.Outcome State Fault Refusal := .next (writeReg .bistCtl 9 s)

/-- BIST_DISCARD (R206): a write of DISCARD, DRIVE as it stands. -/
def execBistDiscard (s : State) : Host.Outcome State Fault Refusal :=
  .next (writeReg .bistCtl (16 + s.rd .bistCtl % 2) s)

/-- DRIVE_CHANNEL_TAKE (R188). -/
def execDriveChannelTake (port : Fin 32) (s : State) : Host.Outcome State Fault Refusal := .next (driveTake port s)

/-- PASS_START (R189). -/
def execPassStart (port : Fin 32) (channel : Fin 2) (s : State) (check : Check := .ok) (bad : List (Nat × Nat) := []) :
    Host.Outcome State Fault Refusal :=
  .next (powerGo (passStartChecked (2 * port + channel) check bad s))

/-- PHASE_DONE (R193). -/
def execPhaseDone (port : Fin 32) (s : State) : Host.Outcome State Fault Refusal := .next (powerGo (phaseDone port s))

/-- PASS_RECOVERY (R204). -/
def execPassRecovery (port : Fin 32) (hop : Fin 129) (s : State) : Host.Outcome State Fault Refusal :=
  .next (powerGo (passRecovery port hop s))

/-- INTERNAL_REQUEST_START (R201, R218). -/
def execInternalRequestStart (s : State) (check : Check := .ok) (bad : List (Nat × Nat) := []) :
    Host.Outcome State Fault Refusal :=
  .next (internalStartChecked check bad s)

/-- RES_ENABLE (R219): a write of RES_CTL with ENABLE 1. -/
def execResEnable (value : Nat) (s : State) : Host.Outcome State Fault Refusal :=
  .next (writeReg .resCtl (withBit value 0 true) s)

/-- RES_DISABLE (R219): a write of RES_CTL with ENABLE 0. -/
def execResDisable (value : Nat) (s : State) : Host.Outcome State Fault Refusal :=
  .next (writeReg .resCtl (withBit value 0 false) s)

end Sys2Proof.Machine
end

