-- ==== Sys2Proof/Machine/MeanLink.lean ====
section
/-!
DEFINITION. The meanings of the commands of the codec governor, the lanes and the link protocol (R227 to R308, R460).
-/

namespace Sys2Proof.Machine

/-- GOVERNOR_LANE_WAKE (R245). -/
def execGovernorLaneWake (port : Fin 32) (s : State) : Host.Outcome State Fault Refusal := .next (governorWake port s)

/-- BLOCK_DROP_DEADLINE (R288). -/
def execBlockDropDeadline (port : Fin 32) (s : State) : Host.Outcome State Fault Refusal := .next (powerGo (blockDrop port s))

/-- PORT_ENABLE (R264): a write of PORT_CTL with ENABLE 1. -/
def execPortEnable (port : Fin 32) (value : Nat) (s : State) : Host.Outcome State Fault Refusal :=
  .next (writeReg (.portCtl port) (withBit value 0 true) s)

/-- PORT_DISABLE (R267): a write of PORT_CTL with ENABLE 0. -/
def execPortDisable (port : Fin 32) (value : Nat) (s : State) : Host.Outcome State Fault Refusal :=
  .next (writeReg (.portCtl port) (withBit value 0 false) s)

/-- PORT_RETRAIN (R274): a write of PORT_CTL with RETRAIN and ENABLE 1. -/
def execPortRetrain (port : Fin 32) (value : Nat) (s : State) : Host.Outcome State Fault Refusal :=
  .next (writeReg (.portCtl port) (withBit (withBit value 0 true) 3 true) s)

/-- LANE_ALIGN (R257). -/
def execLaneAlign (port : Fin 32) (lane : Fin 4) (s : State) (groups : List Nat := []) : Host.Outcome State Fault Refusal :=
  .next (laneAlign port lane groups s)

/-- LANE_LOSS (R257). -/
def execLaneLoss (port : Fin 32) (lane : Fin 4) (cause : Fin 4) (s : State) : Host.Outcome State Fault Refusal :=
  .next (powerGo (laneLoss port lane cause s))

/-- PORT_TIMEOUT (R264). -/
def execPortTimeout (port : Fin 32) (s : State) : Host.Outcome State Fault Refusal := .next (portTimeout port s)

/-- ALM_RECEIVE (R270). -/
def execAlmReceive (port : Fin 32) (hop mask : Nat) (s : State) (check : Nat := Nat.xor (Nat.xor hop mask) 0xFF) :
    Host.Outcome State Fault Refusal :=
  .next (powerGo (almReceive port hop mask check s))

/-- SPLIT_TIMEOUT (R273). -/
def execSplitTimeout (port : Fin 32) (s : State) : Host.Outcome State Fault Refusal := .next (powerGo (splitTimeout port s))

/-- PEI_RECEIVE (R267). -/
def execPeiReceive (port : Fin 32) (s : State) : Host.Outcome State Fault Refusal := .next (powerGo (peiReceive port s))

/-- PORT_IDLE_TIMEOUT (R267). -/
def execPortIdleTimeout (port : Fin 32) (s : State) : Host.Outcome State Fault Refusal :=
  .next (powerGo (portIdleTimeout port s))

/-- PRBS_GEN (R276): a write of LANE_PRBS_CTL. -/
def execPrbsGen (port : Fin 32) (lane : Fin 4) (value : Nat) (s : State) : Host.Outcome State Fault Refusal :=
  .next (writeReg (.lanePrbsCtl port lane) value s)

/-- PRBS_CHECK (R277): a write of LANE_PRBS_CTL. -/
def execPrbsCheck (port : Fin 32) (lane : Fin 4) (value : Nat) (s : State) : Host.Outcome State Fault Refusal :=
  .next (writeReg (.lanePrbsCtl port lane) value s)

/-- LANE_INJECT (R278): a write of INTERVAL. -/
def execLaneInject (port : Fin 32) (lane : Fin 4) (interval : Nat) (s : State) : Host.Outcome State Fault Refusal :=
  .next (writeReg (.laneInject port lane) interval s)

/-- LANE_INJECTION (R278). -/
def execLaneInjection (port : Fin 32) (lane : Fin 4) (s : State) : Host.Outcome State Fault Refusal :=
  .next (laneInjection port lane s)

/-- PORT_CNT_CLEAR (R279). -/
def execPortCntClear (port : Fin 32) (s : State) : Host.Outcome State Fault Refusal :=
  .next (writeReg (.portCntClear port) 1 s)

/-- LINK_FRAME_FILL (R285). -/
def execLinkFrameFill (port : Fin 32) (s : State) (lanes : Fin 16 := 15) : Host.Outcome State Fault Refusal :=
  .next (powerGo (linkFrameFill port lanes s))

/-- LINK_FRAME_RECEIVE (R282). -/
def execLinkFrameReceive (port : Fin 32) (lane : Fin 4) (groups : List Nat) (s : State) : Host.Outcome State Fault Refusal :=
  .next (powerGo (linkFrameReceive port lane groups s))

/-- RSP_RECEIVE (R296). -/
def execRspReceive (port : Fin 32) (s : State) : Host.Outcome State Fault Refusal := .next (powerGo (rspReceive port s))

/-- TEL_RECEIVE (R301). -/
def execTelReceive (port : Fin 32) (s : State) : Host.Outcome State Fault Refusal := .next (telReceive port s)

/-- TILE_SILENT (R301). -/
def execTileSilent (port : Fin 32) (hop : Fin 129) (s : State) : Host.Outcome State Fault Refusal :=
  .next (tileSilent port hop s)

/-- ENUM_START (R305). -/
def execEnumStart (port : Fin 32) (s : State) : Host.Outcome State Fault Refusal := .next (enumStart port s)

/-- CONFIG_TIMEOUT (R305). -/
def execConfigTimeout (port : Fin 32) (s : State) : Host.Outcome State Fault Refusal := .next (powerGo (configTimeout port s))

/-- CLV_RESEND (R302). -/
def execClvResend (port : Fin 32) (s : State) : Host.Outcome State Fault Refusal := .next (clvResend port s)

/-- DSC_RESEND (R303). -/
def execDscResend (port : Fin 32) (s : State) : Host.Outcome State Fault Refusal := .next (dscResend port s)

/-- LANE_ALIGNMENT_LOSS (R257). -/
def execLaneAlignmentLoss (port : Fin 32) (lane : Fin 4) (s : State) (groups : List Nat := []) : Host.Outcome State Fault Refusal :=
  .next (powerGo (laneAlignmentLoss port lane groups s))

/-- CHECKER_SYNC (R277). -/
def execCheckerSync (port : Fin 32) (lane : Fin 4) (s : State) (bits : List Bool := []) : Host.Outcome State Fault Refusal :=
  .next (checkerSync port lane bits s)

/-- CHECKER_SYNC_LOSS (R277). -/
def execCheckerSyncLoss (port : Fin 32) (lane : Fin 4) (bits : List Bool) (s : State) : Host.Outcome State Fault Refusal :=
  .next (checkerSyncLoss port lane bits s)

/-- RECEIVED_ELECTRICAL_IDLE (R277). -/
def execReceivedElectricalIdle (port : Fin 32) (lane : Fin 4) (s : State) : Host.Outcome State Fault Refusal :=
  .next (receivedElectricalIdle port lane s)

/-- RESUME_SYN_REPEAT (R390). -/
def execResumeSynRepeat (port : Fin 32) (s : State) : Host.Outcome State Fault Refusal :=
  .next (resumeSynRepeat port s)

/-- CK_TRANSMITTER_FAIL (R386). -/
def execCkTransmitterFail (port : Fin 32) (s : State) : Host.Outcome State Fault Refusal :=
  .next (powerGo (ckTransmitterFail port s))

end Sys2Proof.Machine
end

