-- ==== Sys2Proof/Machine/MeanPower.lean ====
section
/-!
DEFINITION. The meanings of the commands of power, time, the non-volatile store, faults and spares, resets and start-up
(R325 to R423).
-/

namespace Sys2Proof.Machine

/-- POWER_REQ_WRITE (R329, R328). -/
def execPowerReqWrite (value : Nat) (s : State) : Host.Outcome State Fault Refusal :=
  .next (writeReg .powerReq value s)

/-- SELFREF_IDLE_REACHED (R331). -/
def execSelfrefIdleReached (s : State) : Host.Outcome State Fault Refusal := .next (selfrefIdle s)

/-- HOLD_RETENTION (R335). -/
def execHoldRetention (s : State) : Host.Outcome State Fault Refusal := .next (holdRetention s)

/-- POWER_LTR_WRITE (R346). -/
def execPowerLtrWrite (value : Nat) (s : State) : Host.Outcome State Fault Refusal :=
  .next (writeReg .powerLtr value s)

/-- KEEP_ENTRY (R336). -/
def execKeepEntry (s : State) : Host.Outcome State Fault Refusal := .next (keepEntry s)

/-- POWER_FAIL (R338). -/
def execPowerFail (vhold : Nat) (s : State) : Host.Outcome State Fault Refusal := .next (powerFail vhold s)

/-- AVS_ACK (R339). -/
def execAvsAck (mv : Nat) (s : State) : Host.Outcome State Fault Refusal := .next (avsAck mv s)

/-- AVS_TIMEOUT (R340). -/
def execAvsTimeout (s : State) : Host.Outcome State Fault Refusal := .next (avsTimeout s)

/-- WAKE_END (R344): and alerts that waited for RUNNING (R316). -/
def execWakeEnd (s : State) : Host.Outcome State Fault Refusal := .next (alertResume (wakeEnd s))

/-- SERVICE_PERIOD_START (R342). -/
def execServicePeriodStart (s : State) : Host.Outcome State Fault Refusal := .next (serviceStart s)

/-- SERVICE_PERIOD_END (R342). -/
def execServicePeriodEnd (s : State) : Host.Outcome State Fault Refusal := .next (serviceEnd s)

/-- TELEMETRY_POLL (R343). -/
def execTelemetryPoll (s : State) : Host.Outcome State Fault Refusal := .next (telemetryPoll s)

/-- TELEMETRY_POLL_END (R343). -/
def execTelemetryPollEnd (s : State) : Host.Outcome State Fault Refusal := .next (telemetryPollEnd s)

/-- TIMECLK_ABSENT (R349). -/
def execTimeclkAbsent (s : State) : Host.Outcome State Fault Refusal := .next (timeclkAbsent s)

/-- KEEP_GENLOCK_LOSS (R341). -/
def execKeepGenlockLoss (s : State) : Host.Outcome State Fault Refusal := .next (keepGenlockLoss s)

/-- TIME_ALARM (R350). -/
def execTimeAlarm (dt : Nat) (s : State) : Host.Outcome State Fault Refusal := .next (timeAlarm dt s)

/-- NVS_CMD_READ (R378): a write of NVS_CMD with OP 1. -/
def execNvsCmdRead (value : Nat) (s : State) : Host.Outcome State Fault Refusal :=
  .next (writeReg .nvsCmd (withFld value 2 0 1) s)

/-- NVS_CMD_WRITE (R357, R378): a write of NVS_CMD with OP 2. -/
def execNvsCmdWrite (value : Nat) (s : State) : Host.Outcome State Fault Refusal :=
  .next (writeReg .nvsCmd (withFld value 2 0 2) s)

/-- NVS_CMD_SAVE (R376, R378): a write of NVS_CMD with OP 3. -/
def execNvsCmdSave (value : Nat) (s : State) : Host.Outcome State Fault Refusal :=
  .next (writeReg .nvsCmd (withFld value 2 0 3) s)

/-- SET_PASSWORD (R363): a write of NVS_KEY_CTL with SET 1. -/
def execSetPassword (value : Nat) (s : State) : Host.Outcome State Fault Refusal :=
  .next (writeReg .nvsKeyCtl (withBit value 3 true) s)

/-- NVS_READ_END (R356, R361). -/
def execNvsReadEnd (s : State) : Host.Outcome State Fault Refusal := .next (powerGo (nvsReadEnd s))

/-- NVS_PAGE_WRITE_END (R357, R359): the write fails when both of its attempts do. -/
def execNvsPageWriteEnd (firstFails secondFails : Bool) (s : State) : Host.Outcome State Fault Refusal :=
  .next (powerGo (nvsPageWriteEnd (firstFails && secondFails) s))

/-- NVS_SAVE_END (R374, R373, R376). -/
def execNvsSaveEnd (s : State) : Host.Outcome State Fault Refusal := .next (nvsSaveEnd s)

/-- CAP_MEASURE (R364). -/
def execCapMeasure (s : State) : Host.Outcome State Fault Refusal := .next (capMeasure s)

/-- CAP_MEASURE_END (R364, R366). -/
def execCapMeasureEnd (vhold fall : Nat) (s : State) : Host.Outcome State Fault Refusal :=
  .next (capMeasureEnd vhold fall s)

/-- LOG_APPEND_RETRY (R365). -/
def execLogAppendRetry (s : State) : Host.Outcome State Fault Refusal := .next (logAppendRetry s)

/-- ENGINE_TAKEOVER_END (R393). -/
def execEngineTakeoverEnd (engine : Fin 72) (s : State) : Host.Outcome State Fault Refusal :=
  .next (powerGo (takeoverEnd engine s))

/-- PIPE_TAKEOVER_END (R394). -/
def execPipeTakeoverEnd (span : Fin 8) (s : State) : Host.Outcome State Fault Refusal :=
  .next (powerGo (pipeTakeoverEnd span s))

/-- CHANNEL_LOST (R397). -/
def execChannelLost (channel : Fin 16) (s : State) : Host.Outcome State Fault Refusal := .next (powerGo (channelLostStop channel s))

/-- ENGINE_WATCHDOG (R386, R393). -/
def execEngineWatchdog (engine : Fin 72) (s : State) : Host.Outcome State Fault Refusal :=
  .next (powerGo (engineWatchdog engine s))

/-- FAULT_FORCE (R385): a write of FAULT_FORCE. -/
def execFaultForce (unit : Fin 182) (bits : Nat) (s : State) : Host.Outcome State Fault Refusal :=
  .next (writeReg (.faultForce unit) bits s)

/-- FAULT_ENABLE_WRITE (R383): a write of FAULT_ENABLE. -/
def execFaultEnableWrite (unit : Fin 182) (value : Nat) (s : State) : Host.Outcome State Fault Refusal :=
  .next (writeReg (.faultEnable unit) value s)

/-- CLOVE_RESUME (R390): a write of RESUME. -/
def execCloveResume (s : State) : Host.Outcome State Fault Refusal := .next (writeReg .faultgSafe 8 s)

/-- HOLD_SELF_TEST_END (R399). -/
def execHoldSelfTestEnd (fails : List TestFail) (s : State) : Host.Outcome State Fault Refusal :=
  .next (powerGo (holdSelfTestEnd fails s))

/-- CLASS4_PROMOTION (R32). -/
def execClass4Promotion (channel : Fin 16) (s : State) : Host.Outcome State Fault Refusal := .next (promote channel s)

/-- POWER_ON_RESET (R433, R407). -/
def execPowerOnReset (s : State) : Host.Outcome State Fault Refusal := .next (powerOnReset s)

/-- POWER_ON_RESET_RELEASE (R410). -/
def execPowerOnResetRelease (s : State) : Host.Outcome State Fault Refusal := .next (powerOnResetRelease s)

/-- STARTUP_PHASE (R410). -/
def execStartupPhase (e : PhaseEnd) (s : State) : Host.Outcome State Fault Refusal := .next (startupPhase e s)

/-- TRIM_STEP (R417). -/
def execTrimStep (s : State) : Host.Outcome State Fault Refusal := .next (trimStep s)

/-- LINK_TRAINING_START (R412) (DEDUCED, log 29). -/
def execLinkTrainingStart (speed width : Nat) (reversed : Bool) (s : State) : Host.Outcome State Fault Refusal :=
  .next (linkTrainingStart speed width reversed s)

/-- PCIE_RESET (R408): a Conventional Reset. -/
def execPcieReset (s : State) : Host.Outcome State Fault Refusal := .next (powerGo (pcieReset 2 s))

/-- FUNCTION_LEVEL_RESET (R408). -/
def execFunctionLevelReset (s : State) : Host.Outcome State Fault Refusal := .next (powerGo (pcieReset 3 s))

/-- FUSE_RELOAD (R418): a write of RELOAD. -/
def execFuseReload (s : State) : Host.Outcome State Fault Refusal := .next (writeReg .fuseCtl 1 s)

/-- FUSE_RELOAD_END (R418). -/
def execFuseReloadEnd (reads : List (Nat × Nat)) (s : State) : Host.Outcome State Fault Refusal :=
  .next (fuseReloadEnd reads s)

/-- MEMORY_INITIALISE (R420): a write of START. -/
def execMemoryInitialise (s : State) : Host.Outcome State Fault Refusal := .next (writeReg .memcInit 1 s)

/-- MEMORY_INITIALISE_END (R420). -/
def execMemoryInitialiseEnd (s : State) : Host.Outcome State Fault Refusal := .next (memoryInitialiseEnd s)

/-- SYSCLK_LOSS (R435). -/
def execSysclkLoss (s : State) : Host.Outcome State Fault Refusal := .next (sysclkLoss s)

/-- JTAG_INSTRUCTION (R445). -/
def execJtagInstruction (i : JtagInstr) (s : State) : Host.Outcome State Fault Refusal := .next (jtagInstruction i s)

/-- VOLTAGE_RAISE_RETRY (R413). -/
def execVoltageRaiseRetry (s : State) : Host.Outcome State Fault Refusal := .next (voltageRaiseRetry s)

/-- MEMORY_SCRUB (R397). -/
def execMemoryScrub (channel : Fin 16) (row : Nat) (check : Check) (s : State) : Host.Outcome State Fault Refusal :=
  .next (powerGo (memoryScrub channel row check s))

end Sys2Proof.Machine
end

