-- ==== Sys2Proof/Machine/NvsRing.lean ====
section
/-!
DEFINITION. The ring commands of the non-volatile store (R88, R360 to R362, R376).
-/

namespace Sys2Proof.Machine

/-- A ring command of the store that a password guards: ACCESS with its DETAIL, or its work (R88, R362). -/
def nvsJob (j : Job) (write : Bool) (work : State → State) (s : State) : State :=
  match checkPassword (wd j.desc 2 % 4) write (wd64 j.desc 4) s with
  | (none, s) => work s
  | (some d, s) => finishJob j 5 d s

/-- NVS_READ starts (R88); one of no bytes is OK at once (R75). -/
def runNvsRead (j : Job) (s : State) : State :=
  let d := j.desc
  let len := fld (wd d 3) 31 16
  nvsJob j false (fun s =>
    if len = 0 then finishJob j 0 0 s
    else nvsRequest (.ringRead j.ring j.slot (wd d 2 % 4) (fld (wd d 2) 15 8) (fld (wd d 3) 15 0) len (wd64 d 6)) s) s

/-- DETAIL of an ACCESS completion that compared no password: what the partition's count leaves (R362)
(DEDUCED, log 21). -/
def accessDetail (part : Nat) (s : State) : Nat := if bit s.nvs.locked part then 0 else 3 - wd s.nvs.fails part

/-- NVS_WRITE starts, with what the read of its host buffer returned (R88, R362); one of no bytes is OK at once (R75), and a
read in error ends it (R77). -/
def runNvsWrite (data : Option (List Nat)) (j : Job) (s : State) : State :=
  let d := j.desc
  let part := wd d 2 % 4
  let len := fld (wd d 3) 31 16
  if part = 0 ∨ part = 3 then finishJob j 5 (accessDetail part s) s
  else
    nvsJob j true (fun s =>
      if len = 0 then finishJob j 0 0 s
      else
        let s := s.emit (.hostRead (wd64 d 6) len)
        match hostBytes len data with
        | none => readFailed j s
        | some l => nvsRequest (.ringWrite j.ring j.slot part (fld (wd d 2) 15 8) (fld (wd d 3) 15 0) l) s) s

/-- NVS_SAVE starts (R88, R376). -/
def runNvsSave (j : Job) (s : State) : State := nvsJob j true (nvsRequest (.ringSave j.ring j.slot)) s

end Sys2Proof.Machine
end

