-- ==== Sys2Proof/Machine/MeanRings.lean ====
section
/-!
DEFINITION. The meanings of the ring commands (R60 to R93): doorbells, scheduling, the commands of the rings and their ends.
-/

namespace Sys2Proof.Machine

/-- DOORBELL (R65, R66): a write of an index to a doorbell. -/
def execDoorbell (ring : Fin 8192) (value : Nat) (s : State) : Host.Outcome State Fault Refusal :=
  .next (writeReg (.doorbell ring) value s)

/-- RING_ENABLE (R63): a write of RING_CTL with ENABLE 1. -/
def execRingEnable (ring : Fin 8192) (value : Nat) (s : State) : Host.Outcome State Fault Refusal :=
  .next (writeReg (.ringCtl ring) (withBit value 0 true) s)

/-- RING_DISABLE (R64): a write of RING_CTL with ENABLE 0. -/
def execRingDisable (ring : Fin 8192) (value : Nat) (s : State) : Host.Outcome State Fault Refusal :=
  .next (writeReg (.ringCtl ring) (withBit value 0 false) s)

/-- SCHEDULING_POINT (R68), and what the engine's memory checks have found by then (R386, R399). -/
def execSchedulingPoint (engine : Fin 72) (s : State) (check : Check := .ok) : Host.Outcome State Fault Refusal :=
  .next (schedulingPoint engine (memoryCheck check s))

/-- DESCRIPTOR_FETCH (R73, R70). -/
def execDescriptorFetch (engine : Fin 72) (words : Option (List Nat)) (s : State) : Host.Outcome State Fault Refusal :=
  .next (descriptorFetch engine words s)

/-- NOP (R79, R78). -/
def execNop (engine : Fin 72) (s : State) : Host.Outcome State Fault Refusal := .next (startJob engine 0 runNop s)

/-- FENCE (R79). -/
def execFence (engine : Fin 72) (s : State) : Host.Outcome State Fault Refusal := .next (startJob engine 1 runFence s)

/-- LAYER_WRITE (R80). -/
def execLayerWrite (engine : Fin 72) (s : State) : Host.Outcome State Fault Refusal :=
  .next (startJob engine 2 runLayerWrite s)

/-- LAYER_BIND (R81). -/
def execLayerBind (engine : Fin 72) (s : State) : Host.Outcome State Fault Refusal :=
  .next (startJob engine 3 runBind s)

/-- SURFACE_RETIRE (R82). -/
def execSurfaceRetire (engine : Fin 72) (s : State) : Host.Outcome State Fault Refusal :=
  .next (startJob engine 4 runRetire s)

/-- FLUSH (R83). -/
def execFlush (engine : Fin 72) (s : State) : Host.Outcome State Fault Refusal := .next (startJob engine 5 runFlush s)

/-- BIST_UPDATE (R199, R84). -/
def execBistUpdate (engine : Fin 72) (s : State) (check : Check := .ok) (bad : List (Nat × Nat) := []) :
    Host.Outcome State Fault Refusal :=
  .next (startJob engine 6 (runBistUpdate check bad) s)

/-- STRESS_CHECKPOINT (R171, R86). -/
def execStressCheckpoint (engine : Fin 72) (s : State) : Host.Outcome State Fault Refusal :=
  .next (startJob engine 8 runCheckpoint s)

/-- POWER_REQ (R87, R328). -/
def execPowerReq (engine : Fin 72) (s : State) : Host.Outcome State Fault Refusal :=
  .next (startJob engine 10 runPowerReq s)

/-- NVS_READ (R88). -/
def execNvsRead (engine : Fin 72) (s : State) : Host.Outcome State Fault Refusal :=
  .next (startJob engine 11 runNvsRead s)

/-- NVS_SAVE (R88). -/
def execNvsSave (engine : Fin 72) (s : State) : Host.Outcome State Fault Refusal :=
  .next (startJob engine 13 runNvsSave s)

/-- ALERT_SHOW (R89). -/
def execAlertShow (engine : Fin 72) (s : State) : Host.Outcome State Fault Refusal :=
  .next (startJob engine 16 runAlertShow s)

/-- ALERT_CLEAR (R316). -/
def execAlertClear (engine : Fin 72) (s : State) : Host.Outcome State Fault Refusal :=
  .next (startJob engine 17 runAlertClear s)

/-- TILE_CMD (R85). -/
def execTileCmd (engine : Fin 72) (payload : Option (List Nat)) (s : State) : Host.Outcome State Fault Refusal :=
  .next (startJob engine 7 (runTileCmd payload) s)

/-- STRESS_RESTORE (R172, R86). -/
def execStressRestore (engine : Fin 72) (file : Option (List Nat)) (s : State) : Host.Outcome State Fault Refusal :=
  .next (startJob engine 9 (runRestore file) s)

/-- NVS_WRITE (R88). -/
def execNvsWrite (engine : Fin 72) (data : Option (List Nat)) (s : State) : Host.Outcome State Fault Refusal :=
  .next (startJob engine 12 (runNvsWrite data) s)

/-- LAYER_WRITE_DONE (R80). -/
def execLayerWriteDone (ring : Fin 8192) (slot : Fin 65536) (data : List Nat) (error : Bool) (s : State) : Host.Outcome State Fault Refusal :=
  .next (powerGo (layerWriteDone ring slot data error s))

/-- TILE_CMD_TIMEOUT (R85). -/
def execTileCmdTimeout (port : Fin 32) (hop : Fin 129) (tag : Fin 256) (s : State) : Host.Outcome State Fault Refusal :=
  .next (powerGo (tileCmdTimeout port hop tag s))

/-- STRESS_CHECKPOINT_END (R169, R171). -/
def execStressCheckpointEnd (ring : Fin 8192) (slot : Fin 65536) (error : Bool) (s : State) (check : Check := .ok) :
    Host.Outcome State Fault Refusal :=
  .next (powerGo (checkpointEnd ring slot error check s))

/-- STRESS_RESTORE_END (R172). -/
def execStressRestoreEnd (ring : Fin 8192) (slot : Fin 65536) (s : State) : Host.Outcome State Fault Refusal :=
  .next (powerGo (restoreEnd ring slot s))

end Sys2Proof.Machine
end

