-- ==== Sys2Proof/Machine/MeanScan.lean ====
section
/-!
DEFINITION. The meanings of the commands of scan-out, genlock, the geometry check, the pixel pipeline and the alerts (R23,
R103 to R149, R310 to R324).
-/

namespace Sys2Proof.Machine

/-- FRAME_START (R107, R104). -/
def execFrameStart (dt : Nat) (s : State) : Host.Outcome State Fault Refusal := .next (powerGo (frameStart dt s))

/-- LATCH_POINT (R125). -/
def execLatchPoint (dt : Nat) (s : State) : Host.Outcome State Fault Refusal := .next (powerGo (latchPoint dt s))

/-- GENLOCK_EDGE (R106, R107). -/
def execGenlockEdge (dt : Nat) (rising : Bool) (s : State) : Host.Outcome State Fault Refusal :=
  .next (genlockEdge dt rising s)

/-- GENLOCK_WINDOW_EXPIRY (R106). -/
def execGenlockWindowExpiry (dt : Nat) (s : State) : Host.Outcome State Fault Refusal :=
  .next (genlockWindowExpiry dt s)

/-- SCAN_START (R111): a write of START and FREERUN. -/
def execScanStart (freerun : Bool) (s : State) : Host.Outcome State Fault Refusal :=
  .next (writeReg .scanCtl (1 + 4 * b2n freerun) s)

/-- SCAN_STOP (R112): a write of STOP and FREERUN. -/
def execScanStop (freerun : Bool) (s : State) : Host.Outcome State Fault Refusal :=
  .next (writeReg .scanCtl (2 + 4 * b2n freerun) s)

/-- SCAN_COMMIT (R124). -/
def execScanCommit (s : State) : Host.Outcome State Fault Refusal := .next (writeReg .scanCommit 1 s)

/-- LAYER_COMMIT (R119, R124). -/
def execLayerCommit (s : State) : Host.Outcome State Fault Refusal := .next (writeReg .layerCommit 1 s)

/-- RES_COMMIT (R216). -/
def execResCommit (s : State) : Host.Outcome State Fault Refusal := .next (writeReg .resCommit 1 s)

/-- COMMIT_COMPLETE (R124). -/
def execCommitComplete (s : State) : Host.Outcome State Fault Refusal := .next (commitComplete s)

/-- LINE_BUFFER_FETCH (R123). -/
def execLineBufferFetch (pipe : Fin 40) (kib : Nat) (lane : Bool) (check : Check) (s : State) : Host.Outcome State Fault Refusal :=
  .next (powerGo (laneRestart pipe check s (lineBufferFetch pipe kib lane check s)))

/-- PIXEL_PROCESS (R127). -/
def execPixelProcess (pipe : Fin 40) (check : Check) (s : State) : Host.Outcome State Fault Refusal :=
  .next (powerGo (laneRestart pipe check s (pixelProcess pipe check s)))

/-- EMIT_RELOAD (R146). -/
def execEmitReload (s : State) : Host.Outcome State Fault Refusal := .next (writeReg .emitReload 1 s)

/-- GEOM_CHECK (R23): a write of CHECK. -/
def execGeomCheck (s : State) : Host.Outcome State Fault Refusal := .next (writeReg .scanGeomCtl 1 s)

/-- GEOM_CHECK_END (R24, R23). -/
def execGeomCheckEnd (s : State) : Host.Outcome State Fault Refusal := .next (geomCheckEnd s)

/-- ALERT_POINT (R318). -/
def execAlertPoint (pipe : Fin 40) (s : State) : Host.Outcome State Fault Refusal := .next (powerGo (alertPoint pipe s))

/-- ALERT_SWEEP_END (R319). -/
def execAlertSweepEnd (pipe : Fin 40) (s : State) : Host.Outcome State Fault Refusal := .next (powerGo (alertSweepEnd pipe s))

end Sys2Proof.Machine
end

