-- ==== Sys2Proof/Machine/Dispatch.lean ====
section
/-!
DEFINITION. One arm per command: its meaning.
-/

namespace Sys2Proof.Machine

def exec (i : Instr) (s : State) : Host.Outcome State Fault Refusal :=
  match i with
  | .registerWrite req data => Sys2Proof.Machine.execRegisterWrite req data s
  | .accErrLogClear => Sys2Proof.Machine.execAccErrLogClear s
  | .bar2Access write req data => Sys2Proof.Machine.execBar2Access write req data s
  | .poisonedTlp bar2 req => Sys2Proof.Machine.execPoisonedTlp bar2 req s
  | .globalUnlock key => Sys2Proof.Machine.execGlobalUnlock key s
  | .msixTableWrite req data => Sys2Proof.Machine.execMsixTableWrite req data s
  | .bar2Resize log => Sys2Proof.Machine.execBar2Resize log s
  | .doorbell ring value => Sys2Proof.Machine.execDoorbell ring value s
  | .ringEnable ring value => Sys2Proof.Machine.execRingEnable ring value s
  | .ringDisable ring value => Sys2Proof.Machine.execRingDisable ring value s
  | .schedulingPoint engine check => Sys2Proof.Machine.execSchedulingPoint engine s check
  | .descriptorFetch engine words => Sys2Proof.Machine.execDescriptorFetch engine words s
  | .nop engine => Sys2Proof.Machine.execNop engine s
  | .fence engine => Sys2Proof.Machine.execFence engine s
  | .layerWrite engine => Sys2Proof.Machine.execLayerWrite engine s
  | .layerWriteDone ring slot data error => Sys2Proof.Machine.execLayerWriteDone ring slot data error s
  | .layerBind engine => Sys2Proof.Machine.execLayerBind engine s
  | .surfaceRetire engine => Sys2Proof.Machine.execSurfaceRetire engine s
  | .flush engine => Sys2Proof.Machine.execFlush engine s
  | .bistUpdate engine check bad => Sys2Proof.Machine.execBistUpdate engine s check bad
  | .tileCmd engine payload => Sys2Proof.Machine.execTileCmd engine payload s
  | .tileCmdTimeout port hop tag => Sys2Proof.Machine.execTileCmdTimeout port hop tag s
  | .stressCheckpoint engine => Sys2Proof.Machine.execStressCheckpoint engine s
  | .stressCheckpointEnd ring slot error check => Sys2Proof.Machine.execStressCheckpointEnd ring slot error s check
  | .stressRestore engine file => Sys2Proof.Machine.execStressRestore engine file s
  | .stressRestoreEnd ring slot => Sys2Proof.Machine.execStressRestoreEnd ring slot s
  | .powerReq engine => Sys2Proof.Machine.execPowerReq engine s
  | .nvsRead engine => Sys2Proof.Machine.execNvsRead engine s
  | .nvsWrite engine data => Sys2Proof.Machine.execNvsWrite engine data s
  | .nvsSave engine => Sys2Proof.Machine.execNvsSave engine s
  | .alertShow engine => Sys2Proof.Machine.execAlertShow engine s
  | .alertClear engine => Sys2Proof.Machine.execAlertClear engine s
  | .frameStart dt => Sys2Proof.Machine.execFrameStart dt s
  | .latchPoint dt => Sys2Proof.Machine.execLatchPoint dt s
  | .genlockEdge dt rising => Sys2Proof.Machine.execGenlockEdge dt rising s
  | .genlockWindowExpiry dt => Sys2Proof.Machine.execGenlockWindowExpiry dt s
  | .scanStart freerun => Sys2Proof.Machine.execScanStart freerun s
  | .scanStop freerun => Sys2Proof.Machine.execScanStop freerun s
  | .scanCommit => Sys2Proof.Machine.execScanCommit s
  | .layerCommit => Sys2Proof.Machine.execLayerCommit s
  | .resCommit => Sys2Proof.Machine.execResCommit s
  | .commitComplete => Sys2Proof.Machine.execCommitComplete s
  | .lineBufferFetch pipe kib lane check => Sys2Proof.Machine.execLineBufferFetch pipe kib lane check s
  | .pixelProcess pipe check => Sys2Proof.Machine.execPixelProcess pipe check s
  | .emitReload => Sys2Proof.Machine.execEmitReload s
  | .geomCheck => Sys2Proof.Machine.execGeomCheck s
  | .geomCheckEnd => Sys2Proof.Machine.execGeomCheckEnd s
  | .ageClear => Sys2Proof.Machine.execAgeClear s
  | .ageClearEnd => Sys2Proof.Machine.execAgeClearEnd s
  | .seedPassEnd => Sys2Proof.Machine.execSeedPassEnd s
  | .knotPass port => Sys2Proof.Machine.execKnotPass port s
  | .knotStep port => Sys2Proof.Machine.execKnotStep port s
  | .checkpointDue => Sys2Proof.Machine.execCheckpointDue s
  | .holdAccrualPass => Sys2Proof.Machine.execHoldAccrualPass s
  | .bistInit => Sys2Proof.Machine.execBistInit s
  | .bistInitEnd => Sys2Proof.Machine.execBistInitEnd s
  | .bistCheck => Sys2Proof.Machine.execBistCheck s
  | .bistCheckEnd => Sys2Proof.Machine.execBistCheckEnd s
  | .bistRecover => Sys2Proof.Machine.execBistRecover s
  | .bistDiscard => Sys2Proof.Machine.execBistDiscard s
  | .driveChannelTake port => Sys2Proof.Machine.execDriveChannelTake port s
  | .passStart port channel check bad => Sys2Proof.Machine.execPassStart port channel s check bad
  | .phaseDone port => Sys2Proof.Machine.execPhaseDone port s
  | .passRecovery port hop => Sys2Proof.Machine.execPassRecovery port hop s
  | .internalRequestStart check bad => Sys2Proof.Machine.execInternalRequestStart s check bad
  | .resEnable value => Sys2Proof.Machine.execResEnable value s
  | .resDisable value => Sys2Proof.Machine.execResDisable value s
  | .governorLaneWake port => Sys2Proof.Machine.execGovernorLaneWake port s
  | .blockDropDeadline port => Sys2Proof.Machine.execBlockDropDeadline port s
  | .portEnable port value => Sys2Proof.Machine.execPortEnable port value s
  | .portDisable port value => Sys2Proof.Machine.execPortDisable port value s
  | .portRetrain port value => Sys2Proof.Machine.execPortRetrain port value s
  | .laneAlign port lane groups => Sys2Proof.Machine.execLaneAlign port lane s groups
  | .laneLoss port lane cause => Sys2Proof.Machine.execLaneLoss port lane cause s
  | .portTimeout port => Sys2Proof.Machine.execPortTimeout port s
  | .almReceive port hop mask check => Sys2Proof.Machine.execAlmReceive port hop mask s check
  | .splitTimeout port => Sys2Proof.Machine.execSplitTimeout port s
  | .peiReceive port => Sys2Proof.Machine.execPeiReceive port s
  | .portIdleTimeout port => Sys2Proof.Machine.execPortIdleTimeout port s
  | .prbsGen port lane value => Sys2Proof.Machine.execPrbsGen port lane value s
  | .prbsCheck port lane value => Sys2Proof.Machine.execPrbsCheck port lane value s
  | .laneInject port lane interval => Sys2Proof.Machine.execLaneInject port lane interval s
  | .laneInjection port lane => Sys2Proof.Machine.execLaneInjection port lane s
  | .portCntClear port => Sys2Proof.Machine.execPortCntClear port s
  | .linkFrameFill port lanes => Sys2Proof.Machine.execLinkFrameFill port s lanes
  | .linkFrameReceive port lane groups => Sys2Proof.Machine.execLinkFrameReceive port lane groups s
  | .rspReceive port => Sys2Proof.Machine.execRspReceive port s
  | .telReceive port => Sys2Proof.Machine.execTelReceive port s
  | .tileSilent port hop => Sys2Proof.Machine.execTileSilent port hop s
  | .enumStart port => Sys2Proof.Machine.execEnumStart port s
  | .configTimeout port => Sys2Proof.Machine.execConfigTimeout port s
  | .clvResend port => Sys2Proof.Machine.execClvResend port s
  | .dscResend port => Sys2Proof.Machine.execDscResend port s
  | .alertPoint pipe => Sys2Proof.Machine.execAlertPoint pipe s
  | .alertSweepEnd pipe => Sys2Proof.Machine.execAlertSweepEnd pipe s
  | .powerReqWrite value => Sys2Proof.Machine.execPowerReqWrite value s
  | .selfrefIdleReached => Sys2Proof.Machine.execSelfrefIdleReached s
  | .holdRetention => Sys2Proof.Machine.execHoldRetention s
  | .powerLtrWrite value => Sys2Proof.Machine.execPowerLtrWrite value s
  | .keepEntry => Sys2Proof.Machine.execKeepEntry s
  | .powerFail vhold => Sys2Proof.Machine.execPowerFail vhold s
  | .avsAck mv => Sys2Proof.Machine.execAvsAck mv s
  | .avsTimeout => Sys2Proof.Machine.execAvsTimeout s
  | .wakeEnd => Sys2Proof.Machine.execWakeEnd s
  | .servicePeriodStart => Sys2Proof.Machine.execServicePeriodStart s
  | .servicePeriodEnd => Sys2Proof.Machine.execServicePeriodEnd s
  | .telemetryPoll => Sys2Proof.Machine.execTelemetryPoll s
  | .telemetryPollEnd => Sys2Proof.Machine.execTelemetryPollEnd s
  | .timeclkAbsent => Sys2Proof.Machine.execTimeclkAbsent s
  | .keepGenlockLoss => Sys2Proof.Machine.execKeepGenlockLoss s
  | .timeAlarm dt => Sys2Proof.Machine.execTimeAlarm dt s
  | .nvsCmdRead value => Sys2Proof.Machine.execNvsCmdRead value s
  | .nvsCmdWrite value => Sys2Proof.Machine.execNvsCmdWrite value s
  | .nvsCmdSave value => Sys2Proof.Machine.execNvsCmdSave value s
  | .setPassword value => Sys2Proof.Machine.execSetPassword value s
  | .nvsReadEnd => Sys2Proof.Machine.execNvsReadEnd s
  | .nvsPageWriteEnd firstFails secondFails => Sys2Proof.Machine.execNvsPageWriteEnd firstFails secondFails s
  | .nvsSaveEnd => Sys2Proof.Machine.execNvsSaveEnd s
  | .capMeasure => Sys2Proof.Machine.execCapMeasure s
  | .capMeasureEnd vhold fall => Sys2Proof.Machine.execCapMeasureEnd vhold fall s
  | .logAppendRetry => Sys2Proof.Machine.execLogAppendRetry s
  | .engineTakeoverEnd engine => Sys2Proof.Machine.execEngineTakeoverEnd engine s
  | .pipeTakeoverEnd span => Sys2Proof.Machine.execPipeTakeoverEnd span s
  | .channelLost channel => Sys2Proof.Machine.execChannelLost channel s
  | .engineWatchdog engine => Sys2Proof.Machine.execEngineWatchdog engine s
  | .faultForce unit bits => Sys2Proof.Machine.execFaultForce unit bits s
  | .faultEnableWrite unit value => Sys2Proof.Machine.execFaultEnableWrite unit value s
  | .cloveResume => Sys2Proof.Machine.execCloveResume s
  | .holdSelfTestEnd fails => Sys2Proof.Machine.execHoldSelfTestEnd fails s
  | .class4Promotion channel => Sys2Proof.Machine.execClass4Promotion channel s
  | .powerOnReset => Sys2Proof.Machine.execPowerOnReset s
  | .powerOnResetRelease => Sys2Proof.Machine.execPowerOnResetRelease s
  | .startupPhase e => Sys2Proof.Machine.execStartupPhase e s
  | .trimStep => Sys2Proof.Machine.execTrimStep s
  | .linkTrainingStart speed width reversed => Sys2Proof.Machine.execLinkTrainingStart speed width reversed s
  | .pcieReset => Sys2Proof.Machine.execPcieReset s
  | .functionLevelReset => Sys2Proof.Machine.execFunctionLevelReset s
  | .fuseReload => Sys2Proof.Machine.execFuseReload s
  | .fuseReloadEnd reads => Sys2Proof.Machine.execFuseReloadEnd reads s
  | .memoryInitialise => Sys2Proof.Machine.execMemoryInitialise s
  | .memoryInitialiseEnd => Sys2Proof.Machine.execMemoryInitialiseEnd s
  | .sysclkLoss => Sys2Proof.Machine.execSysclkLoss s
  | .jtagInstruction x => Sys2Proof.Machine.execJtagInstruction x s
  | .bar0Read req => Sys2Proof.Machine.execBar0Read req s
  | .configurationWrite w => Sys2Proof.Machine.execConfigurationWrite w s
  | .pcieLinkDown => Sys2Proof.Machine.execPcieLinkDown s
  | .laneAlignmentLoss port lane groups => Sys2Proof.Machine.execLaneAlignmentLoss port lane s groups
  | .checkerSync port lane bits => Sys2Proof.Machine.execCheckerSync port lane s bits
  | .checkerSyncLoss port lane bits => Sys2Proof.Machine.execCheckerSyncLoss port lane bits s
  | .receivedElectricalIdle port lane => Sys2Proof.Machine.execReceivedElectricalIdle port lane s
  | .voltageRaiseRetry => Sys2Proof.Machine.execVoltageRaiseRetry s
  | .resumeSynRepeat port => Sys2Proof.Machine.execResumeSynRepeat port s
  | .memoryScrub channel row check => Sys2Proof.Machine.execMemoryScrub channel row check s
  | .ckTransmitterFail port => Sys2Proof.Machine.execCkTransmitterFail port s

end Sys2Proof.Machine
end

