-- ==== Sys2Proof/Safety.lean ====
section
/-!
DEFINITION. The terms in which claims are stated: when the controller takes register accesses, which registers the map
has, what only reporting changes, and the canonical form of the state's data.
-/

namespace Sys2Proof.Machine

/-- The instance numbers of a register lie within the map (R9, R450, R451). -/
def Reg.inMap : Reg → Bool
  | .hostifEventRoute n | .resRegionPos n | .resRegionSize n | .resRegionCtl n => decide (n < 16)
  | .nvsBuf n => decide (n < 512)
  | .faultgPending n => decide (n < 36)
  | .faultgVector n => decide (n < 1152)
  | .scanChain n => decide (n < 32)
  | .layerCtl n | .layerWinPos n | .layerWinSize n | .layerCropPos n | .layerCropSize n | .layerSurfAddrLo n
  | .layerSurfAddrHi n | .layerSurfSize n | .layerSurfPitch n | .layerSurfFmt n | .msixPba n => decide (n < 64)
  | .ringBaseLo n | .ringBaseHi n | .ringCfg n | .ringCtl n | .ringHwIndex n | .ringSwIndex n | .ringStatus n
  | .ringDropped n | .doorbell n | .msixTable n => decide (n < 8192)
  | .spanRingSched n | .spanParkStatus n | .spanBoundsAddrLo n | .spanBoundsAddrHi n | .spanBoundsInfo n
  | .spanBoundsCount n | .spanLbCfg n | .spanPipeMap n | .spanEngineMap n => decide (n < 8)
  | .spanLbStatus n j => decide (n < 8 ∧ j < 5)
  | .engineStatus n | .engineCeCount n => decide (n < 72)
  | .portCtl n | .portStatus n | .portLanes n | .portTxCfg n | .portTiming n | .portAlarm n | .portCrcErr n
  | .portCntClear n | .portEnum n | .portHopSel n | .portHopStatus n | .portHopTel n | .portFrameErr n => decide (n < 32)
  | .laneStatus n l | .lanePrbsCtl n l | .laneInject n l | .laneCv n l | .laneDisp n l | .lanePrbsErr n l
  | .laneSymbolsLo n l | .laneSymbolsHi n l | .laneInjected n l | .laneDfe n l | .laneEye n l => decide (n < 32 ∧ l < 4)
  | .codecCtl n | .codecGov n | .codecDeg n | .codecStatus n | .codecFlags n | .codecFrameBits n | .codecRawBits n
  | .codecBlocks n | .codecCounts n => decide (n < 40)
  | .faultStatus n | .faultLive n | .faultEnable n | .faultForce n | .faultFirst n | .faultFirstTimeLo n
  | .faultFirstTimeHi n | .faultMerge n => decide (n < 182)
  | _ => true

/-- Registers whose accepted write does nothing but store the written bits. -/
def Reg.plain : Reg → Bool
  | .globalScratch | .hostifBar2Window | .powerWakeEn | .powerTiming | .nvsRange | .nvsTileSel | .nvsBuf _ | .fuseWordSel
  | .faultgLimits | .faultgTest | .faultgVector _ | .hostifEventRoute _ | .scanGenlockPeriod | .scanGenlockOffset
  | .scanLineTiming | .scanBackground | .scanCompCfg | .layerCtl _ | .layerWinPos _ | .layerWinSize _ | .layerCropPos _
  | .layerCropSize _ | .emitCtl | .emitPqCfg | .ageRef | .agePeriods | .bistTileSel | .bistRecSel | .resDefault | .resTiming
  | .resAmbient | .resRep | .resReturn | .resCellSel | .resRegionPos _ | .resRegionSize _ | .resRegionCtl _ | .ringCfg _
  | .spanRingSched _ | .portTxCfg _ | .portTiming _ | .portHopSel _ | .laneInject _ _ | .codecCtl _
  | .codecGov _ | .codecDeg _ => true
  | _ => false

/-- The function decodes memory requests: the core is powered (R326) and the function is not in D3hot (R454). -/
abbrev State.Reachable (s : State) : Prop := s.power.coreOff = false ∧ s.host.d3hot = false

/-- Start-up is complete, no long operation and no power transition runs, and the controller is neither in Off nor past
a Fatal detection: no test of R39 that is common to all registers refuses a write. -/
abbrev State.Open (s : State) : Prop :=
  s.Reachable ∧ s.glob.phase = 8 ∧ s.glob.busy = false ∧ s.power.state ≠ .off ∧ s.faultg.fatal = false ∧
    s.power.move = .none

/-- `t` differs from `s` at most in what reports change: what has left the controller, ring contexts, pending MSI-X
bits, sequence numbers, event records that wait, the engines' journals, and fault sets. -/
abbrev Reports (s t : State) : Prop :=
  t = { s with out := t.out, rings := t.rings, host := { s.host with pba := t.host.pba }, evSeq := t.evSeq,
               power := { s.power with heldEvents := t.power.heldEvents }, faults := t.faults, journals := t.journals }

/-- `t` differs from `s` at most in reports, in the list of commands, from which some may have left, and in the activity
mark of R331. -/
abbrev Completes (s t : State) : Prop :=
  Reports { s with jobs := t.jobs, power.activity := t.power.activity } t

/-- Device memory is in its canonical form. -/
abbrev State.MemOk (s : State) : Prop := Mem.wf s.mem = true

/-! ### Commands of the rings -/

/-- A completion entry of ring n would be written at once: its completion ring is enabled and has space, none waits, and
completion entries are still written (R64, R72, R338, R391). -/
abbrev State.CqTakes (s : State) (n : Nat) : Prop :=
  n < 8192 ∧ s.ringOn (s.ringCq n) = true ∧ s.ringFull (s.ringCq n) = false ∧ (s.ring (s.ringCq n)).waiting = [] ∧
    s.faultg.fatal = false ∧ s.noRecords = false

/-- The completion entry of slot `slot` of ring n as R76 lays it out, in the next slot of its completion ring. -/
def State.compOut (s : State) (n slot tag op status detail : Nat) : Output :=
  .hostWrite (s.ringBase (s.ringCq n) + (s.ring (s.ringCq n)).hw * 16)
    (bytesOfWords [slot % 65536 + tag % 65536 * 2 ^ 16,
      status + op % 256 * 2 ^ 8 + n * 2 ^ 16 + b2n (s.ring (s.ringCq n)).phase * 2 ^ 31, detail % 2 ^ 32,
      s.islandTime (0x2000 + s.ringEngine n) % 2 ^ 32])

/-- Command j ends with a status and DETAIL between `s` and `t` (R70, R76): it and, of its own ring, a FENCE that waited
for it may leave the list of commands; its entry is written where its completion ring takes one; beside that only reports
change. -/
abbrev Ends (j : Job) (status detail : Nat) (s t : State) : Prop :=
  Completes s t ∧ (∀ x ∈ t.jobs, x ∈ s.jobs ∧ ¬(x.ring = j.ring ∧ x.slot = j.slot)) ∧
    (∀ x ∈ s.jobs, x.ring ≠ j.ring → x ∈ t.jobs) ∧
    (s.CqTakes j.ring →
      s.out ++ [s.compOut j.ring j.slot (fld (wd j.desc 0) 31 16) j.opcode status detail] <+: t.out)

/-- Engine e has handed its descriptor over, which is activity (R70, R331). -/
def State.took (e : Nat) (s : State) : State :=
  { s.modEngine e (fun g => { g with job := none }) with power := { s.power with activity := true } }

/-- Engine e has handed its descriptor over, and its command has been started, which its journal tells (R70, R393). -/
def State.began (e : Nat) (j : Job) (s : State) : State :=
  { s.took e with jobs := s.jobs ++ [{ j with stage := .running }] }.journal e (.started j.ring j.slot)

/-- Engine e holds a fetched descriptor of opcode op that its state checks let start (R70, R73). -/
abbrev Starts (e op : Nat) (j : Job) (s : State) : Prop :=
  (s.engine e).job = some j ∧ j.opcode = op ∧ s.cqHolds j.ring = false ∧ stateFails op j.desc (s.began e j) = false ∧
    (opMemory op = true → s.memLost = false) ∧ (∀ x ∈ s.jobs, ¬(x.ring = j.ring ∧ x.slot = j.slot))

/-- `t` differs from `s` at most in what starting and ending ring commands changes: reports, the commands and what engines
hold of them, the requests for memory, and the marks of a content change (R31, R114, R331, R333). -/
abbrev RingWork (s t : State) : Prop :=
  t = { s with out := t.out, rings := t.rings, host := { s.host with pba := t.host.pba }, evSeq := t.evSeq,
               power := { s.power with heldEvents := t.power.heldEvents, activity := t.power.activity }, faults := t.faults,
               journals := t.journals, jobs := t.jobs, memc := t.memc, engines := t.engines, scan := { s.scan with changed := t.scan.changed }, pipes := t.pipes }

/-- No command of the list is the one of a ring and slot. -/
abbrev State.Gone (t : State) (j : Job) : Prop := ∀ x ∈ t.jobs, ¬(x.ring = j.ring ∧ x.slot = j.slot)

end Sys2Proof.Machine
end

