-- ==== Sys2Proof/WellFormed.lean ====
section
/-!
DEFINITION. What a command must satisfy to be one: data in bytes, words within their width, requests that a TLP can
carry (R33, R35, R42), hop and symbol values within the wire's fields.
-/

namespace Sys2Proof

/-- Every number of the list is a byte. -/
def bytesOk (l : List Nat) : Bool := l.all (· < 256)

/-- Every number of the list is a 32-bit word. -/
def wordsOk (l : List Nat) : Bool := l.all (· < 2 ^ 32)

/-- A request: offset a multiple of 4 below 2^36, at most 1,024 DW, byte enables of 4 bits. -/
def Req.wf (r : Req) : Bool := r.offset % 4 == 0 && decide (r.offset < 2 ^ 36 ∧ 1 ≤ r.lenDw ∧ r.lenDw ≤ 1024 ∧ r.fbe < 16 ∧ r.lbe < 16)

/-- The bytes that a write request carries: four for each DW. -/
def Req.carries (r : Req) (data : List Nat) : Bool := data.length == 4 * r.lenDw && bytesOk data

/-- What a memory check found names a row of its array. -/
def Check.wf : Check → Bool
  | .dramCe _ row => decide (row < 2 ^ 24)
  | .dramUe _ row => decide (row < 2 ^ 24)
  | _ => true

/-- Ten-bit groups. -/
def groupsOk (l : List Nat) : Bool := l.all (· < 1024)

/-- Cells of the raster's grid. -/
def cellsOk (l : List (Nat × Nat)) : Bool := l.all fun c => decide (c.1 < 65536 ∧ c.2 < 65536)

/-- A configuration write's value fits its register. -/
def ConfigWrite.wf : ConfigWrite → Bool
  | .aerSeverity v => decide (v < 2 ^ 32)
  | .aerMask v => decide (v < 2 ^ 32)
  | .aerCorMask v => decide (v < 2 ^ 32)
  | .aerClear v => decide (v < 2 ^ 32)
  | .aerCorClear v => decide (v < 2 ^ 32)
  | _ => true

/-- A fuse word read: index below 256, 32 bits. -/
def fuseOk (l : List (Nat × Nat)) : Bool := l.all fun r => decide (r.1 < 256 ∧ r.2 < 2 ^ 32)

/-- What ends a start-up phase is within its fields. -/
def PhaseEnd.wf : PhaseEnd → Bool
  | .fuses reads => fuseOk reads
  | .store vhold fall => decide (vhold < 65536 ∧ fall < 65536)
  | .memory fitted ok => decide (fitted < 4 ∧ ok < 65536)
  | _ => true

/-- A command is well formed. -/
def Instr.wf : Instr → Bool
  | .registerWrite r d => r.wf && decide (d < 2 ^ (32 * (if r.lenDw = 2 then 2 else 1)))
  | .poisonedTlp _ r => r.wf
  | .bar2Access w r d => r.wf && (if w then r.carries d else d.isEmpty)
  | .globalUnlock k => decide (k < 2 ^ 32)
  | .msixTableWrite r d => r.wf && r.carries d
  | .doorbell _ v => decide (v < 2 ^ 32)
  | .ringEnable _ v => decide (v < 2 ^ 32)
  | .ringDisable _ v => decide (v < 2 ^ 32)
  | .descriptorFetch _ w => match w with | none => true | some l => l.length == 16 && wordsOk l
  | .layerWriteDone _ _ d _ => bytesOk d
  | .schedulingPoint _ c => c.wf
  | .bistUpdate _ c l => c.wf && cellsOk l
  | .tileCmd _ l => match l with | none => true | some l => bytesOk l && decide (l.length ≤ 256)
  | .stressCheckpointEnd _ _ _ c => c.wf
  | .stressRestore _ l => match l with | none => true | some l => bytesOk l
  | .nvsWrite _ l => match l with | none => true | some l => bytesOk l && decide (l.length ≤ 2048)
  | .passStart _ _ c l => c.wf && cellsOk l
  | .internalRequestStart c l => c.wf && cellsOk l
  | .laneAlign _ _ l => groupsOk l && decide (l.length ≤ 64)
  | .laneAlignmentLoss _ _ l => groupsOk l
  | .resEnable v => decide (v < 2 ^ 32)
  | .resDisable v => decide (v < 2 ^ 32)
  | .portEnable _ v => decide (v < 2 ^ 32)
  | .portDisable _ v => decide (v < 2 ^ 32)
  | .portRetrain _ v => decide (v < 2 ^ 32)
  | .almReceive _ h m c => decide (h < 512 ∧ m < 512 ∧ c < 512)
  | .prbsGen _ _ v => decide (v < 2 ^ 32)
  | .prbsCheck _ _ v => decide (v < 2 ^ 32)
  | .laneInject _ _ v => decide (v < 2 ^ 32)
  | .linkFrameReceive _ _ l => groupsOk l
  | .lineBufferFetch _ _ _ c => c.wf
  | .pixelProcess _ c => c.wf
  | .memoryScrub _ row c => decide (row < 2 ^ 24) && c.wf
  | .powerReqWrite v => decide (v < 2 ^ 32)
  | .powerLtrWrite v => decide (v < 2 ^ 32)
  | .powerFail v => decide (v < 65536)
  | .nvsCmdRead v => decide (v < 2 ^ 32)
  | .nvsCmdWrite v => decide (v < 2 ^ 32)
  | .nvsCmdSave v => decide (v < 2 ^ 32)
  | .setPassword v => decide (v < 2 ^ 32)
  | .capMeasureEnd v f => decide (v < 65536 ∧ f < 65536)
  | .faultForce _ b => decide (b < 2 ^ 32)
  | .faultEnableWrite _ v => decide (v < 2 ^ 32)
  | .startupPhase e => e.wf
  | .fuseReloadEnd l => fuseOk l
  | .bar0Read r => r.wf
  | .configurationWrite w => w.wf
  | .accErrLogClear | .bar2Resize _ | .nop _ | .fence _ | .layerWrite _ | .layerBind _ |
    .surfaceRetire _ | .flush _ | .tileCmdTimeout _ _ _ | .stressCheckpoint _ |
    .stressRestoreEnd _ _ | .powerReq _ | .nvsRead _ | .nvsSave _ | .alertShow _ |
    .alertClear _ | .frameStart _ | .latchPoint _ | .genlockEdge _ _ | .genlockWindowExpiry _ | .scanStart _ |
    .scanStop _ | .scanCommit | .layerCommit | .resCommit | .commitComplete | .emitReload | .geomCheck |
    .geomCheckEnd | .ageClear | .ageClearEnd | .seedPassEnd | .knotPass _ | .knotStep _ | .checkpointDue |
    .holdAccrualPass | .bistInit | .bistInitEnd | .bistCheck | .bistCheckEnd | .bistRecover | .bistDiscard |
    .driveChannelTake _ | .phaseDone _ | .passRecovery _ _ |
    .governorLaneWake _ | .blockDropDeadline _ | .laneLoss _ _ _ | .portTimeout _ | .splitTimeout _ |
    .peiReceive _ | .portIdleTimeout _ | .laneInjection _ _ | .portCntClear _ | .linkFrameFill _ _ | .rspReceive _ |
    .telReceive _ | .tileSilent _ _ | .enumStart _ | .configTimeout _ | .clvResend _ | .dscResend _ | .alertPoint _ |
    .alertSweepEnd _ | .selfrefIdleReached | .holdRetention | .keepEntry | .avsAck _ | .avsTimeout | .wakeEnd |
    .servicePeriodStart | .servicePeriodEnd | .telemetryPoll | .telemetryPollEnd | .timeclkAbsent | .keepGenlockLoss |
    .timeAlarm _ | .nvsReadEnd | .nvsPageWriteEnd _ _ | .nvsSaveEnd | .capMeasure | .logAppendRetry |
    .engineTakeoverEnd _ | .pipeTakeoverEnd _ | .channelLost _ | .engineWatchdog _ | .cloveResume |
    .holdSelfTestEnd _ | .class4Promotion _ | .powerOnReset | .powerOnResetRelease | .trimStep |
    .linkTrainingStart _ _ _ | .pcieReset | .functionLevelReset | .fuseReload | .memoryInitialise |
    .memoryInitialiseEnd | .sysclkLoss | .jtagInstruction _ | .pcieLinkDown |
    .checkerSync _ _ _ | .checkerSyncLoss _ _ _ | .receivedElectricalIdle _ _ | .voltageRaiseRetry |
    .resumeSynRepeat _ | .ckTransmitterFail _ => true

end Sys2Proof
end

