-- ==== Sys2Proof/Certificates/Slice0/Obligations.lean ====
section
/-!
DEFINITION. The statements for the provers: what the numbered rules of the spec say the controller does, command by
command, with what each command leaves unchanged and where it completes.
-/

open Sys2Proof Sys2Proof.Machine

/-! ### Steps, reset, the register map -/

/-- The block takes its commands one at a time, oldest first: a step is the front command's meaning on the state with the
queue's rest. Every command, with any operands and in any state, answers a next state: none ends in a fault or a refusal. -/
def Obligations.StepRunsTheFrontCommand : Prop :=
  (∀ (c : Instr) (rest : List Instr) (s : State), s.pending = c :: rest → step s = exec c { s with pending := rest }) ∧
  (∀ (c : Instr) (s : State), ∃ t, exec c s = .next t)

/-- With no command waiting one always-on cycle passes (the model's choice, log entry 2): while TIME runs from the
reference it counts 10 ns (R347), and nothing but TIME, the second counters, the lanes' symbol counts and the memory
arbiter moves. -/
def Obligations.IdleStepCountsTime : Prop :=
  ∀ s : State, s.pending = [] → s.time.running = true →
    ∃ t, step s = .next t ∧ t.time = { s.time with count := s.time.count + 10 } ∧
      t = { s with time := t.time, memc := t.memc, nvs := { s.nvs with life := t.nvs.life, tileSeconds := t.nvs.tileSeconds },
                   ports := t.ports }

/-- Reset leaves what R8, R45, R101, R110, R325, R379 and R409 state: registers at their reset values, the lock closed, no
operation under way, MSI-X off and every vector masked, scan-out STOPPED, STATE Run, every fault set and ring context
clear; the queue of commands is empty and memory lists nothing (the model's choices, log entries 2 and 3). -/
def Obligations.ResetState : Prop :=
  (∀ r : Reg, State.reset.rd r = r.init % 2 ^ 32) ∧ State.reset.glob.unlocked = false ∧ State.reset.glob.busy = false ∧
    State.reset.glob.phase = 0 ∧ State.reset.glob.lastReset = 1 ∧ State.reset.host.msixEnable = false ∧
    (∀ v, (State.reset.msixEntry v).mask = true) ∧ State.reset.scan.state = .stopped ∧ State.reset.power.state = .run ∧
    (∀ u, State.reset.fault u = {}) ∧ (∀ n, State.reset.ring n = {}) ∧ State.reset.pending = [] ∧
    State.reset.mem = [] ∧ State.reset.MemOk

/-- Every register of the map is found at its own address, and at no other (R450, R451): an aligned DW holds a register
exactly where the map places one. -/
def Obligations.RegisterMapRoundTrip : Prop :=
  (∀ r : Reg, r.inMap = true → r.addr % 4 = 0 ∧ locate r.addr = some r) ∧
  (∀ (a : Nat) (r : Reg), a % 4 = 0 → locate a = some r → r.addr = a ∧ r.inMap = true)

/-! ### BAR0 and BAR2 -/

/-- REGISTER_WRITE that every test of R39 lets through stores the written bits of a plain register, which then reads them
back; every other register and all other state stay as they were. -/
def Obligations.PlainRegisterWriteStores : Prop :=
  ∀ (r : Reg) (v : Nat) (s : State), r.plain = true → r.inMap = true → s.Reachable → s.power.move = .none → v < 2 ^ 32 →
    writeKind r v s = none →
    ∃ t, exec (.registerWrite (regReq r) v) s = .next t ∧ t = { s with regs := t.regs } ∧ t.rd r = Nat.land v r.rw ∧
      ∀ q : Reg, q.addr ≠ r.addr → t.rd q = s.rd q

/-- A write to _LO waits in a holding register and leaves the working value; the write to _HI applies both halves at
once (R52). -/
def Obligations.WidePairApplies : Prop :=
  ∀ (lo hi : Reg) (a b : Nat) (s : State),
    (lo, hi) ∈ [(Reg.emitMatrixBaseLo, Reg.emitMatrixBaseHi), (.emitKnotBaseLo, .emitKnotBaseHi),
                (.emitDeltaBaseLo, .emitDeltaBaseHi), (.ageStressBaseLo, .ageStressBaseHi),
                (.ageTargetBaseLo, .ageTargetBaseHi), (.bistStateBaseLo, .bistStateBaseHi),
                (.bistParityBaseLo, .bistParityBaseHi), (.resTargetBaseLo, .resTargetBaseHi)] →
    s.Reachable → s.power.move = .none → a < 2 ^ 32 → b < 2 ^ 32 → writeKind lo a s = none → writeKind hi b s = none →
    ∃ t u, exec (.registerWrite (regReq lo) a) s = .next t ∧ t = { s with hold := t.hold } ∧ t.held lo = Nat.land a lo.rw ∧
      exec (.registerWrite (regReq hi) b) t = .next u ∧ u = { t with regs := u.regs } ∧
      u.rd lo = Nat.land a lo.rw ∧ u.rd hi = Nat.land b hi.rw

/-- A refused write of one DW (R40 to R42, R45, R46): the first record of the access-error log is filled with its kind and
its header, or a held record stays and COUNT advances; AER takes Completer Abort Status and the header; HOSTIF ACC_ERR is
detected; the lock closes where the register is guarded, or where GLOBAL_UNLOCK was given a value of kind 3. No register, no
byte of memory and no other state changes but for reports, and no RW1C status is cleared. -/
def Obligations.RefusedWriteIsLogged : Prop :=
  ∀ (r : Reg) (v k : Nat) (s : State), r.inMap = true → s.Reachable → v < 2 ^ 32 → writeKind r v s = some k →
    ∃ t, exec (.registerWrite (regReq r) v) s = .next t ∧
      t.host.accErr = some (s.host.accErr.getD { kind := k, hdr := reqHdr true 0 (regReq r) }) ∧
      t.host.accErrCount = (if s.host.accErr.isSome then inc16 s.host.accErrCount else s.host.accErrCount) ∧
      bit t.host.aerUncor 15 = true ∧ t.host.headerLog = some (reqHdr true 0 (regReq r)) ∧
      bit (t.fault 1).sticky 0 = true ∧ (∀ u i, bit (s.fault u).sticky i = true → bit (t.fault u).sticky i = true) ∧
      t.glob = { s.glob with unlocked := s.glob.unlocked && !r.guarded && !(r == .globalUnlock && k == 3) } ∧
      Reports { s with glob := t.glob,
                       host := { s.host with accErr := t.host.accErr, accErrCount := t.host.accErrCount,
                                             aerUncor := t.host.aerUncor, aerCor := t.host.aerCor,
                                             headerLog := t.host.headerLog } } t

/-- The tests of a write that start-up's end, the absence of a long operation, STATE and FATAL do not decide come in the
order of R39: the lock (kind 3), the busy conditions (5), the state (6), the ranges (7); and with a long operation running a
write that R57 does not exempt, nor R456 during a memory initialise (log entry 9), is refused with kind 5 before all of them. -/
def Obligations.WriteTestsInOrder : Prop :=
  (∀ (r : Reg) (v : Nat) (s : State), s.glob.busy = true → r.busyExempt = false →
    (r = .hostifBar2Window → s.glob.op ≠ 5) → writeKind r v s = some 5) ∧
  (∀ (r : Reg) (v : Nat) (s : State), s.glob.busy = false → r.guarded = true → s.glob.unlocked = false →
    writeKind r v s = some 3) ∧
  (∀ (r : Reg) (v : Nat) (s : State), s.Open → r ≠ .globalUnlock → (r.guarded = true → s.glob.unlocked = true) →
    writeKind r v s = if regBusy r v s then some 5 else if regState r v s then some 6
      else if regRange r v s then some 7 else none)

/-- A read of an implemented register with all four bytes enabled completes with its value and changes nothing: no accepted
read has a side effect (R36, R39); `free` is the model's own counter of free values (log entry 1). A read of a reserved
location completes with Unsupported Request and is an access error of kind 1 (R39, R41, R42). -/
def Obligations.ReadsReturnOrAreUnsupported : Prop :=
  (∀ (r : Reg) (s : State), r.inMap = true → s.Reachable →
     exec (.bar0Read (regReq r)) s =
       .next { s with out := s.out ++ [.readData 0 r.addr (leBytes 4 (regValue r s))], free := s.free + 1 }) ∧
  (∀ (a : Nat) (s : State), a % 4 = 0 → locate a = none → s.Reachable →
     ∃ t, exec (.bar0Read { offset := a, lenDw := 1, fbe := 15, lbe := 0 }) s = .next t ∧
       t.out.getLast? = some (.readUnsupported 0 a) ∧
       (s.host.accErr = none → (t.host.accErr.map (·.kind)) = some 1) ∧ bit t.host.aerUncor 20 = true ∧
       Reports { s with host := { s.host with accErr := t.host.accErr, accErrCount := t.host.accErrCount,
                                              aerUncor := t.host.aerUncor, aerCor := t.host.aerCor,
                                              headerLog := t.host.headerLog } } t)

/-- An accepted BAR2 write stores each byte that its enables name at BASE × 2^28 + offset and changes no other byte of memory
(R35, R453); it is a content change of the open window (R114). -/
def Obligations.Bar2WriteStores : Prop :=
  ∀ (q : Req) (d : List Nat) (s : State), bytesOk d = true → s.Reachable → s.memoryGone = false → bar2Kind q s = none →
    ∃ t, exec (.bar2Access true q d) s = .next t ∧
      (∀ i ∈ reqBytes q, t.byte (s.bar2Addr q.offset + i) = d.getD i 0) ∧
      (∀ b, (∀ i ∈ reqBytes q, b ≠ s.bar2Addr q.offset + i) → t.byte b = s.byte b) ∧
      (s.MemOk → t.MemOk) ∧ t.scan.changed = true ∧
      t = { s with mem := t.mem, memc := t.memc, scan := t.scan, geom := { s.geom with versions := t.geom.versions },
                   pipes := t.pipes }

/-- An accepted BAR2 read returns the bytes that its enables name and changes no memory, no register and no status (R35). A
BAR2 access that R35 refuses is logged with its kind and changes no byte of memory; where the controller has lost device
memory, a read returns bytes of 0xFF, a write is dropped, and neither is an access error (R35, R391). -/
def Obligations.Bar2ReadsAndRefusals : Prop :=
  (∀ (q : Req) (s : State), s.Reachable → s.memoryGone = false → bar2Kind q s = none →
     ∃ t, exec (.bar2Access false q []) s = .next t ∧
       t.out = s.out ++ [.readData 2 q.offset ((reqBytes q).map fun i => s.byte (s.bar2Addr (q.offset + i)))] ∧
       t = { s with out := t.out, memc := t.memc }) ∧
  (∀ (w : Bool) (q : Req) (d : List Nat) (k : Nat) (s : State), s.Reachable → bar2Kind q s = some k →
    ∃ t, exec (.bar2Access w q d) s = .next t ∧ t.mem = s.mem ∧ t.regs = s.regs ∧
      t.host.accErr = some (s.host.accErr.getD { kind := k, hdr := reqHdr w 2 q }) ∧
      (w = false → t.out.getLast? = some (if k = 1 then .readUnsupported 2 q.offset else .readAbort 2 q.offset))) ∧
  (∀ (q : Req) (d : List Nat) (s : State), s.Reachable → s.memoryGone = true → s.memc.trained = true →
    exec (.bar2Access true q d) s = .next s ∧
    exec (.bar2Access false q []) s =
      .next { s with out := s.out ++ [.readData 2 q.offset ((reqBytes q).map fun _ => 0xFF)] })

/-! ### The host interface -/

/-- A write of 1 to HOSTIF_ACC_ERR_INFO.VALID clears the access-error log and its count together (R43), also while
GLOBAL_BUSY is set (R57), and changes nothing else; whatever the log held before, the next refusal becomes its first
record. -/
def Obligations.AccErrLogClears : Prop :=
  ∀ s : State, s.Reachable → s.power.state ≠ .off → s.power.move = .none →
    ∃ u, exec .accErrLogClear s = .next u ∧ u = { s with host := { s.host with accErr := none, accErrCount := 0 } } ∧
      ∀ (r : Reg) (v k : Nat), r.inMap = true → v < 2 ^ 32 → writeKind r v u = some k →
        ∃ t, exec (.registerWrite (regReq r) v) u = .next t ∧
          t.host.accErr = some { kind := k, hdr := reqHdr true 0 (regReq r) } ∧ t.host.accErrCount = 0

/-- GLOBAL_UNLOCK by the table of R45: the key unlocks, 0 locks without an error, and any other value locks and is refused
with kind 3. -/
def Obligations.UnlockTable : Prop :=
  ∀ s : State, s.Open →
    exec (.globalUnlock 0x5AFFC10E) s = .next { s with glob := { s.glob with unlocked := true } } ∧
    exec (.globalUnlock 0) s = .next { s with glob := { s.glob with unlocked := false } } ∧
    (∀ key, key < 2 ^ 32 → key ≠ 0x5AFFC10E → key ≠ 0 →
      ∃ t, exec (.globalUnlock key) s = .next t ∧ t.glob = { s.glob with unlocked := false } ∧
        (s.host.accErr = none → t.host.accErr.map (·.kind) = some 3) ∧ t.regs = s.regs ∧ t.mem = s.mem)

/-- POISONED_TLP is dropped before every test: a detection of HOSTIF POISONED and an AER report of status bit 12, and neither
the access-error log nor the lock nor memory nor a register changes (R38). PCIE_LINK_DOWN: the link is down and HOSTIF's
link source is detected (R386). -/
def Obligations.PoisonAndLinkDown : Prop :=
  (∀ (bar2 : Bool) (q : Req) (s : State),
    ∃ t, exec (.poisonedTlp bar2 q) s = .next t ∧ bit (t.fault 1).sticky 1 = true ∧ bit t.host.aerUncor 12 = true ∧
      bit (t.fault 1).sticky 0 = bit (s.fault 1).sticky 0 ∧
      Reports { s with host := { s.host with aerUncor := t.host.aerUncor, aerCor := t.host.aerCor,
                                             headerLog := t.host.headerLog } } t) ∧
  (∀ s : State, ∃ t, exec .pcieLinkDown s = .next t ∧ bit (t.fault 1).sticky 2 = true ∧
    Reports { s with host := { s.host with linkUp := false, training := false } } t)

/-- BAR2_RESIZE: BASE is aligned down to a multiple of the new size in the same cycle, and no other register changes
(R453). -/
def Obligations.Bar2ResizeAlignsBase : Prop :=
  ∀ (log : Fin 9) (s : State), ∃ t, exec (.bar2Resize log) s = .next t ∧
    t.rd .hostifBar2Window = s.f .hostifBar2Window 7 0 / 2 ^ log.val * 2 ^ log.val ∧
    (∀ q : Reg, q.addr ≠ Reg.hostifBar2Window.addr → t.rd q = s.rd q) ∧
    t = { s with regs := t.regs, host := { s.host with bar2Log := log } }

/-- CONFIGURATION_WRITE: MSI-X Enable and Function Mask take effect, D0 and D3hot change nothing else of the controller
(R454), the L1 and L1.2 enables and the AER registers take the written values, and AER status bits are cleared by ones (R41, R101,
R346). -/
def Obligations.ConfigurationWrites : Prop :=
  ∀ s : State,
    (∀ en mask, ∃ t, exec (.configurationWrite (.msix en mask)) s = .next t ∧ t.host.msixEnable = en ∧
      t.host.funcMask = mask ∧
      Reports { s with host := { s.host with msixEnable := en, funcMask := mask } } t) ∧
    (∀ d3, exec (.configurationWrite (.power d3)) s = .next { s with host := { s.host with d3hot := d3 } }) ∧
    (∀ en, exec (.configurationWrite (.l12 en)) s = .next { s with host := { s.host with l12 := en } }) ∧
    (∀ en, exec (.configurationWrite (.aspm en)) s = .next { s with host := { s.host with aspm := en } }) ∧
    (∀ v, exec (.configurationWrite (.aerSeverity v)) s = .next { s with host := { s.host with aerSev := v } }) ∧
    (∀ v, exec (.configurationWrite (.aerMask v)) s = .next { s with host := { s.host with aerMask := v } }) ∧
    (∀ v, exec (.configurationWrite (.aerCorMask v)) s = .next { s with host := { s.host with aerCorMask := v } }) ∧
    (∀ v, ∃ t, exec (.configurationWrite (.aerClear v)) s = .next t ∧
      (∀ i, bit t.host.aerUncor i = (bit s.host.aerUncor i && !bit v i)) ∧
      t = { s with host := { s.host with aerUncor := t.host.aerUncor } }) ∧
    (∀ v, ∃ t, exec (.configurationWrite (.aerCorClear v)) s = .next t ∧
      (∀ i, bit t.host.aerCor i = (bit s.host.aerCor i && !bit v i)) ∧
      t = { s with host := { s.host with aerCor := t.host.aerCor } })

/-- MSIX_TABLE_WRITE of one DW, in every state that decodes requests: it takes its place in the vector's entry, every other
entry stays, and a message that waits is sent once nothing masks it (R34, R57, R101). -/
def Obligations.MsixTableWriteTakes : Prop :=
  ∀ (i x : Nat) (s : State), i < 8192 → x < 2 ^ 32 → s.Reachable → s.power.move = .none →
    ∃ t, exec (.msixTableWrite (regReq (.msixTable i)) (leBytes 4 x)) s = .next t ∧
      t.msixEntry (i / 4) = (s.msixEntry (i / 4)).set (i % 4) x ∧
      (∀ v, v ≠ i / 4 → t.msixEntry v = s.msixEntry v) ∧
      t = { s with out := t.out, host := { s.host with msix := t.host.msix, pba := t.host.pba } } ∧
      (Tab.get false (i / 4) s.host.pba = true → s.host.msixEnable = true → s.host.funcMask = false →
        ((s.msixEntry (i / 4)).set (i % 4) x).mask = false →
        t.out = s.out ++ [.msix (i / 4) (t.msixEntry (i / 4)).addr (t.msixEntry (i / 4)).data] ∧
        Tab.get false (i / 4) t.host.pba = false)

/-! ### Commands that are one start bit -/

/-- The writes that start a timed operation set its running bit and nothing else: BIST_INIT, BIST_CHECK (R180, R207),
BIST_DISCARD (R206), GEOM_CHECK (R23), AGE_CLEAR (R152), FUSE_RELOAD (R418) and MEMORY_INITIALISE (R420), the last two with
GLOBAL_BUSY and their OP (R53). -/
def Obligations.StartBits : Prop :=
  ∀ s : State, s.Open →
    (s.bist.initialising = false → s.bist.checking = false → s.bist.recovering = false →
      (∀ k, k < 64 → (s.drive k).pass = none) →
      exec .bistInit s = .next { s.wr .bistCtl 0 with bist := { s.bist with initialising := true } } ∧
      exec .bistCheck s =
        .next { s.wr .bistCtl 0 with bist := { s.bist with checking := true, tablesValid := false } }) ∧
    (s.bist.initialising = false → s.bist.checking = false → s.bist.recovering = false → s.recordHeld = true →
      exec .bistDiscard s =
        .next { s.wr .bistCtl (s.rd .bistCtl % 2) with bist := { s.bist with recUpdates := [], recPasses := [] } }) ∧
    (s.scan.state = .stopped → s.geom.busy = false →
      exec .geomCheck s = .next { s with geom := { s.geom with busy := true, valid := false, versions := [s.mem] } }) ∧
    (s.scan.state = .stopped → s.age.clearing = false → s.b .ageCtl 0 = false → s.geom.valid = true →
      60 ≤ s.f .ageCtl 26 16 → s.f .ageCtl 26 16 ≤ 1920 →
      ∃ t, exec .ageClear s = .next t ∧ t = { s with regs := t.regs, age := { s.age with clearing := true } } ∧
        (∀ q : Reg, q.addr ≠ Reg.ageCtl.addr → t.rd q = s.rd q) ∧ t.b .ageCtl 0 = false ∧ t.b .ageCtl 1 = s.b .ageCtl 1) ∧
    (s.scan.state = .stopped → (∀ p, p < 32 → (s.port p).state = 0) →
      exec .fuseReload s =
        .next { s with fuse := { s.fuse with reloading := true }, glob := { s.glob with busy := true, op := 4 } }) ∧
    (s.memcInitBarred = false → s.memc.initialising = false → s.geom.busy = false →
      exec .memoryInitialise s =
        .next { s with memc := { s.memc with initialising := true }, glob := { s.glob with busy := true, op := 5 } })

/-! ### Rings -/

/-- A doorbell of an enabled ring with an index the ring can take moves its tail (R65, R66): a class-0 tail is known at once,
with the time it came (R69, R324), one of class 1 to 3 goes through its engine's queue (R69), a completion or event ring's
consumer index moves and it is armed again unless entries are left (R100); a submission doorbell counts as activity (R331). -/
def Obligations.DoorbellMovesTail : Prop :=
  ∀ (n : Fin 8192) (v : Nat) (s : State), s.Open → (s.power.state = .run ∨ s.power.state = .trim) → v < 2 ^ 32 →
    s.ringOn n = true → doorbellBad n v s = false →
    (s.ringKind n = 0 → s.ringClass n = 0 →
      ∃ t, exec (.doorbell n v) s = .next t ∧
        t.ring n = { s.ring n with sw := fld v 15 0, seen := fld v 15 0,
                                   rung := (s.ring n).rung ++ [(fld v 15 0, s.time.count)] } ∧
        (∀ m, m ≠ n.val → t.ring m = s.ring m) ∧
        t = { s with rings := t.rings, power := { s.power with activity := true } }) ∧
    (s.ringKind n = 0 → s.ringClass n ≠ 0 →
      exec (.doorbell n v) s = .next { (s.modRing n (fun r => { r with sw := fld v 15 0 })).modEngine (s.ringEngine n)
        (fun g => { g with bells := g.bells ++ [n.val] }) with power := { s.power with activity := true } }) ∧
    (s.ringKind n ≠ 0 → (s.ring n).waiting = [] → (s.ring n).lost = 0 →
      (∀ m, s.ringKind m = 0 → s.ringCq m = n → (s.ring m).stopping = false) →
      ∃ t, exec (.doorbell n v) s = .next t ∧ (t.ring n).sw = fld v 15 0 ∧ Reports s t ∧
        ((s.ring n).hw = fld v 15 0 → (t.ring n).armed = true ∧ t.out = s.out)) ∧
    (s.ringKind n ≠ 0 → ∃ t, exec (.doorbell n v) s = .next t ∧ Reports s t)

/-- RING_ENABLE of a ring that R63 does not refuse starts it afresh: indices 0, phase 1, armed; no other context and no other
register but its RING_CTL changes. -/
def Obligations.RingEnableStartsAfresh : Prop :=
  ∀ (n : Fin 8192) (v : Nat) (s : State), s.Open → v < 2 ^ 32 → s.ringOn n = false → (s.ring n).stopping = false →
    ringCtlState n (withBit v 0 true) s = false →
    ∃ t, exec (.ringEnable n v) s = .next t ∧ t = { s with regs := t.regs, rings := t.rings } ∧ t.ringOn n = true ∧
      t.ring n = { phase := true, armed := true } ∧ (∀ m, m ≠ n.val → t.ring m = s.ring m) ∧
      (∀ q : Reg, q.addr ≠ (Reg.ringCtl n).addr → t.rd q = s.rd q)

/-- RING_DISABLE (R64): a completion or event ring drops the entries that wait for it; a submission ring lets its running
commands end, and is STOPPING while one is left; every other command of it leaves, fetched, stalled, parked, binding or
retiring, and completes with ABORTED: the entry of one that alone had not run is the next of its completion ring. -/
def Obligations.RingDisableStops : Prop :=
  ∀ (n : Fin 8192) (v : Nat) (s : State), s.Open → v < 2 ^ 32 → s.ringOn n = true →
    ringCtlState n (withBit v 0 false) s = false →
    ∃ t, exec (.ringDisable n v) s = .next t ∧ t.ringOn n = false ∧
      (∀ q : Reg, q.addr ≠ (Reg.ringCtl n).addr → t.rd q = s.rd q) ∧ t.mem = s.mem ∧
      (s.ringKind n ≠ 0 → (t.ring n).waiting = [] ∧ (t.ring n).lost = 0 ∧ t = { s with regs := t.regs, rings := t.rings }) ∧
      (s.ringKind n = 0 →
        (∀ j ∈ t.jobs, j.ring = n.val →
          j.stage ≠ .fetched ∧ j.stage ≠ .stalled ∧ j.stage ≠ .parked ∧ j.stage ≠ .binding ∧ j.stage ≠ .retiring) ∧
        (∀ e, e < 72 → ∀ j, (t.engine e).job = some j → j.ring ≠ n.val) ∧
        (∀ j ∈ s.jobs, j.ring = n.val → j.stage = .running → (∀ x ∈ s.jobs, x.ring = n.val → x.slot = j.slot → x = j) →
          (∀ e, e < 72 → ∀ x, (s.engine e).job = some x → ¬(x.ring = n.val ∧ x.slot = j.slot)) →
          j ∈ t.jobs ∧ (t.ring n).stopping = true) ∧
        (∀ j, j.ring = n.val → s.ringCq n ≠ n.val → s.CqTakes n →
          (s.jobs.filter (fun x => x.ring == n.val && x.stage != .running) = [j] ∧
              (j.stage = .stalled ∨ j.stage = .parked ∨ j.stage = .binding ∨ j.stage = .retiring) ∧
              (∀ e, e < 72 → ∀ x, (s.engine e).job = some x → x.ring ≠ n.val)) ∨
            ((∀ x ∈ s.jobs, x.ring = n.val → x.stage = .running) ∧
              ∃ e, e < 72 ∧ (s.engine e).job = some j ∧
                ∀ f, f < 72 → f ≠ e → ∀ x, (s.engine f).job = some x → x.ring ≠ n.val) →
          s.out ++ [s.compOut n j.slot (fld (wd j.desc 0) 31 16) j.opcode 6 0] <+: t.out))

/-- SCHEDULING_POINT (R68): a free engine with an eligible ring reads the 64 bytes of such a ring's next descriptor; a ring of
class 0 goes before every other class; with none eligible it reads nothing. Nothing but the engines and the rings' known tails
changes. An engine that does not run, is being replaced or is not free fetches nothing. What holds a class-0 ring back
is the model's reading of R72 (log entry 88). -/
def Obligations.SchedulingPointFetches : Prop :=
  ∀ (e : Fin 72) (s : State),
    ((s.engine e).running = true → (s.engine e).takeover = false → (s.engine e).fetch = none →
      (s.engine e).job = none → s.fetchHeld = false → s.faultg.fatal = false →
      (0 < s.f (.spanRingSched (e / 9)) 7 0 → 0 < s.f (.spanRingSched (e / 9)) 15 8 →
        0 < s.f (.spanRingSched (e / 9)) 23 16 →
        (∃ n, n ∈ (deliverBells e s).boundRings e ∧ (deliverBells e s).eligible n = true) →
        ∃ t n, exec (.schedulingPoint e) s = .next t ∧ n ∈ (deliverBells e s).boundRings e ∧
          (deliverBells e s).eligible n = true ∧
          ((∃ m, m ∈ (deliverBells e s).boundRings e ∧ (deliverBells e s).eligible m = true ∧ s.ringClass m = 0) →
            s.ringClass n = 0) ∧
          (t.engine e).fetch = some (n, (s.ring n).hw) ∧
          t.out = s.out ++ [.hostRead (s.ringBase n + 64 * (s.ring n).hw) 64] ∧
          t = { s with engines := t.engines, rings := t.rings, out := t.out }) ∧
      ((∀ n, n ∈ (deliverBells e s).boundRings e → (deliverBells e s).eligible n = false) →
        ∃ t, exec (.schedulingPoint e) s = .next t ∧ (t.engine e).fetch = none ∧
          t = { s with engines := t.engines, rings := t.rings })) ∧
    ((s.engine e).running = false ∨ (s.engine e).takeover = true ∨ (s.engine e).fetch ≠ none ∨ (s.engine e).job ≠ none →
      exec (.schedulingPoint e) s = .next s)

/-- DESCRIPTOR_FETCH (R70, R73): a descriptor that passes every check waits in its engine to start; a read in error completes
with MEDIA and TAG 0; one that fails a check other than a bound completes with that check's status and DETAIL, and the first
that fails a bound is recorded in its span's bounds log. A descriptor of a ring disabled meanwhile completes with ABORTED
(R64; for a failed read the model's reading, log entry 89). -/
def Obligations.DescriptorFetchChecks : Prop :=
  ∀ (e : Fin 72) (n slot : Nat) (s u : State), (s.engine e).fetch = some (n, slot) →
    u = ((s.modEngine e fun g => { g with fetch := none }).journal e
          (.fetched n slot (s.engine e).last0 (s.engine e).last (s.engine e).grants)).modRing n (fun r =>
          { r with hw := (slot + 1) % s.ringSize n, rung := r.rung.filter fun b => b.1 != slot }) →
    (s.ringOn n = true →
      (∀ d, checkDescriptor n d u = none →
        exec (.descriptorFetch e (some d)) s = .next (u.modEngine e fun g =>
          { g with job := some { ring := n, slot := u.slotKey n slot, engine := e, desc := d, stage := .fetched } })) ∧
      (∃ t, exec (.descriptorFetch e none) s = .next t ∧ Reports u t ∧
        (u.CqTakes n → u.out ++ [u.compOut n slot 0 0 7 0] <+: t.out)) ∧
      (∀ d st detail, checkDescriptor n d u = some (st, detail) →
        ∃ t, exec (.descriptorFetch e (some d)) s = .next t ∧ Reports { u with spans := t.spans } t ∧
          (st ≠ 1 → t.spans = u.spans ∧
            (u.CqTakes n → u.out ++ [u.compOut n slot (fld (wd d 0) 31 16) (fld (wd d 0) 7 0) st detail] <+: t.out)) ∧
          (st = 1 → (u.span (u.ringSpan n)).bounds = none → (t.span (u.ringSpan n)).bounds =
            some { addr := u.ringBase n + 64 * slot, ring := n, opcode := fld (wd d 0) 7 0, field := detail }))) ∧
    (s.ringOn n = false → ∀ d,
      ∃ t, exec (.descriptorFetch e (some d)) s = .next t ∧ Reports u t ∧
        (u.CqTakes n → u.out ++ [u.compOut n slot (fld (wd d 0) 31 16) (fld (wd d 0) 7 0) 6 0] <+: t.out))

/-- NOP completes with OK and DETAIL 0, and nothing else happens (R76, R78). FENCE (R79): it completes at once when it is its
ring's only command and waits for no latch point, and holds its ring while an earlier command of the ring runs, or while WAIT_LATCH has it wait for a latch point. -/
def Obligations.NopAndFenceComplete : Prop :=
  (∀ (e : Fin 72) (j : Job) (s : State), Starts e 0 j s → ∃ t, exec (.nop e) s = .next t ∧ Ends j 0 0 (s.took e) t) ∧
  (∀ (e : Fin 72) (j : Job) (s : State), Starts e 1 j s →
     ((∀ x ∈ s.jobs, x.ring ≠ j.ring) → bit (fld (wd j.desc 0) 15 8) 0 = false →
       ∃ t, exec (.fence e) s = .next t ∧ Reports (s.took e) t ∧
         ((s.took e).CqTakes j.ring →
           s.out ++ [(s.took e).compOut j.ring j.slot (fld (wd j.desc 0) 31 16) 1 0 0] <+: t.out)) ∧
     ((∃ x ∈ s.jobs, x.ring = j.ring ∧ x.stage = .running) → (∀ x ∈ s.jobs, x.ring = j.ring → ∀ b, x.stage ≠ .fence b) →
       ∃ t, exec (.fence e) s = .next t ∧ t.ringBlocked j.ring = true ∧
         t = { s.took e with jobs := s.jobs ++ [{ j with stage := .fence false }], journals := t.journals }) ∧
     ((∀ x ∈ s.jobs, x.ring ≠ j.ring) → bit (fld (wd j.desc 0) 15 8) 0 = true → s.scan.state ≠ .stopped →
       ∃ t, exec (.fence e) s = .next t ∧ t.ringBlocked j.ring = true ∧
         t = { s.took e with jobs := s.jobs ++ [{ j with stage := .fence false }], journals := t.journals }))

/-! ### Layer commands -/

/-- LAYER_WRITE starts (R80, R91, R93): with an empty destination it completes; where no byte of its destination is
referenced it reads its source rows from host memory, each at its own pitch, which is a content change; where one is, it is
refused under NO_PARK, parked while its span has a free slot of 64, and held with its ring while it has none. -/
def Obligations.LayerWriteStarts : Prop :=
  ∀ (e : Fin 72) (j : Job) (s : State), Starts e 2 j s →
    (j.dst.2 = 0 → ∃ t, exec (.layerWrite e) s = .next t ∧ Ends j 0 0 (s.took e) t) ∧
    (j.dst.2 ≠ 0 → s.references j.dst.1 j.dst.2 = false →
      ∃ t, exec (.layerWrite e) s = .next t ∧ t.scan.changed = true ∧
        t.out = s.out ++ (List.range (wd j.desc 7)).map (fun r => .hostRead (wd64 j.desc 2 + r * wd j.desc 8) (wd j.desc 6)) ∧
        t = { s.took e with jobs := s.jobs ++ [{ j with stage := .running }], journals := t.journals, out := t.out,
                            memc := t.memc, scan := { s.scan with changed := true }, pipes := t.pipes }) ∧
    (j.dst.2 ≠ 0 → s.references j.dst.1 j.dst.2 = true → bit (fld (wd j.desc 0) 15 8) 0 = true →
      ∃ t, exec (.layerWrite e) s = .next t ∧ Ends j 2 0 (s.took e) t) ∧
    (j.dst.2 ≠ 0 → s.references j.dst.1 j.dst.2 = true → bit (fld (wd j.desc 0) 15 8) 0 = false →
      s.parked (s.ringSpan j.ring) < 64 →
      ∃ t, exec (.layerWrite e) s = .next t ∧ { j with stage := .parked, aux := 0 } ∈ t.jobs ∧ Completes (s.took e) t) ∧
    (j.dst.2 ≠ 0 → s.references j.dst.1 j.dst.2 = true → bit (fld (wd j.desc 0) 15 8) 0 = false →
      64 ≤ s.parked (s.ringSpan j.ring) →
      ∃ t, exec (.layerWrite e) s = .next t ∧ t.ringStalled j.ring = true ∧
        t = { s.took e with jobs := s.jobs ++ [{ j with stage := .stalled }], journals := t.journals })

/-- LAYER_WRITE_DONE (R77, R80): byte k of what was read goes to row k / BYTES_PER_ROW of the destination at its pitch, and
no other byte changes; the command completes with OK and DETAIL ROWS, or after an error with MEDIA and the number of rows
written whole. Of two such commands of one slot the older ends (the model's choice, log entry 90). -/
def Obligations.LayerWriteStores : Prop :=
  ∀ (ring : Fin 8192) (slot : Fin 65536) (data : List Nat) (error : Bool) (j : Job) (s : State),
    s.jobOf 2 ring slot = some j → s.power.move = .none → bytesOk data = true →
    0 < wd j.desc 6 → (wd j.desc 7 ≤ 1 ∨ wd j.desc 6 ≤ wd j.desc 9) →
    (error = true ∨ wd j.desc 7 * wd j.desc 6 ≤ data.length) →
    ∃ t, exec (.layerWriteDone ring slot data error) s = .next t ∧
      (∀ k, k < data.length → k < wd j.desc 7 * wd j.desc 6 →
        t.byte (wd64 j.desc 4 + k / wd j.desc 6 * wd j.desc 9 + k % wd j.desc 6) = data.getD k 0) ∧
      (∀ b, (∀ k, k < data.length → k < wd j.desc 7 * wd j.desc 6 →
        b ≠ wd64 j.desc 4 + k / wd j.desc 6 * wd j.desc 9 + k % wd j.desc 6) → t.byte b = s.byte b) ∧
      (s.MemOk → t.MemOk) ∧ t.Gone j ∧
      (s.CqTakes j.ring → s.out ++ [s.compOut j.ring j.slot (fld (wd j.desc 0) 31 16) 2 (if error then 7 else 0)
        (if error then min data.length (wd j.desc 7 * wd j.desc 6) / wd j.desc 6 else wd j.desc 7)] <+: t.out) ∧
      RingWork { s with mem := t.mem, geom := { s.geom with versions := t.geom.versions } } t

/-- LAYER_BIND (R81, R126): with scan-out STOPPED the named layer takes the surface at once and the command completes;
otherwise it waits for a latch point. An earlier bind of the same layer that still waits leaves and completes with ABORTED. -/
def Obligations.LayerBindBinds : Prop :=
  ∀ (e : Fin 72) (j : Job) (s : State), Starts e 3 j s →
    (s.scan.state = .stopped → (∀ x ∈ s.jobs, x.stage ≠ .binding) →
      ∃ t, exec (.layerBind e) s = .next t ∧ t.layer (fld (wd j.desc 2) 5 0) = descSurface j.desc 3 ∧
        (∀ n, n ≠ fld (wd j.desc 2) 5 0 → t.layer n = s.layer n) ∧ t.Gone j ∧
        ((s.took e).CqTakes j.ring →
          s.out ++ [(s.took e).compOut j.ring j.slot (fld (wd j.desc 0) 31 16) 3 0 0] <+: t.out) ∧
        RingWork { s with layers := t.layers } t ∧
        ((∀ x ∈ s.jobs, x.stage ≠ .retiring) → Ends j 0 0 { s.took e with layers := t.layers } t)) ∧
    (s.scan.state ≠ .stopped → ∃ t, exec (.layerBind e) s = .next t ∧ { j with stage := .binding } ∈ t.jobs ∧
      (∀ o ∈ s.jobs, o.stage = .binding → wd o.desc 2 = wd j.desc 2 → t.Gone o) ∧ Completes (s.took e) t ∧
      (∀ o, s.jobs.filter (fun x => x.stage == .binding && wd x.desc 2 == wd j.desc 2) = [o] → (s.took e).CqTakes o.ring →
        s.out ++ [(s.took e).compOut o.ring o.slot (fld (wd o.desc 0) 31 16) o.opcode 6 0] <+: t.out))

/-- SURFACE_RETIRE (R82): it completes at once with DETAIL 0 where no byte of its range is referenced, and waits while one
is. Where it completes, a parked LAYER_WRITE that its range overlaps is released (R92). -/
def Obligations.SurfaceRetireWaits : Prop :=
  ∀ (e : Fin 72) (j : Job) (s : State), Starts e 4 j s →
    (s.references (wd64 j.desc 4) (wd64 j.desc 6) = true →
      ∃ t, exec (.surfaceRetire e) s = .next t ∧
        t = { s.took e with jobs := s.jobs ++ [{ j with stage := .retiring }], journals := t.journals }) ∧
    (s.references (wd64 j.desc 4) (wd64 j.desc 6) = false →
      ∃ t, exec (.surfaceRetire e) s = .next t ∧ t.Gone j ∧ RingWork s t ∧
        ((s.took e).CqTakes j.ring →
          s.out ++ [(s.took e).compOut j.ring j.slot (fld (wd j.desc 0) 31 16) 4 0 0] <+: t.out) ∧
        ((∀ x ∈ s.jobs, x.stage ≠ .parked) → Ends j 0 0 (s.took e) t) ∧
        (∀ x ∈ t.jobs, x.stage = .parked → rangesMeet x.dst.1 x.dst.2 (wd64 j.desc 4) (wd64 j.desc 6) = true → x.aux = 1))

/-! ### FLUSH, TILE_CMD -/

/-- FLUSH (R83, R241) closes the open block of every named port that is UP, and completes. -/
def Obligations.FlushClosesBlocks : Prop :=
  ∀ (e : Fin 72) (j : Job) (s : State), Starts e 5 j s →
    ∃ t, exec (.flush e) s = .next t ∧ t.Gone j ∧ Completes { s.took e with codecs := t.codecs } t ∧
      (∀ p, p < 32 → bit (wd j.desc 2) p = true → (s.port p).state = 2 → (t.codec (s.pipeOf p)).open_ = none ∧
        ∀ b, (s.codec (s.pipeOf p)).open_ = some b → { b with last := false } ∈ (t.codec (s.pipeOf p)).closed) ∧
      ((∀ p, p < 32 → (s.codec (s.pipeOf p)).open_ = none) → Ends j 0 0 (s.took e) t)

/-- TILE_CMD (R85, R296) reads CMD_LEN bytes at CMD_ADDR and puts a CMD packet with the port's next TAG into the port's queue:
for hop 0 to every tile, noted as a broadcast that completes when it has left; to one hop that has none outstanding, which waits
for its response. A failed read completes it with MEDIA (R77). TILE_CMD_TIMEOUT completes the waiting command with MEDIA, lets
a CMD of the controller's own go, and does nothing for a TAG that none waits for. -/
def Obligations.TileCommandsSendAndTimeOut : Prop :=
  (∀ (e : Fin 72) (payload : Option (List Nat)) (j : Job) (s : State) (p h tag : Nat), Starts e 7 j s →
    p = fld (wd j.desc 2) 4 0 → h = fld (wd j.desc 2) 15 8 → tag = (s.port p).tagTile % 128 →
    (∀ l, hostBytes (fld (wd j.desc 3) 15 0) payload = some l →
      (h ≠ 0 → ∀ c ∈ (s.port p).cmds, c.sent = true ∧ c.hop ≠ h) →
      ∃ t, exec (.tileCmd e payload) s = .next t ∧
        (t.port p).txCmd = (s.port p).txCmd ++ [packetBytes 4 h ([tag, 0] ++ l)] ∧
        (t.port p).tagTile = ((s.port p).tagTile + 1) % 128 ∧ (∀ q, q ≠ p → t.port q = s.port q) ∧
        (h = 0 → (t.port p).bcasts = (s.port p).bcasts ++ [(packetBytes 4 0 ([tag, 0] ++ l), j.ring, j.slot)]) ∧
        (h ≠ 0 → (t.port p).cmds = (s.port p).cmds ++
          [{ hop := h, tag := tag, payload := l, owner := .tile j.ring j.slot, sent := true }]) ∧
        t = { s.took e with jobs := s.jobs ++ [{ j with stage := .running }], journals := t.journals, ports := t.ports,
                            out := s.out ++ [.hostRead (wd64 j.desc 4) (fld (wd j.desc 3) 15 0)] }) ∧
    (hostBytes (fld (wd j.desc 3) 15 0) payload = none →
      ∃ t d, exec (.tileCmd e payload) s = .next t ∧
        Ends j 7 d { s.took e with free := s.free + 1,
                                   out := s.out ++ [.hostRead (wd64 j.desc 4) (fld (wd j.desc 3) 15 0)] } t)) ∧
  (∀ (p : Fin 32) (h : Fin 129) (tag : Fin 256) (s : State), s.power.move = .none →
    (∀ c, (s.port p).cmds.find? (fun c => c.sent && c.hop == h.val && c.tag == tag.val && c.owner != .config) = some c →
      (∀ j, c.owner = .tile j.ring j.slot → s.jobAt j.ring j.slot = some j →
        ∃ t, exec (.tileCmdTimeout p h tag) s = .next t ∧ Ends j 7 0 { s with ports := t.ports } t ∧
          (∀ q, q ≠ p.val → t.port q = s.port q)) ∧
      ((∀ n k, c.owner ≠ .tile n k) →
        ∃ t, exec (.tileCmdTimeout p h tag) s = .next t ∧ t = { s with ports := t.ports } ∧
          (∀ q, q ≠ p.val → t.port q = s.port q))) ∧
    ((s.port p).cmds.find? (fun c => c.sent && c.hop == h.val && c.tag == tag.val && c.owner != .config) = none →
      exec (.tileCmdTimeout p h tag) s = .next s))

/-! ### BIST_UPDATE, checkpoints and restores -/

/-- BIST_UPDATE (R84, R199): a region with no cell completes with OK; with all 8 update slots of its span in use its ring
stalls; any other region takes its span's lowest free slot and writes no byte of memory but the state and target words of its
cells. A region of one cell that is unknown and not pending holds its slot, and the cell's target word takes the dithered
levels of its target bytes, PEND and the slot. -/
def Obligations.BistUpdateWritesTargets : Prop :=
  ∀ (e : Fin 72) (j : Job) (s : State), Starts e 6 j s →
    (fld (wd j.desc 3) 15 0 = 0 ∨ fld (wd j.desc 3) 31 16 = 0 →
      ∀ c bad, ∃ t, exec (.bistUpdate e c bad) s = .next t ∧ Ends j 0 0 (s.took e) t) ∧
    (fld (wd j.desc 3) 15 0 ≠ 0 → fld (wd j.desc 3) 31 16 ≠ 0 →
      (∀ k, k < 8 → s.update (8 * s.ringSpan j.ring + k) ≠ none) →
      ∀ c bad, ∃ t, exec (.bistUpdate e c bad) s = .next t ∧ t.ringStalled j.ring = true ∧
        t = { s.took e with jobs := s.jobs ++ [{ j with stage := .stalled }], journals := t.journals }) ∧
    (∀ k, fld (wd j.desc 3) 15 0 ≠ 0 → fld (wd j.desc 3) 31 16 ≠ 0 → k < 8 → s.update (8 * s.ringSpan j.ring + k) = none →
      (∀ m, m < k → s.update (8 * s.ringSpan j.ring + m) ≠ none) →
      ∃ t, exec (.bistUpdate e .ok []) s = .next t ∧
        (∀ b, (∀ c ∈ regionCells s (fld (wd j.desc 2) 15 0) (fld (wd j.desc 2) 31 16) (fld (wd j.desc 3) 15 0) (fld (wd j.desc 3) 31 16),
            b < s.cellAddr c.1 c.2.1 ∨ s.cellAddr c.1 c.2.1 + 4 ≤ b) → t.byte b = s.byte b) ∧
        (∀ u, t.update (8 * s.ringSpan j.ring + k) = some u → u.ring = j.ring ∧ u.slot = j.slot ∧ 0 < u.tally.left) ∧
        (s.MemOk → t.MemOk) ∧ RingWork { s with mem := t.mem, bist := t.bist, res := t.res } t) ∧
    (∀ (k i cx cy slot : Nat), cx = fld (wd j.desc 2) 15 0 → cy = fld (wd j.desc 2) 31 16 → fld (wd j.desc 3) 15 0 = 1 →
      fld (wd j.desc 3) 31 16 = 1 → wd64 j.desc 4 + 3 ≤ s.capacity → s.tileAt cx cy = some i → k < 8 →
      slot = 8 * s.ringSpan j.ring + k →
      s.update slot = none → (∀ m, m < k → s.update (8 * s.ringSpan j.ring + m) ≠ none) →
      bit (s.targetWord cx cy) 9 = false → bit (s.stateWord cx cy) 9 = false →
      ∃ t, exec (.bistUpdate e .ok []) s = .next t ∧
        t.targetWord cx cy = targetLevels (s.bistFam i) cx cy (Mem.bytes s.mem (wd64 j.desc 4) 3) + 512 + 1024 * slot ∧
        t.stateWord cx cy = withBit (s.stateWord cx cy) 11 false ∧
        (t.update slot).map (·.tally) = some { left := 1 } ∧ (∀ m, m ≠ slot → t.update m = s.update m) ∧
        (∀ b, (b < s.cellAddr cx cy ∨ s.cellAddr cx cy + 4 ≤ b) → t.byte b = s.byte b) ∧ (s.MemOk → t.MemOk) ∧
        RingWork { s with mem := t.mem, bist := { s.bist with updates := t.bist.updates }, res := t.res } t)

/-- STRESS_CHECKPOINT keeps TIME for its header and, when its writes have completed, advances the epoch and completes with the
length of the checkpoint that R169 lays out; a write in error ends it with MEDIA (R169, R171). STRESS_RESTORE of no bytes
completes with OK (R75), one whose host read fails with MEDIA (R77) and a free DETAIL (log entry 91), one of a buffer whose header R172 refuses with FORMAT; one
that is accepted reads the buffer and, at its end, makes the map ready, starts a seed pass while KNOTS is 1 (R162) and
completes, with OK and the bytes read, or with MEDIA and the sections skipped.
Rows are read as the checkpoint ends, and FORMAT starts no seed pass (the model's choices, log entries 98 and 99). -/
def Obligations.StressCommandsRun : Prop :=
  (∀ (e : Fin 72) (j : Job) (s : State), Starts e 8 j s →
    ∃ t, exec (.stressCheckpoint e) s = .next t ∧
      t = { s.took e with jobs := s.jobs ++ [{ j with stage := .running, aux := s.time.count }], memc := t.memc,
                          journals := t.journals }) ∧
  (∀ (n : Fin 8192) (slot : Fin 65536) (j : Job) (s : State), s.jobOf 8 n slot = some j → s.power.move = .none →
    ((∀ i ∈ s.allTiles, s.countersPast i = false) →
      ∃ t, exec (.stressCheckpointEnd n slot false .ok) s = .next t ∧
        Ends j 0 (checkpointBytes s j.aux).length
          { s with age := { s.age with epoch := (s.age.epoch + 1) % 2 ^ 32 },
                   out := s.out ++ [.hostWrite (wd64 j.desc 2) (checkpointBytes s j.aux)] } t) ∧
    (∃ t, exec (.stressCheckpointEnd n slot true .ok) s = .next t ∧ Ends j 7 0x02000000 s t)) ∧
  (∀ (e : Fin 72) (file : Option (List Nat)) (j : Job) (s : State), Starts e 9 j s →
    (wd j.desc 4 = 0 → ∃ t, exec (.stressRestore e file) s = .next t ∧ Ends j 0 0 (s.took e) t) ∧
    (wd j.desc 4 ≠ 0 → file = none →
      ∃ t d, exec (.stressRestore e file) s = .next t ∧
        Ends j 7 d { s.took e with free := s.free + 1,
                                   out := s.out ++ [.hostRead (wd64 j.desc 2) (min (wd j.desc 4) 64)] } t) ∧
    (∀ l, file = some l → wd j.desc 4 ≠ 0 → restoreHeaderOk s (wd j.desc 4) (l.take (wd j.desc 4)) = false →
      ∃ t, exec (.stressRestore e file) s = .next t ∧
        Ends j 4 0 { s.took e with out := s.out ++ [.hostRead (wd64 j.desc 2) (min (wd j.desc 4) 64)] } t) ∧
    (∀ l, file = some l → wd j.desc 4 ≠ 0 → restoreHeaderOk s (wd j.desc 4) (l.take (wd j.desc 4)) = true →
      ∃ t k, exec (.stressRestore e file) s = .next t ∧
        t = { s.took e with jobs := s.jobs ++ [{ j with stage := .running, aux := k }], mem := t.mem, age := t.age,
                            memc := t.memc, journals := t.journals,
                            out := s.out ++ [.hostRead (wd64 j.desc 2) (min (wd j.desc 4) 64),
                              .hostRead (wd64 j.desc 2 + 64) (bufLe (l.take (wd j.desc 4)) 0x1C 4 - 64)] } ∧
        (s.MemOk → t.MemOk))) ∧
  (∀ (n : Fin 8192) (slot : Fin 65536) (j : Job) (s : State), s.jobOf 9 n slot = some j → s.power.move = .none →
    ∃ t, exec (.stressRestoreEnd n slot) s = .next t ∧ t.age.mapReady = true ∧ t.Gone j ∧
      (s.knotsOn = true → t.age.seeding = true ∧ t.age.seedRestore = true ∧ t.age.seeded = false) ∧
      (logEngagements s = [] → fld j.aux 63 32 = s.age.epoch → s.CqTakes j.ring →
        s.out ++ [s.compOut j.ring j.slot (fld (wd j.desc 0) 31 16) 9 (if j.aux / 2 ^ 64 = 0 then 0 else 7)
          (if j.aux / 2 ^ 64 = 0 then fld j.aux 31 0 else Nat.lor 0x01000000 (j.aux / 2 ^ 64))] <+: t.out) ∧
      RingWork { s with mem := t.mem, age := t.age, ports := t.ports } t)

/-! ### POWER_REQ, the store's commands, alerts -/

/-- A POWER_REQ for the present state completes with its code, or, from the register, changes nothing; Trim asked for in Run
waits for a latch point while scan-out is RUNNING and takes effect at once, with its completion or RESULT 1, while it is
STOPPED; Hold asked for in Run begins its entry (R87, R328 to R330, R335). -/
def Obligations.PowerRequestsMove : Prop :=
  (∀ (e : Fin 72) (j : Job) (p : PowerState) (s : State), Starts e 10 j s → PowerState.ofCode (wd j.desc 2) = some p →
    (p = s.power.state → ∃ t, exec (.powerReq e) s = .next t ∧ Ends j 0 p.code (s.took e) t) ∧
    (s.power.state = .run → p = .trim → s.scan.state = .running →
      ∃ t, exec (.powerReq e) s = .next t ∧
        t = { s.took e with jobs := s.jobs ++ [{ j with stage := .running }], journals := t.journals,
                            power := { s.power with activity := true, move := .switch .trim, goal := .trim, since := s.time.count, before := .run, selfEntry := false, fromRing := some (j.ring, j.slot), fromReg := false } }) ∧
    (s.power.state = .run → p = .trim → s.scan.state = .stopped →
      ∃ t, exec (.powerReq e) s = .next t ∧ t.power.state = .trim ∧ t.power.move = .none ∧ t.Gone j ∧
        RingWork { s with power := t.power } t) ∧
    (s.power.state = .run → p = .hold →
      ∃ t k, exec (.powerReq e) s = .next t ∧ t.power.move = .entry k false ∧ t.power.goal = .hold ∧
        t.power.state = .run ∧ t.mem = s.mem ∧ t.regs = s.regs)) ∧
  (∀ (v : Nat) (p : PowerState) (s : State), s.Open → v < 2 ^ 32 → PowerState.ofCode (v % 8) = some p →
    powerRefused p s = false →
    (p = s.power.state → exec (.powerReqWrite v) s = .next s) ∧
    (s.power.state = .run → p = .trim → s.scan.state = .running →
      exec (.powerReqWrite v) s = .next { s with glob := { s.glob with busy := true, op := 3 }, power := { s.power with move := .switch .trim, goal := .trim, since := s.time.count, before := .run, selfEntry := false, fromRing := none, fromReg := true } }) ∧
    (s.power.state = .run → p = .trim → s.scan.state = .stopped →
      ∃ t, exec (.powerReqWrite v) s = .next t ∧ t.power.state = .trim ∧ t.power.move = .none ∧
        t.glob = { s.glob with busy := false, op := 3, done := true, result := 1 } ∧
        Reports { s with power := t.power, glob := t.glob } t))

/-- With the store idle, a command whose password is right and whose Mace check passes becomes the running operation: the ring
commands of R88 and the registers' of R361, R363, R376 and R378, the latter with NVS_STATUS and GLOBAL_BUSY. A ring command of
no bytes completes with OK (R75), an NVS_WRITE whose host read fails with MEDIA (R77, R88) and a free DETAIL (log entry 91); a wrong password costs one of three
attempts and completes with ACCESS and the attempts left, and partitions 0 and 3 take no write (R362). -/
def Obligations.StoreCommandsStart : Prop :=
  (∀ (e : Fin 72) (op part : Nat) (j : Job) (s : State) (data : Option (List Nat)), Starts e op j s → part = wd j.desc 2 % 4 →
    s.nvs.current = none → s.nvs.scanned = true → s.nvs.queue = [] → bit s.nvs.locked part = false →
    (op = 11 → passwordOf s part false = some (wd64 j.desc 4) →
      (0 < fld (wd j.desc 3) 31 16 →
        ∃ t, exec (.nvsRead e) s = .next t ∧
          t = { s.took e with jobs := s.jobs ++ [{ j with stage := .running }], journals := t.journals,
                              nvs := { s.nvs with fails := s.nvs.fails.set part 0, current := some (.ringRead j.ring j.slot part (fld (wd j.desc 2) 15 8) (fld (wd j.desc 3) 15 0) (fld (wd j.desc 3) 31 16) (wd64 j.desc 6)) } }) ∧
      (fld (wd j.desc 3) 31 16 = 0 →
        ∃ t, exec (.nvsRead e) s = .next t ∧
          Ends j 0 0 { s.took e with nvs := { s.nvs with fails := s.nvs.fails.set part 0 } } t)) ∧
    (op = 11 → passwordOf s part false ≠ some (wd64 j.desc 4) → wd s.nvs.fails part < 2 →
      ∃ t, exec (.nvsRead e) s = .next t ∧
        Ends j 5 (2 - wd s.nvs.fails part)
          { s.took e with nvs := { s.nvs with fails := s.nvs.fails.set part (wd s.nvs.fails part + 1) } } t) ∧
    (op = 12 → (part = 0 ∨ part = 3) →
      ∃ t, exec (.nvsWrite e data) s = .next t ∧ Ends j 5 (3 - wd s.nvs.fails part) (s.took e) t) ∧
    (op = 12 → part ≠ 0 → part ≠ 3 → passwordOf s part true = some (wd64 j.desc 4) →
      (fld (wd j.desc 3) 31 16 = 0 →
        ∃ t, exec (.nvsWrite e data) s = .next t ∧
          Ends j 0 0 { s.took e with nvs := { s.nvs with fails := s.nvs.fails.set part 0 } } t) ∧
      (0 < fld (wd j.desc 3) 31 16 → hostBytes (fld (wd j.desc 3) 31 16) data = none →
        ∃ t d, exec (.nvsWrite e data) s = .next t ∧
          Ends j 7 d { s.took e with free := s.free + 1, nvs := { s.nvs with fails := s.nvs.fails.set part 0 },
                                     out := s.out ++ [.hostRead (wd64 j.desc 6) (fld (wd j.desc 3) 31 16)] } t) ∧
      (∀ l, 0 < fld (wd j.desc 3) 31 16 → hostBytes (fld (wd j.desc 3) 31 16) data = some l → maceReason s = 0 →
        ∃ t, exec (.nvsWrite e data) s = .next t ∧
          t.nvs.current = some (.ringWrite j.ring j.slot part (fld (wd j.desc 2) 15 8) (fld (wd j.desc 3) 15 0) l) ∧
          t.nvs.queue = [] ∧
          t = { s.took e with jobs := s.jobs ++ [{ j with stage := .running }], journals := t.journals, nvs := t.nvs,
                              out := s.out ++ [.hostRead (wd64 j.desc 6) (fld (wd j.desc 3) 31 16)] })) ∧
    (op = 12 → part ≠ 0 → part ≠ 3 → passwordOf s part true ≠ some (wd64 j.desc 4) → wd s.nvs.fails part < 2 →
      ∃ t, exec (.nvsWrite e data) s = .next t ∧
        Ends j 5 (2 - wd s.nvs.fails part)
          { s.took e with nvs := { s.nvs with fails := s.nvs.fails.set part (wd s.nvs.fails part + 1) } } t) ∧
    (op = 13 → passwordOf s part true = some (wd64 j.desc 4) → s.nvs.pwrfailHigh = true → s.nvs.supplyOk = true →
      energyNeed (recordPages (recordBytes s) + 10) ≤ energyAt s.nvs.capUf s.nvs.vhold →
      ∃ t, exec (.nvsSave e) s = .next t ∧ t.nvs.current = some (.ringSave j.ring j.slot) ∧ t.nvs.queue = [] ∧
        t = { s.took e with jobs := s.jobs ++ [{ j with stage := .running }], journals := t.journals, nvs := t.nvs }) ∧
    (op = 13 → passwordOf s part true ≠ some (wd64 j.desc 4) → wd s.nvs.fails part < 2 →
      ∃ t, exec (.nvsSave e) s = .next t ∧
        Ends j 5 (2 - wd s.nvs.fails part)
          { s.took e with nvs := { s.nvs with fails := s.nvs.fails.set part (wd s.nvs.fails part + 1) } } t)) ∧
  (∀ (v part : Nat) (s : State), s.Open → v < 2 ^ 32 → part = fld v 5 4 → fld v 13 8 < partPages part →
    s.nvs.reading = false → s.ringNvs = false → s.nvs.current = none → s.nvs.scanned = true → s.nvs.queue = [] →
    bit s.nvs.locked part = false →
    (passwordOf s part false = some s.nvs.pass →
      ∃ t, exec (.nvsCmdRead v) s = .next t ∧ t = { s with regs := t.regs, nvs := t.nvs } ∧ t.nvs.reading = true ∧
        t.nvs.lastOp = 1 ∧
        t.nvs.current = some (.regRead part (fld v 13 8) (s.f .nvsRange 10 0) (s.f .nvsRange 27 16))) ∧
    (part = 0 ∨ part = 3 →
      ∃ t, exec (.nvsCmdWrite v) s = .next t ∧ t.nvs.result = 5 ∧
        t.glob = { s.glob with op := 1, done := true, result := 5 } ∧ t = { s with regs := t.regs, nvs := t.nvs, glob := t.glob }) ∧
    (part ≠ 0 → part ≠ 3 → passwordOf s part true = some s.nvs.pass → 0 < s.f .nvsRange 27 16 → maceReason s = 0 →
      ∃ t, exec (.nvsCmdWrite v) s = .next t ∧ t.glob = { s.glob with busy := true, op := 1 } ∧ t.nvs.lastOp = 2 ∧
        t.nvs.current = some (.regWrite part (fld v 13 8) (s.f .nvsRange 10 0) (s.f .nvsRange 27 16)) ∧
        t = { s with regs := t.regs, nvs := t.nvs, glob := t.glob }) ∧
    (part = 3 → passwordOf s 3 true = some s.nvs.pass → s.nvs.pwrfailHigh = true → s.nvs.supplyOk = true →
      energyNeed (recordPages (recordBytes s) + 10) ≤ energyAt s.nvs.capUf s.nvs.vhold →
      ∃ t, exec (.nvsCmdSave v) s = .next t ∧ t.glob = { s.glob with busy := true, op := 2 } ∧ t.nvs.lastOp = 3 ∧
        t.nvs.current = some .regSave ∧ t = { s with regs := t.regs, nvs := t.nvs, glob := t.glob })) ∧
  (∀ (v : Nat) (s : State), s.Open → v < 2 ^ 32 → s.glob.unlocked = true → s.ringNvs = false → s.nvs.current = none →
    s.nvs.scanned = true → s.nvs.queue = [] → bit s.nvs.locked (v % 4) = false → v % 4 ≠ 0 →
    passwordOf s (v % 4) true = some s.nvs.pass → maceReason s = 0 →
    ∃ t, exec (.setPassword v) s = .next t ∧
      t.glob = { s.glob with busy := true, op := 1, unlocked := false } ∧ t.nvs.lastOp = 5 ∧
      t.nvs.current = some (.setPassword (v % 4) (bit v 2)) ∧
      t = { s with regs := t.regs, nvs := t.nvs, glob := t.glob })

/-- The ends of store operations (R54, R356, R357, R376): a read puts the page's bytes into NVS_BUF, or ends with MEDIA and
reason 4 where no copy can be read; a page write puts the new data, one write sequence number higher, into its target page and
touches no other page; a save ends its GLOBAL_BUSY with OK. LOG_APPEND_RETRY starts a refused log write again (R365), and a
capacitance measurement opens and closes the charge switch around its result (R364). -/
def Obligations.StoreOperationsEnd : Prop :=
  (∀ (part page off len : Nat) (s : State), s.power.move = .none → s.nvs.current = some (.regRead part page off len) →
    s.nvs.queue = [] → off + len ≤ 2048 →
    (∀ d, s.readPage part page = some d →
      ∃ t, exec .nvsReadEnd s = .next t ∧ (∀ i, i < len → t.bufByte (off + i) = Tab.get 0 (off + i) d % 256) ∧
        t = { s with regs := t.regs, nvs := { s.nvs with current := none, reading := false, result := 0, reason := 0 } } ∧
        (∀ q : Reg, (∀ k, k < 512 → q.addr ≠ (Reg.nvsBuf k).addr) → t.rd q = s.rd q)) ∧
    (s.readPage part page = none →
      exec .nvsReadEnd s =
        .next { s with nvs := { s.nvs with current := none, reading := false, result := 7, reason := 4 } })) ∧
  (∀ (part page off len p : Nat) (f : Bool) (s : State), s.power.move = .none →
    s.nvs.current = some (.regWrite part page off len) → s.nvs.queue = [] → p = writeTarget s part page →
    (s.phys p).wear < 1000000 →
    ∃ t, exec (.nvsPageWriteEnd f false) s = .next t ∧
      (t.phys p).data = mergeData ((s.readPage part page).getD []) off
        ((List.range len).map fun i => s.bufByte (off + i)) ∧
      (t.phys p).part = part ∧ (t.phys p).lpage = page ∧ (t.phys p).wear = (s.phys p).wear + 1 ∧
      (t.phys p).seq = (match s.bestCopy part page with | some c => c.2.seq + 1 | none => 1) ∧
      (∀ q, q ≠ p → t.phys q = s.phys q) ∧
      t = { s with nvs := { s.nvs with current := none, reading := false, result := 0, reason := 0, pages := t.nvs.pages },
                   glob := { s.glob with busy := false, done := true, result := 0 } }) ∧
  (∀ (v : SaveCopy) (s : State), s.nvs.current = some .regSave → s.nvs.keepCopy = some v →
    s.nvs.queue = [] →
    ∃ t, exec .nvsSaveEnd s = .next t ∧ t.glob = { s.glob with busy := false, done := true, result := 0 } ∧
      t.nvs.result = 0 ∧ t.nvs.keepCopy = none ∧ t.mem = s.mem ∧ t.regs = s.regs ∧ t.bist = s.bist ∧ t.age = s.age) ∧
  (∀ (k time : Nat) (l : List Nat) (s : State), s.nvs.current = none → s.nvs.scanned = true →
    s.nvs.queue = [.append k time l] → maceReason s = 0 →
    ∃ t, exec .logAppendRetry s = .next t ∧ t.nvs.current = some (.append k time l) ∧ t.nvs.queue = [] ∧
      t.nvs.retry = false ∧ t = { s with nvs := t.nvs }) ∧
  (∀ s : State, s.nvs.measuring = false → s.nvs.current = none → (s.power.state = .run ∨ s.power.state = .trim) →
    exec .capMeasure s =
      .next { s with nvs := { s.nvs with measuring := true }, out := s.out ++ [.holdSwitch false true] }) ∧
  (∀ (vhold fall : Nat) (s : State), s.nvs.measuring = true → 0 < fall →
    ∃ t, exec (.capMeasureEnd vhold fall) s = .next t ∧ t.nvs.capUf = 20000 / fall ∧ t.nvs.vhold = vhold ∧
      t.nvs.vholdMv = vhold ∧ t.nvs.measuring = false ∧ t.nvs.lastMeasure = s.time.count ∧
      t.nvs.availUj = satU (energyAt (20000 / fall) vhold) 16 ∧ s.out ++ [.holdSwitch true false] <+: t.out ∧
      Reports { s with nvs := t.nvs } t)

/-- An alert shown or cleared while scan-out is neither RUNNING nor HELD takes effect at once and completes with the next frame
number; a clear with none shown completes at once in every state. While HELD the change is kept for the wake. While RUNNING it
replaces a command that is still outstanding, which completes with ABORTED, and, no sweep running, waits in every serving pipe
for its alert point; the command stays outstanding while an alert point that it waits for is to come (R89, R315, R316, R323). A
pipe at its alert point takes the change and yields its open window (R318, R321); its sweep ends when its last packet has left
(R319), and the last sweep that a command waits for completes it. -/
def Obligations.AlertsShowAndSweep : Prop :=
  (∀ (e : Fin 72) (c : Instr) (op : Nat) (new : Option AlertSurf) (j : Job) (s : State),
    (c = .alertShow e ∧ op = 16 ∧
        new = some { surf := descSurface j.desc 2, alpha := fld (wd j.desc 2) 15 8, x := fld (wd j.desc 3) 15 0,
                     y := fld (wd j.desc 3) 31 16 }) ∨
      (c = .alertClear e ∧ op = 17 ∧ new = none ∧ s.alert.work ≠ none) →
    Starts e op j s →
    (s.scan.state ≠ .running → s.scan.state ≠ .held →
      ∃ t, exec c s = .next t ∧
        t.alert = { s.alert with work := new, old := if s.sweeping then s.alert.old ++ s.alert.work.toList else [],
                                 changes := (s.alert.changes + 1) % 65536 } ∧
        Ends j 0 ((s.scan.frame + 1) % 2 ^ 32)
          { s.took e with alert := t.alert, scan := { s.scan with changed := true }, pipes := t.pipes } t) ∧
    (s.scan.state = .held → (∀ k, s.alert.cmd = some k → ¬(k.ring = j.ring ∧ k.slot = j.slot)) →
      ∃ t, exec c s = .next t ∧ t.alert.work = new ∧ t.alert.waiting = true ∧
        t.alert.old = s.alert.old ++ s.alert.work.toList ∧
        (t.alert.cmd.map fun k => (k.ring, k.slot)) = some (j.ring, j.slot) ∧ { j with stage := .running } ∈ t.jobs ∧
        RingWork { s with alert := t.alert } t) ∧
    (s.scan.state = .running → (∀ k, s.alert.cmd = some k → ¬(k.ring = j.ring ∧ k.slot = j.slot)) →
      (∀ x ∈ s.servingPipes, (s.pipe x.1).sweep = none) →
      ∃ t, exec c s = .next t ∧ t.alert.work = new ∧ RingWork { s with alert := t.alert } t ∧
        (∀ x ∈ s.servingPipes, (t.pipe x.1).sweep = none ∧ ∃ l, (t.pipe x.1).waiting = some l ∧
          ∀ r ∈ (s.alert.work.toList ++ new.toList).map AlertSurf.rect, r ∈ l) ∧
        (∀ k o, s.alert.cmd = some k → s.jobAt k.ring k.slot = some o → t.Gone o ∧
          ((s.took e).CqTakes o.ring →
            s.out ++ [(s.took e).compOut o.ring o.slot (fld (wd o.desc 0) 31 16) o.opcode 6 0] <+: t.out)) ∧
        ((∃ x ∈ s.servingPipes, if s.servingPipes.any (fun y => s.healthy y.2) then s.healthy x.2 = true
            else (s.port x.2).state = 2 ∧ s.pipeBad x.1 = false) →
          (t.alert.cmd.map fun k => (k.ring, k.slot)) = some (j.ring, j.slot) ∧ { j with stage := .running } ∈ t.jobs)) ∧
    (s.scan.state = .running → ∃ t, exec c s = .next t ∧ t.alert.work = new ∧ t.mem = s.mem ∧ t.layers = s.layers)) ∧
  (∀ (e : Fin 72) (j : Job) (s : State), Starts e 17 j s → s.alert.work = none →
    ∃ t, exec (.alertClear e) s = .next t ∧
      t.alert = { s.alert with changes := (s.alert.changes + 1) % 65536, latency := t.alert.latency } ∧
      (s.scan.state ≠ .running → t.alert.latency = s.alert.latency) ∧
      Ends j 0 ((s.scan.frame + 1) % 2 ^ 32) { s.took e with alert := t.alert } t) ∧
  (∀ (i : Fin 40) (p : Nat) (r : List Rect) (s : State), s.power.move = .none → (s.pipe i).waiting = some r →
    s.portOf i = some p → s.pipeBad i = false → (s.span (pipeSpan i)).running = true →
    (s.atAlertPoint i = true →
      ∃ t, exec (.alertPoint i) s = .next t ∧ (t.pipe i).waiting = none ∧ (t.pipe i).alert = s.alert.work ∧
        (s.scan.windowOpen = true → (s.pipe i).yielded = false → (t.pipe i).yielded = true ∧ (t.pipe i).todo = []) ∧
        t.mem = s.mem ∧ t.layers = s.layers ∧ t.work = s.work ∧ t.scan = s.scan) ∧
    (s.atAlertPoint i = false → exec (.alertPoint i) s = .next s)) ∧
  (∀ (i : Fin 40) (p : Nat) (r : List Rect) (s : State), s.power.move = .none → (s.pipe i).sweep = some r →
    s.portOf i = some p →
    ((s.port p).txAlr ≠ [] → exec (.alertSweepEnd i) s = .next s) ∧
    ((s.port p).txAlr = [] →
      ∃ t, exec (.alertSweepEnd i) s = .next t ∧ (t.pipe i).sweep = none ∧ (t.pipe i).lane = 0 ∧ i.val ∉ t.alert.await ∧
        RingWork { s with alert := t.alert, codecs := t.codecs, ports := t.ports } t ∧
        (∀ k j, s.alert.cmd = some k → s.jobAt k.ring k.slot = some j → s.alert.waiting = false → s.alert.await = [i.val] →
          (∀ x ∈ s.servingPipes, (s.pipe x.1).waiting = none) → t.Gone j ∧ t.alert.cmd = none)))

/-! ### Scan-out, commits, the geometry check -/

/-- SCAN_START that R111 allows makes scan-out RUNNING where genlock is locked or FREERUN is 1, else ACQUIRING, with a frame
start to come, every pipe empty, and, free-running without lock, that start 2 to 4 cycles away (log entry 94); SCAN_STOP of a running scan-out
makes it STOPPING, of one that is ACQUIRING it makes it STOPPED (R112); EMIT_RELOAD is pending until the next latch point, and
does nothing while STOPPED (R146); RES_ENABLE starts every record afresh but for the F of the open frame, RES_DISABLE clears the
enable and lets nothing follow from the requests of Fennel that are left (R219). -/
def Obligations.ScanOutStartsAndStops : Prop :=
  (∀ (f : Bool) (s : State), s.Open → s.startAllowed = true →
    ∃ t, exec (.scanStart f) s = .next t ∧
      t.scan.state = (if s.scan.locked || f then .running else .acquiring) ∧ t.scan.next = .frameStart ∧
      t.scan.windowOpen = false ∧ t.scan.firstWindow = true ∧ t.scan.lockHeld = s.scan.locked ∧
      t.scan.frame = s.scan.frame ∧ t.scan.locked = s.scan.locked ∧ t.age = { s.age with missed := [] } ∧
      (s.scan.locked = false → f = true → ∃ k, t.scan.placed = some k ∧ s.cycles + 2 ≤ k ∧ k ≤ s.cycles + 4) ∧
      (s.scan.locked = true ∨ f = false → t.scan.placed = none) ∧
      (∀ i, i < 40 → (t.pipe i).load = none ∧ (t.pipe i).todo = [] ∧ (t.pipe i).opened = false) ∧
      t = { s with regs := t.regs, scan := t.scan, pipes := t.pipes, age := t.age, free := s.free + 1 } ∧
      t.rd .scanCtl = 4 * b2n f ∧ (∀ q : Reg, q.addr ≠ Reg.scanCtl.addr → t.rd q = s.rd q)) ∧
  (∀ (f : Bool) (s : State), s.Open →
    (s.scan.state = .running →
      exec (.scanStop f) s = .next { s.wr .scanCtl (4 * b2n f) with scan := { s.scan with state := .stopping } }) ∧
    (s.scan.state = .acquiring →
      ∃ t, exec (.scanStop f) s = .next t ∧ t.scan.state = .stopped ∧ t.scan.windowOpen = false ∧
        t.scan.frame = s.scan.frame ∧ t.mem = s.mem)) ∧
  (∀ s : State, s.Open →
    (s.scan.state ≠ .stopped → exec .emitReload s = .next { s with emitter := { s.emitter with pending := true } }) ∧
    (s.scan.state = .stopped → exec .emitReload s = .next s)) ∧
  (∀ (v : Nat) (s : State), s.Open → v < 2 ^ 32 →
    (s.b .resCtl 0 = false → s.bistReady = true →
      ∃ t, exec (.resEnable v) s = .next t ∧ t = { s with regs := t.regs, res := { s.res with cells := t.res.cells } } ∧
        (∀ c ∈ t.res.cells, c.2 = { f := c.2.f }) ∧
        (∀ c ∈ s.res.cells, c.2.f ≠ 32768 → (c.1, { f := c.2.f }) ∈ t.res.cells) ∧
        t.b .resCtl 0 = true ∧ (∀ q : Reg, q.addr ≠ Reg.resCtl.addr → t.rd q = s.rd q)) ∧
    (∃ t, exec (.resDisable v) s = .next t ∧
      t = { s with regs := t.regs, bist := { s.bist with queue := t.bist.queue, flights := t.bist.flights } } ∧
      t.b .resCtl 0 = false ∧ (s.b .resCtl 0 = true → ∀ r ∈ t.bist.queue, r.kind = .rerun ∨ r.void = true) ∧
      (s.b .resCtl 0 = true → ∀ k r, k < 64 → t.flight k = some r → r.kind = .rerun ∨ r.void = true) ∧
      (s.b .resCtl 0 = false → t.bist = s.bist) ∧ (∀ q : Reg, q.addr ≠ Reg.resCtl.addr → t.rd q = s.rd q)))

/-- A commit of a group while scan-out runs only sets the commit bit, and COMMIT_COMPLETE carries the bits to the frame timing
generator (R124); while scan-out is STOPPED the group's shadows become its working values at once, the bit reads 0, and the
latch frame is the frame number (R49, R126), and no commit is left for COMMIT_COMPLETE. -/
def Obligations.CommitsApply : Prop :=
  (∀ (c : Instr) (g : Group) (s : State), (c, g) ∈ [(Instr.scanCommit, Group.scan), (.layerCommit, .layer), (.resCommit, .res)] →
    s.Open → s.b (commitReg g) 0 = false → (∀ n, n < 64 → s.layerBreaks n = false) →
    (s.scan.state ≠ .stopped → exec c s = .next (s.wr (commitReg g) 1)) ∧
    (s.scan.state = .stopped →
      ∃ t, exec c s = .next t ∧ (∀ r ∈ groupRegs g, t.wk r = s.rd r) ∧
        (∀ r : Reg, (∀ q ∈ groupRegs g, q.addr ≠ r.addr) → t.wk r = s.wk r) ∧ t.rd (commitReg g) = 0 ∧
        (∀ r : Reg, r.addr ≠ (commitReg g).addr → t.rd r = s.rd r) ∧
        RingWork { s with regs := t.regs, work := t.work, scan := { s.scan with latchFrame := s.scan.frame % 2 ^ 32 } } t ∧
        ((∀ j ∈ s.jobs, j.stage ≠ .retiring) →
          t = { s with regs := t.regs, work := t.work, scan := { s.scan with latchFrame := s.scan.frame % 2 ^ 32 } }))) ∧
  (∀ s : State,
    (s.scan.state ≠ .stopped →
      exec .commitComplete s = .next { s with scan := { s.scan with
        commitScan := s.b .scanCommit 0, commitLayer := s.b .layerCommit 0, commitRes := s.b .resCommit 0 } }) ∧
    (s.scan.state = .stopped → (∀ g, s.b (commitReg g) 0 = false) → exec .commitComplete s = .next s))

/-- A frame start of running scan-out sends a SYN that names the shown frame, with the SKIP and RESUME flags and the period, on
every port that is UP and sends, and a latch point comes next (R104, R289). A latch point opens the next frame's window, and
the commits that have reached the frame timing generator apply in it (R104, R125); the latch point of a stop closes the window
and opens none, and the frame start after it makes scan-out STOPPED, or HELD where it hands over to a power state (R112, R113). -/
def Obligations.FrameStartsAndLatchPoints : Prop :=
  (∀ (dt : Nat) (s u : State), u = advance dt s → u.scan.next = .frameStart → u.scan.state = .running →
    u.scan.closed = false → u.power.move = .none →
    ∃ t, exec (.frameStart dt) s = .next t ∧ t.scan.next = .latch ∧ t.scan.lastStart = some u.cycles ∧
      t.scan.placed = none ∧ t.scan.state = .running ∧ t.scan.frame = u.scan.frame ∧
      (∀ p, p < 32 → (u.port p).state = 2 → (u.port p).sends = true →
        (t.port p).txSyn = (u.port p).txSyn ++ [packetBytes 1 0 (leBytes 4 u.scan.show_ ++
          [2 * b2n (u.codec (u.pipeOf p)).skipSyn + 4 * b2n (decide (0 < u.faultg.resumeFrames)), 0, 0, 0] ++
          leBytes 4 u.framePeriod)]) ∧
      (∀ p, ¬(p < 32 ∧ (u.port p).state = 2 ∧ (u.port p).sends = true) → t.port p = u.port p) ∧
      t.faultg = { u.faultg with resumeFrames := u.faultg.resumeFrames - 1 } ∧
      t = { u with ports := t.ports, scan := t.scan, faultg := t.faultg }) ∧
  (∀ (dt : Nat) (s u : State), u = advance dt s → u.scan.next = .latch → u.scan.state = .running →
    u.scan.handover = false → u.power.move = .none →
    ∃ t, exec (.latchPoint dt) s = .next t ∧ t.scan.next = .frameStart ∧ t.scan.state = .running ∧
      t.scan.windowOpen = true ∧ t.scan.frame = u.scan.frame + 1 ∧
      (u.scan.windowOpen = true → t.scan.show_ = u.scan.frame % 2 ^ 32) ∧
      t.scan.commitScan = false ∧ t.scan.commitLayer = false ∧ t.scan.commitRes = false ∧
      (∀ g, u.committed g = true → ∀ r ∈ groupRegs g, t.wk r = u.rd r) ∧
      (∀ g, u.committed g = false → ∀ r ∈ groupRegs g, t.wk r = u.wk r) ∧
      (∀ j ∈ t.jobs, j.stage ≠ .binding) ∧ t.emitter.pending = false ∧ t.glob = u.glob ∧ t.time = u.time ∧
      t.power.state = u.power.state ∧ t.nvs.pages = u.nvs.pages) ∧
  (∀ (dt : Nat) (s u : State), u = advance dt s → u.scan.next = .latch → u.scan.state = .stopping →
    u.power.move = .none →
    ∃ t, exec (.latchPoint dt) s = .next t ∧ t.scan.next = .frameStart ∧ t.scan.state = .stopping ∧
      t.scan.closed = true ∧ t.scan.windowOpen = false ∧ t.scan.frame = u.scan.frame ∧ t.work = u.work ∧
      t.layers = u.layers) ∧
  (∀ (dt : Nat) (s u : State), u = advance dt s → u.scan.next = .frameStart → u.scan.closed = true →
    u.power.move = .none →
    (u.scan.state = .stopping →
      ∃ t, exec (.frameStart dt) s = .next t ∧ t.scan.state = .stopped ∧ t.scan.closed = false ∧ t.scan.windowOpen = false ∧
        t.scan.frame = u.scan.frame ∧ t.mem = u.mem) ∧
    (u.scan.state = .running →
      ∃ t, exec (.frameStart dt) s = .next t ∧ t.scan.state = .held ∧ t.scan.closed = false ∧ t.scan.frame = u.scan.frame ∧
        t = { u with ports := t.ports, scan := t.scan, faultg := t.faultg }))

/-- Genlock (R106, R107): an edge of the other direction only lets time pass; the first active edge is the reference; one a
full period after it, within the lock range, is measured; the fourth in range gives the lock; while locked each such edge places
the next frame start at OFFSET after it and ends holdover; one that re-phases does so only where the period before that start is
long enough (R108). An edge that comes too early is out of range. A window that passes with no edge restarts the measurement.
Out of range while locked is a slip with holdover, and the third in a row loses the lock, is an event and detects GENLOCK LOSS
(R109). In Keep, four edges after a loss are a return (R341). What is due before an edge is
the model's reading (log entry 93). -/
def Obligations.GenlockMeasuresAndLocks : Prop :=
  (∀ (dt : Nat) (r : Bool) (s u : State), u = advance dt s →
    (r = u.b .scanGenlockOffset 31 → exec (.genlockEdge dt r) s = .next u) ∧
    (r = !u.b .scanGenlockOffset 31 → u.time.running = false → u.power.state ≠ .keep → exec (.genlockEdge dt r) s = .next u) ∧
    (r = !u.b .scanGenlockOffset 31 → u.time.running = false → u.power.state = .keep →
      (u.power.keepLost = false → exec (.genlockEdge dt r) s = .next u) ∧
      (u.power.keepLost = true → u.power.keepEdges < 3 →
        exec (.genlockEdge dt r) s = .next { u with power := { u.power with keepEdges := u.power.keepEdges + 1 } }) ∧
      (u.power.keepLost = true → 3 ≤ u.power.keepEdges → u.b .powerWakeEn 4 = false →
        exec (.genlockEdge dt r) s = .next { u with power := { u.power with keepLost := false, keepEdges := 0 } }))) ∧
  (∀ (dt : Nat) (r : Bool) (s u : State), u = advance dt s → r = !u.b .scanGenlockOffset 31 → u.time.running = true →
    u.scan.returning = false → u.cycles ≤ u.scan.windowFrom + u.nominal + u.lockRange →
    (u.power.state ≠ .hold ∨ u.b .powerWakeEn 3 = false ∧ u.b .powerWakeEn 4 = false) →
    (u.scan.reference = none →
      exec (.genlockEdge dt r) s = .next { u with scan := { u.scan with lastEdge := some u.cycles, reference := some u.cycles, windowFrom := u.cycles } }) ∧
    (∀ a, u.scan.reference = some a → u.nominal ≤ u.cycles - a + u.lockRange →
      (u.scan.locked = false → u.scan.inRange < 3 →
        exec (.genlockEdge dt r) s = .next { u with scan := { u.scan with lastEdge := some u.cycles, reference := some u.cycles, windowFrom := u.cycles, period := some (u.cycles - a), outRange := 0, measured := min (u.cycles - a) 0x7FFFFF, inRange := u.scan.inRange + 1, lastAccepted := some u.cycles } }) ∧
      (u.scan.locked = false → 3 ≤ u.scan.inRange →
        ∃ t, exec (.genlockEdge dt r) s = .next t ∧ t.scan.locked = true ∧ t.scan.inRange = 4 ∧
          t.scan.everLocked = true ∧ t.scan.period = some (u.cycles - a) ∧ t.scan.lastAccepted = some u.cycles ∧
          t.scan.state = (if u.scan.state = .acquiring then .running else u.scan.state) ∧
          ((∀ l, u.scan.lastStart = some l → l + u.activeCycles + 5000 ≤ u.cycles + u.genlockOffset) →
            t.scan.placed = some (u.cycles + u.genlockOffset) ∧ t.scan.holdover = false) ∧
          (∀ l, u.scan.lastStart = some l → u.cycles + u.genlockOffset < l + u.activeCycles + 5000 → t.scan.placed = none) ∧
          Reports { u with scan := t.scan } t) ∧
      (u.scan.locked = true → u.scan.rephase = false →
        exec (.genlockEdge dt r) s = .next { u with scan := { u.scan with lastEdge := some u.cycles, reference := some u.cycles, windowFrom := u.cycles, period := some (u.cycles - a), outRange := 0, measured := min (u.cycles - a) 0x7FFFFF, inRange := min 4 (u.scan.inRange + 1), lastAccepted := some u.cycles, placed := some (u.cycles + u.genlockOffset), holdover := false } })) ∧
    (∀ a, u.scan.reference = some a → u.cycles - a + u.lockRange < u.nominal →
      (u.scan.locked = false →
        exec (.genlockEdge dt r) s = .next { u with scan := { u.scan with lastEdge := some u.cycles, inRange := 0 } }) ∧
      (u.scan.locked = true → u.scan.outRange < 2 →
        exec (.genlockEdge dt r) s = .next { u with scan := { u.scan with lastEdge := some u.cycles, inRange := 0, slips := (u.scan.slips + 1) % 256, outRange := u.scan.outRange + 1, holdover := true } }) ∧
      (u.scan.locked = true → 2 ≤ u.scan.outRange →
        ∃ t, exec (.genlockEdge dt r) s = .next t ∧ t.scan.locked = false ∧ t.scan.holdover = true ∧
          t.scan.lossPeriod = u.scan.period ∧ bit (t.fault 7).sticky 0 = true ∧ Reports { u with scan := t.scan } t))) ∧
  (∀ (dt : Nat) (s u : State), u = advance dt s →
    (u.time.running = false → exec (.genlockWindowExpiry dt) s = .next u) ∧
    (u.time.running = true → u.scan.locked = false →
      exec (.genlockWindowExpiry dt) s = .next { u with scan := { u.scan with reference := none, windowFrom := u.cycles, inRange := 0 } }) ∧
    (u.time.running = true → u.scan.locked = true → u.scan.outRange < 2 →
      exec (.genlockWindowExpiry dt) s = .next { u with scan := { u.scan with reference := none, windowFrom := u.cycles, inRange := 0, slips := (u.scan.slips + 1) % 256, outRange := u.scan.outRange + 1, holdover := true } }) ∧
    (u.time.running = true → u.scan.locked = true → 2 ≤ u.scan.outRange →
      (u.power.state ≠ .hold ∨ u.b .powerWakeEn 3 = false) →
      ∃ t, exec (.genlockWindowExpiry dt) s = .next t ∧ t.scan.locked = false ∧ t.scan.holdover = true ∧
        t.scan.reference = none ∧ t.scan.lossPeriod = u.scan.period ∧ bit (t.fault 7).sticky 0 = true ∧
        Reports { u with scan := t.scan } t))

/-- GEOM_CHECK_END (R23, R24): a geometry that passes every test is accepted: VALID is 1, ERROR, PORT and HOP are 0, and the
copies hold the wall size and every port's chain as set; a failure leaves VALID at 0 and names the first error, its port and
its hop. -/
def Obligations.GeometryCheckEnds : Prop :=
  ∀ s : State, s.geom.busy = true →
    (∀ acc, geomCheck s = .ok acc →
      ∃ t, exec .geomCheckEnd s = .next t ∧ t.geom.valid = true ∧ t.geom.busy = false ∧ t.geom.error = 0 ∧
        t.geom.port = 0 ∧ t.geom.hop = 0 ∧ t.geom.width = s.f .scanWallSize 15 0 ∧
        t.geom.height = s.f .scanWallSize 31 16 ∧
        (∀ p, p < 32 → t.chain p = { tiles := s.setTiles p, looped := s.setLooped p }) ∧
        (∀ p, 32 ≤ p → t.chain p = {}) ∧ t.bist = { s.bist with stateReady := false } ∧
        t = { s with geom := t.geom, age := { s.age with cards := t.age.cards }, bist := t.bist, free := s.free + 1 }) ∧
    (∀ e p h, geomCheck s = .error (e, p, h) →
      exec .geomCheckEnd s = .next { s with geom := { s.geom with busy := false, versions := [], error := e, port := p, hop := h }, free := s.free + 1 })

/-- Fetched data fill a pipe's line buffer up to its 176 KiB, or its reserved lane up to 16 KiB (R123, R320). A pixel pair of a
pipe that neither stalls nor sweeps nor stands at an alert point leaves as one output of both pixels' codes, and the pipe goes on
by two columns, or to its next segment after the last (R127, R287); one that stalls on its output buffer or on an empty line
buffer, sweeps, or stands at an alert point stays where it is (R123, R248, R318); what checks find nothing. When a pair needs data of the
buffer is the model's choice (log entry 97). -/
def Obligations.PixelPairsFlow : Prop :=
  (∀ (i : Fin 40) (kib : Nat) (s : State), s.power.move = .none → (s.span (pipeSpan i)).running = true →
    s.pipeBad i = false →
    (∃ t, exec (.lineBufferFetch i kib false .ok) s = .next t ∧ (t.pipe i).fill = min 176 ((s.pipe i).fill + kib) ∧
      (t.pipe i).lane = (s.pipe i).lane ∧ (∀ k, k ≠ i.val → t.pipe k = s.pipe k) ∧
      t = { s with pipes := t.pipes, memc := t.memc }) ∧
    (∃ t, exec (.lineBufferFetch i kib true .ok) s = .next t ∧ (t.pipe i).lane = min 16 ((s.pipe i).lane + kib) ∧
      (t.pipe i).fill = (s.pipe i).fill ∧ (∀ k, k ≠ i.val → t.pipe k = s.pipe k) ∧
      t = { s with pipes := t.pipes, memc := t.memc })) ∧
  (∀ (i : Fin 40) (tile v : Nat) (rest : List (Nat × Nat)) (ld : Load) (s : State), s.power.move = .none →
    (s.span (pipeSpan i)).running = true → s.pipeBad i = false → (s.pipe i).todo = (tile, v) :: rest →
    (s.pipe i).load = some ld →
    (s.pipeStalled i = false → (s.pipe i).sweep = none → s.atAlertPoint i = false → s.starved i tile v ld = false →
      ∃ t, exec (.pixelProcess i .ok) s = .next t ∧
        (t.pipe i).col = (if (s.familyOf tile).tileW ≤ (s.pipe i).col + 2 then 0 else (s.pipe i).col + 2) ∧
        (t.pipe i).todo = (if (s.familyOf tile).tileW ≤ (s.pipe i).col + 2 then rest else (tile, v) :: rest) ∧
        ((s.pipe i).skipping = false → ∃ codes, t.out.getLast? =
          some (.pixels i ((s.placement tile).x + (s.pipe i).col) ((s.placement tile).y + v) codes)) ∧
        (∀ k, k ≠ i.val → t.pipe k = s.pipe k) ∧ t.jobs = s.jobs ∧ t.regs = s.regs ∧ t.scan = s.scan ∧ t.ports = s.ports ∧
        t.geom = s.geom ∧ t.layers = s.layers ∧ t.power.state = s.power.state) ∧
    (s.pipeStalled i = true ∨ (s.pipe i).sweep ≠ none ∨ s.atAlertPoint i = true ∨ s.starved i tile v ld = true →
      exec (.pixelProcess i .ok) s = .next s))

/-! ### Ageing -/

/-- AGE_CLEAR_END (R152): every counter of every tile reads 0, every byte of memory either stays or becomes 0, the Cardamom
records are 0, and the map is ready. -/
def Obligations.AgeClearEndZeroes : Prop :=
  ∀ s : State, s.age.clearing = true →
    ∃ t, exec .ageClearEnd s = .next t ∧ t.age.mapReady = true ∧ t.age.clearing = false ∧ t.age.a0 = [] ∧
      (∀ i ∈ s.allTiles, t.card i = 0 ∧ ∀ u v c, u < (s.rectOf i).w → v < (s.rectOf i).h → c < 3 →
        s.stressAddr ((s.rectOf i).x + u) ((s.rectOf i).y + v) c + 4 ≤ s.capacity →
        t.lez (s.stressAddr ((s.rectOf i).x + u) ((s.rectOf i).y + v) c) 4 = 0) ∧
      (∀ b, t.byte b = s.byte b ∨ t.byte b = 0) ∧ (s.MemOk → t.MemOk) ∧ t = { s with mem := t.mem, age := t.age }

/-- Knot passes (R160 to R162, R168): with Cardamom off a knot pass of a port writes target knots of its tiles and nothing
else, a knot step moves each applied knot one step towards its target and notes its frame, and the end of a seed pass clears SEEDING and sets SEEDED; a
checkpoint that falls due raises an EMITTER event of kind 4 while Anise and its interval are on. The Hold accrual pass of a
wake (R157): with Anise off it adds nothing; with a gap in TIME it records HOLD_GAP; either way, and after its increments, the
wake goes on to its last step. -/
def Obligations.KnotAndAccrualPassesRun : Prop :=
  (∀ (p : Fin 32) (s : State), s.knotsOn = true → s.scan.state = .running → s.portEngineOn p = true → s.b .ageCtl 2 = false →
    s.age.unlogged = [] →
    ∃ t, exec (.knotPass p) s = .next t ∧ Reports { s with mem := t.mem, memc := t.memc } t ∧ (s.MemOk → t.MemOk) ∧
      ∀ b, (∀ i ∈ s.fedTiles p, ∀ c, c < 3 → ∀ k ∈ s.knots i,
        b < targetAddr s i c k.1 k.2 ∨ targetAddr s i c k.1 k.2 + 2 ≤ b) → t.byte b = s.byte b) ∧
  (∀ (p : Fin 32) (s : State), s.knotsOn = true → s.age.seeding = false → s.scan.state = .running →
    s.scan.windowOpen = true → s.power.state = .run → s.portEngineOn p = true →
    Tab.get 0 p.val s.age.stepped ≠ s.scan.frame + 1 →
    ∃ t, exec (.knotStep p) s = .next t ∧
      Reports { s with mem := t.mem, memc := t.memc, age := { s.age with stepped := t.age.stepped } } t ∧
      Tab.get 0 p.val t.age.stepped = s.scan.frame + 1 ∧ (s.MemOk → t.MemOk) ∧ exec (.knotStep p) t = .next t ∧
      (∀ i ∈ s.fedTiles p, ∀ c, c < 3 → ∀ k ∈ s.knots i,
        s.knotAddr s.knotBase 0x2000 i c k.1 k.2 + 2 ≤ s.capacity →
        (∀ j ∈ s.fedTiles p, ∀ d, d < 3 → ∀ m ∈ s.knots j, (j, d, m) = (i, c, k) ∨
          s.knotAddr s.knotBase 0x2000 j d m.1 m.2 + 2 ≤ s.knotAddr s.knotBase 0x2000 i c k.1 k.2 ∨
          s.knotAddr s.knotBase 0x2000 i c k.1 k.2 + 2 ≤ s.knotAddr s.knotBase 0x2000 j d m.1 m.2) →
        t.lez (s.knotAddr s.knotBase 0x2000 i c k.1 k.2) 2 =
          stepKnot (s.lez (s.knotAddr s.knotBase 0x2000 i c k.1 k.2) 2) (s.lez (targetAddr s i c k.1 k.2) 2)) ∧
      ∀ b, (∀ i ∈ s.fedTiles p, ∀ c, c < 3 → ∀ k ∈ s.knots i,
        b < s.knotAddr s.knotBase 0x2000 i c k.1 k.2 ∨ s.knotAddr s.knotBase 0x2000 i c k.1 k.2 + 2 ≤ b) →
        t.byte b = s.byte b) ∧
  (∀ s : State, s.age.seeding = true → s.knotsOn = true → s.b .ageCtl 2 = false → s.age.unlogged = [] →
    ∃ t, exec .seedPassEnd s = .next t ∧ t.age.seeding = false ∧ t.age.seedRestore = false ∧ t.age.seeded = true ∧
      (s.MemOk → t.MemOk) ∧ Reports { s with mem := t.mem, memc := t.memc, age := t.age } t) ∧
  (∀ s : State,
    (s.anise = true → s.f .agePeriods 31 16 ≠ 0 →
      exec .checkpointDue s = .next (raiseEvent 10 5 [4, 0, 0, s.age.epoch] s)) ∧
    ((s.anise = false ∨ s.f .agePeriods 31 16 = 0) → exec .checkpointDue s = .next s)) ∧
  (∀ s : State, s.power.move = .wake 1 →
     (s.anise = false →
       exec .holdAccrualPass s = .next { s with power := { s.power with move := .wake 3 } }) ∧
     (s.anise = true → s.scan.state = .held → s.age.heldGap = true →
       ∃ t, exec .holdAccrualPass s = .next t ∧ bit (t.fault 10).sticky 2 = true ∧ t.power.move = .wake 3 ∧
         Reports { s with power := t.power } t) ∧
     (∃ t, exec .holdAccrualPass s = .next t ∧ t.power.move = .wake 3 ∧ t.regs = s.regs ∧ t.scan = s.scan ∧
       t.ports = s.ports ∧ (s.MemOk → t.MemOk)))

/-! ### The bistable layer -/

/-- BIST_INIT_END writes 0 to every byte of the records of every cell under a bistable tile, after which the state map is
ready, or detects RANGE where the maps do not fit (R180); BIST_CHECK_END names the first error or makes the tables valid
(R207); BIST_RECOVER of a record with no pass left puts its updates into the queue to run again (R206); an internal request
takes a free internal number and is done at once where it has nothing to drive, and with the queue empty, or every number in
use, nothing happens (R201, R218). -/
def Obligations.BistOperationsEnd : Prop :=
  (∀ s : State, s.bist.initialising = true → s.power.move = .none →
    (s.stateBase + s.geom.width / 2 * (s.geom.height / 2) * 10 ≤ s.capacity → s.parityBase + 131072 ≤ s.capacity →
      ∃ t, exec .bistInitEnd s = .next t ∧
        t.bist = { s.bist with initialising := false, stateReady := true } ∧
        (∀ i ∈ s.bistTiles, ∀ m, m < (s.rectOf i).h / 2 → ∀ c ∈ s.commonCells i m, ∀ k, k < 10 →
          t.byte (s.cellAddr c.1 c.2 + k) = 0) ∧
        (∀ b, t.byte b = s.byte b ∨ t.byte b = 0) ∧ (s.MemOk → t.MemOk) ∧
        t = { s with mem := t.mem, memc := t.memc, bist := t.bist }) ∧
    (s.capacity < s.stateBase + s.geom.width / 2 * (s.geom.height / 2) * 10 ∨ s.capacity < s.parityBase + 131072 →
      ∃ t, exec .bistInitEnd s = .next t ∧ t.bist = { s.bist with initialising := false } ∧
        bit (t.fault 11).sticky 2 = true ∧ Reports { s with bist := t.bist } t)) ∧
  (∀ s : State, s.bist.checking = true → s.power.move = .none →
    ∃ t, exec .bistCheckEnd s = .next t ∧ t.bist.checking = false ∧ t.bist.checkResult = bistCheckError s ∧
      (t.bist.tablesValid = true ↔ bistCheckError s = 0 ∨ s.bist.tablesValid = true) ∧
      (bistCheckError s ≠ 0 → t.bist.fams = s.bist.fams) ∧
      Reports { s with bist := { s.bist with checking := false, checkResult := t.bist.checkResult, tablesValid := t.bist.tablesValid, fams := t.bist.fams } } t) ∧
  (∀ s : State, s.Open → s.bist.initialising = false → s.bist.checking = false → s.bist.recovering = false →
    s.bistReady = true → s.bist.recUpdates ≠ [] → s.bist.recPasses = [] →
    ∃ t, exec .bistRecover s = .next t ∧ t.bist.recovering = true ∧ t.bist.recUpdates = [] ∧
      t.bist.queue = s.bist.queue ++ s.bist.recUpdates.map (fun u =>
        { kind := .rerun, cx := u.cx, cy := u.cy, cw := u.cw, ch := u.ch, addr := u.addr, pitch := u.pitch }) ∧
      t = { s with regs := t.regs, bist := t.bist } ∧ t.drive1 = true) ∧
  (∀ s : State,
    (s.bist.queue = [] → ∀ c bad, exec (.internalRequestStart c bad) s = .next s) ∧
    ((∀ k, k < 64 → s.flight k ≠ none) → exec (.internalRequestStart .ok []) s = .next s) ∧
    (∀ (r : Internal) (rest : List Internal) (k : Nat), s.bist.queue = r :: rest → k < 64 → s.flight k = none →
      (∀ m, m < k → s.flight m ≠ none) →
      ∃ t, exec (.internalRequestStart .ok []) s = .next t ∧ t.bist.queue = rest ∧ (s.MemOk → t.MemOk) ∧
        (∀ x, t.flight k = some x → x.kind = r.kind ∧ x.cx = r.cx ∧ x.cy = r.cy ∧ x.cw = r.cw ∧ x.ch = r.ch ∧ 0 < x.tally.left) ∧
        RingWork { s with mem := t.mem, bist := t.bist, res := t.res } t))

/-- A free drive channel takes a tile that has a pending common (R188), and none where no tile has one; a sweep that finds no
further pending common releases its tile; a pass start counts the common as visited, with the band and the voltage of the tile's
temperature (R186, R187, R189). A report of a sequence gap interrupts the pass (R204); one of the pass's next phase counts it
(R193); a port whose engine does not run acts on none (R28); a recovery takes the interrupted pass to a free channel (R204). A common that
becomes pending ahead of the sweep is in it (the model's choice, log entry 104). -/
def Obligations.PassesRun : Prop :=
  (∀ (p : Fin 32) (s : State),
    (∀ i, (s.drive (2 * p.val)).tile = none → i ∈ s.driveTiles p → s.drivable i = true → s.awaitsRecovery i = false →
      s.tilePending i = true → (s.drive (2 * p.val + 1)).tile ≠ some i → (∀ k ∈ s.driveTiles p, k ≠ i → s.tilePending k = false) →
      ∃ t, exec (.driveChannelTake p) s = .next t ∧
        t.drive (2 * p.val) = { s.drive (2 * p.val) with tile := some i, next := 0 } ∧
        (∀ k, k ≠ 2 * p.val → t.drive k = s.drive k) ∧ Tab.get 0 (2 * p.val) t.bist.lastTile = i + 1 ∧
        (∀ k, k ≠ 2 * p.val → Tab.get 0 k t.bist.lastTile = Tab.get 0 k s.bist.lastTile) ∧
        t = { s with bist := { s.bist with drives := t.bist.drives, lastTile := t.bist.lastTile } }) ∧
    ((∀ i ∈ s.driveTiles p, s.tilePending i = false) → exec (.driveChannelTake p) s = .next s)) ∧
  (∀ (p : Fin 32) (c : Fin 2) (i k : Nat) (s : State), k = 2 * p.val + c.val → s.power.move = .none →
    (s.drive k).tile = some i → (s.drive k).pass = none →
    ((∀ m, (s.drive k).next ≤ m → m < (s.rectOf i).h / 2 → s.commonPending i m = false) →
      exec (.passStart p c .ok []) s = .next (s.modDrive k fun d => { d with tile := none, next := 0 })) ∧
    (∀ m, s.drivable i = true → s.awaitsRecovery i = false → (s.drive k).next ≤ m → m < (s.rectOf i).h / 2 →
      s.commonPending i m = true → (∀ l, (s.drive k).next ≤ l → l < m → s.commonPending i l = false) →
      ∃ t, exec (.passStart p c .ok []) s = .next t ∧ (t.drive k).next = m + 1 ∧ (t.drive k).tile = some i ∧
        Tab.get 0 i t.bist.band = bandOf (s.tileTemp i) ∧
        Tab.get 0 i t.bist.vop = vopOf (s.bistFam i) (s.tileTemp i) (Tab.get 0 i s.bist.vop) ∧
        (∀ l, l ≠ k → t.drive l = s.drive l) ∧ (s.MemOk → t.MemOk) ∧
        RingWork { s with mem := t.mem, bist := t.bist, res := t.res, ports := t.ports } t)) ∧
  (∀ (p : Fin 32) (s : State), s.power.move = .none →
    (s.portEngineOn p = false → exec (.phaseDone p) s = .next s) ∧
    (∀ (x : Packet) (u : State) (k i : Nat) (pass : Pass), s.portEngineOn p = true → takeRx p 3 s = some (x, u) →
      i = s.chainOf p * 128 + (x.hop - 1) → s.passOf i = some k → (s.drive k).pass = some pass →
      (wd x.body 2 = 1 →
        exec (.phaseDone p) s = .next ({ u.modDrive k (fun _ => {}) with
          bist := { (u.modDrive k (fun _ => {})).bist with interrupted := s.bist.interrupted ++ [pass] } })) ∧
      (wd x.body 2 ≠ 1 → leVal (x.body.take 2) = (pass.seq0 + pass.done) % 65536 → pass.done < pass.sent →
        pass.done + 1 < pass.phases.length →
        ∃ t q, exec (.phaseDone p) s = .next t ∧ (t.drive k).pass = some q ∧ q.done = pass.done + 1 ∧
          q.cells = pass.cells ∧ (∀ l, l ≠ k → t.drive l = s.drive l) ∧ t.mem = s.mem ∧
          Reports { u with bist := t.bist, ports := t.ports } t))) ∧
  (∀ (p : Fin 32) (h : Fin 129) (i k : Nat) (x : Pass) (s : State), s.power.move = .none →
    i = s.chainOf p * 128 + (h.val - 1) → s.bist.interrupted.find? (fun x => x.tile == i) = some x →
    k = 2 * s.tileFeeder i → (s.drive k).tile = none → (s.drive k).pass = none → (s.drive (k + 1)).tile ≠ some i →
    s.drivable i = true →
    ∃ t, exec (.passRecovery p h) s = .next t ∧ t.bist.interrupted = s.bist.interrupted.erase x ∧
      (t.drive k).tile = some i ∧ bit (t.fault 11).sticky 3 = true ∧ (∀ l, l ≠ k → t.drive l = s.drive l) ∧
      (s.MemOk → t.MemOk) ∧ RingWork { s with mem := t.mem, bist := t.bist, res := t.res, ports := t.ports } t)

/-! ### Ports, lanes and links -/

/-- A port that the geometry gives a role starts its bring-up with that role when it is enabled: its clock runs (R250, R264). It
is UP when its receiving lane aligns on groups that meet R257: U0, or D0, or D1 where D0 is retired; in its bring-up, or out of
HELD where ports may be UP (R264, R268, R273). It is NO_PARTNER where it still trains at its TIMEOUT. Disabled or retrained while
UP it begins port idle, with its partner where its chain joins again (R267, R274, R306); at its PEI or after 1 ms the port idle
ends HELD where a power state asked for it, DOWN, or in a new bring-up; a RETURN port that is UP idles with its partner, and a
HELD port that is disabled is DOWN at once (R267, R307). -/
def Obligations.PortsComeUpAndIdle : Prop :=
  (∀ (p : Fin 32) (v : Nat) (s : State), s.Open → v < 2 ^ 32 → fld v 3 1 = 0 → s.b (.portCtl p) 0 = false →
    roleOf s p ≠ 0 → (s.port p).state = 0 →
    ∃ t, exec (.portEnable p v) s = .next t ∧ (t.port p).state = 1 ∧ (t.port p).role = roleOf s p ∧
      (t.port p).done = false ∧ (∀ q, q ≠ p.val → t.port q = s.port q) ∧ t.b (.portCtl p) 0 = true ∧
      (∀ q : Reg, q.addr ≠ (Reg.portCtl p).addr → t.rd q = s.rd q) ∧ s.out ++ [.line p 4 5] <+: t.out ∧
      t = { s with regs := t.regs, ports := t.ports, codecs := t.codecs, faults := t.faults, out := t.out, free := t.free }) ∧
  (∀ (p : Fin 32) (v : Nat) (s : State), s.Open → v < 2 ^ 32 → fld v 3 1 = 0 → s.b (.portCtl p) 0 = true →
    s.f (.portCtl p) 2 1 = 0 →
    ((s.port p).state = 2 →
      ∃ t, exec (.portDisable p v) s = .next t ∧ (t.port p).state = 6 ∧ (t.port p).afterIdle = .down ∧
        (∀ q, q ≠ p.val → t.port q = { s.port q with peerIdle := (t.port q).peerIdle }) ∧ t.b (.portCtl p) 0 = false ∧
        (∀ q : Reg, q.addr ≠ (Reg.portCtl p).addr → t.rd q = s.rd q) ∧
        t = { s with regs := t.regs, ports := t.ports, bist := t.bist, out := t.out }) ∧
    ((s.port p).state = 3 → ∃ t, exec (.portDisable p v) s = .next t ∧ (t.port p).state = 0 ∧
      (∀ q, q ≠ p.val → t.port q = s.port q)) ∧
    ((s.port p).state = 2 → (s.port p).split = false →
      ∃ t, exec (.portRetrain p v) s = .next t ∧ (t.port p).state = 6 ∧ (t.port p).afterIdle = .bringUp ∧
        (∀ q, q ≠ p.val → t.port q = { s.port q with peerIdle := (t.port q).peerIdle }) ∧
        t = { s with regs := t.regs, ports := t.ports, bist := t.bist, out := t.out }) ∧
    ((s.port p).state = 2 → (s.port p).role = 1 → (s.port p).split = true → (s.port (partner p)).state = 2 →
      ∃ t, exec (.portRetrain p v) s = .next t ∧ (t.port p).joining = true ∧
        (∀ q, q = p.val ∨ q = partner p → (t.port q).state = 6 ∧ (t.port q).afterIdle = .bringUp) ∧
        (∀ q, q ≠ p.val → q ≠ partner p → t.port q = s.port q))) ∧
  (∀ (p : Fin 32) (l : Fin 4) (groups : List Nat) (s : State),
    (s.hears p l = true → aligns groups = true → l.val = s.upLane p →
      ((s.port p).state = 1 ∨ ((s.port p).state = 3 ∧ s.portsRun = true)) → s.faultg.clove = false → (s.port p).dsc = false →
      ∃ t, exec (.laneAlign p l groups) s = .next t ∧ (t.port p).state = 2 ∧ (t.port p).noPartner = false ∧
        (t.lane p l).aligned = true ∧ (t.lane p l).clock = true ∧ (∀ q, q ≠ p.val → t.port q = s.port q) ∧
        ((s.port p).enumAgain = true → (s.port p).role = 1 → (t.port p).enum = .settle true) ∧
        Reports { s with ports := t.ports } t) ∧
    (s.hears p l = false ∨ aligns groups = false ∨ ((s.port p).state = 3 ∧ s.portsRun = false) →
      exec (.laneAlign p l groups) s = .next s)) ∧
  (∀ (p : Fin 32) (s : State),
    ((s.port p).state = 1 → (s.port p).noPartner = false →
      ∃ t, exec (.portTimeout p) s = .next t ∧ t.port p = { s.port p with noPartner := true } ∧
        (∀ q, q ≠ p.val → t.port q = s.port q) ∧ bit (t.fault (portUnit p)).sticky 6 = true ∧
        bit (t.fault (portUnit p)).live 6 = true ∧ Reports { s with ports := t.ports } t) ∧
    ((s.port p).state ≠ 1 → exec (.portTimeout p) s = .next s)) ∧
  (∀ (p : Fin 32) (s : State), s.power.move = .none →
    ((s.port p).state = 6 →
      ∃ t, exec (.portIdleTimeout p) s = .next t ∧ exec (.peiReceive p) s = .next t ∧
        (t.port p).state = (match (s.port p).afterIdle with | .held => 3 | .down => 0 | .bringUp => 1 | .test => 4) ∧
        (∀ q, q ≠ p.val → t.port q = s.port q) ∧
        ((s.port p).afterIdle = .held → Reports { s with ports := t.ports, free := t.free } t)) ∧
    ((s.port p).state = 2 → (s.port p).role = 2 →
      ∃ t, exec (.peiReceive p) s = .next t ∧ (t.port p).state = 3 ∧ (∀ q, q ≠ p.val → t.port q = s.port q) ∧
        ((s.port p).peerIdle = true → exec (.portIdleTimeout p) s = .next t) ∧
        Reports { s with ports := t.ports, bist := t.bist, free := t.free } t) ∧
    ((s.port p).state ≠ 6 → ((s.port p).state ≠ 2 ∨ (s.port p).role ≠ 2) →
      exec (.portIdleTimeout p) s = .next s ∧ exec (.peiReceive p) s = .next s) ∧
    ((s.port p).state ≠ 6 → (s.port p).peerIdle = false → exec (.portIdleTimeout p) s = .next s))

/-- What happens on single lanes: the loss of U0 of an unlooped chain under each case of R257 that it meets (R257, R272); four
code violations in a row, which cost a lane its alignment and are counted (R254, R257, R279); a checker's synchronisation, its
count of wrong bits and its loss at 16 of 64 (R277); received electrical idle, which ends a check (R277); a generator that starts
with its ordered set and stops, and a checker that starts (R276, R277); the injection interval and an injection into traffic and
into a pattern (R278); and the clearing of a port's counts (R279). The code's tables and
a generator's first value are the model's (log entries 107 and 111). -/
def Obligations.LanesFollowTheirEvents : Prop :=
  (∀ (p : Fin 32) (l c : Fin 4) (s : State), s.power.move = .none →
    (l = 3 → s.losable p 3 c = true → (s.port p).state = 2 → (s.port p).role = 1 → (s.chain p).looped = false →
      (s.port p).uLost = false →
      ∃ t, exec (.laneLoss p 3 c) s = .next t ∧ (t.lane p 3).state = 7 ∧ (t.lane p 3).aligned = false ∧
        (c = 0 → (t.lane p 3).clock = false) ∧
        (t.port p).uLost = true ∧ (∀ l, l ≠ 3 → t.lane p l = s.lane p l) ∧ (∀ q, q ≠ p.val → t.port q = s.port q) ∧
        bit (t.fault (portUnit p)).sticky 5 = true ∧ Reports { s with ports := t.ports, free := t.free } t) ∧
    (s.losable p l c = false → exec (.laneLoss p l c) s = .next s)) ∧
  (∀ (p : Fin 32) (l : Fin 4) (groups : List Nat) (s : State), s.power.move = .none →
    (s.hears p l = true → s.checks p l = false → (s.lane p l).aligned = true → (s.lane p l).errs = [] →
      (s.lane p l).frame = [] → (s.lane p l).alarm = none → (s.lane p l).since + 4 < 512 → groups.length = 4 →
      (∀ g ∈ groups, decodeIn false g = none ∧ decodeIn true g = none) →
      ∃ t, exec (.laneAlignmentLoss p l groups) s = .next t ∧ (t.lane p l).aligned = false ∧
        (t.lane p l).cv = add32 (s.lane p l).cv 4 ∧ (t.lane p l).disp = add32 (s.lane p l).disp 0 ∧
        (t.lane p l).state = (if (s.lane p l).state = 2 then 1 else (s.lane p l).state) ∧
        (∀ q, q ≠ p.val → t.port q = s.port q) ∧ t = { s with ports := t.ports, free := t.free }) ∧
    (s.hears p l = false → exec (.laneAlignmentLoss p l groups) s = .next s)) ∧
  (∀ (p : Fin 32) (l : Fin 4) (b : Bool) (s : State), s.hears p l = true → s.checks p l = true →
    ((s.lane p l).sync = false → prbsDegree (s.pattern p l) ≤ (s.lane p l).checker.got → (s.lane p l).checker.right = 63 →
      (b != prbsInverts (s.pattern p l)) = prbsNext (s.pattern p l) (s.lane p l).checker.reg →
      ∃ t, exec (.checkerSync p l [b]) s = .next t ∧ (t.lane p l).sync = true ∧
        (t.lane p l).prbsErr = (s.lane p l).prbsErr ∧ (∀ q, q ≠ p.val → t.port q = s.port q) ∧ t = { s with ports := t.ports }) ∧
    (∀ wrong recent, (s.lane p l).sync = true →
      wrong = ((b != prbsInverts (s.pattern p l)) != prbsNext (s.pattern p l) (s.lane p l).checker.reg) →
      recent = (2 * (s.lane p l).checker.recent + b2n wrong) % 2 ^ 64 →
      ∃ t, exec (.checkerSyncLoss p l [b]) s = .next t ∧ (t.lane p l).prbsErr = add32 (s.lane p l).prbsErr (b2n wrong) ∧
        (t.lane p l).sync = decide (ones recent 64 < 16) ∧
        (t.lane p l).syncLosses = (if 16 ≤ ones recent 64 then ((s.lane p l).syncLosses + 1) % 256 else (s.lane p l).syncLosses) ∧
        (∀ q, q ≠ p.val → t.port q = s.port q) ∧ t = { s with ports := t.ports })) ∧
  (∀ (p : Fin 32) (l : Fin 4) (s : State),
    (s.hears p l = true → (s.port p).state ≠ 6 → (s.lane p l).state ≠ 7 →
      ∃ t, exec (.receivedElectricalIdle p l) s = .next t ∧
        t.lane p l = { (s.lane p l).deaf with
          taps := (t.lane p l).taps
          state := if l = 2 ∧ bit (s.port p).inService 2 = false then 5 else if (s.port p).state = 4 then 0 else 3 } ∧
        t.b (.lanePrbsCtl p l) 1 = false ∧ t.b (.lanePrbsCtl p l) 0 = s.b (.lanePrbsCtl p l) 0 ∧
        (∀ q : Reg, q.addr ≠ (Reg.lanePrbsCtl p l).addr → t.rd q = s.rd q) ∧
        t = { s with regs := t.regs, ports := t.ports, free := t.free }) ∧
    (s.hears p l = false ∨ (s.port p).state = 6 ∨ (s.lane p l).state = 7 → exec (.receivedElectricalIdle p l) s = .next s) ∧
    (s.rd (.laneInject p l) ≠ 0 → (s.port p).receives l = false → (s.lane p l).state = 2 → s.generates p l = false →
      exec (.laneInjection p l) s = .next { s.modLane p l (fun x => { x with injected := add32 x.injected 1 }) with
        out := s.out ++ [.line p l (512 + (s.lane p l).injected % 10)] }) ∧
    (∀ b rest reg, s.rd (.laneInject p l) ≠ 0 → s.generates p l = true → s.loops p = false →
      prbsBits (s.pattern p l) 10 (s.lane p l).gen = (b :: rest, reg) →
      ∃ t, exec (.laneInjection p l) s = .next t ∧
        t.lane p l = { s.lane p l with gen := reg, injected := add32 (s.lane p l).injected 1 } ∧
        (∀ q, q ≠ p.val → t.port q = s.port q) ∧ t = { s with ports := t.ports, out := s.out ++ [.prbs p l ((!b) :: rest)] })) ∧
  (∀ (p : Fin 32) (l : Fin 4) (v : Nat) (s : State), s.Open →
    ((s.port p).state = 4 → v < 16 → s.rd (.lanePrbsCtl p l) = 0 →
      ((s.port p).receives l = false → bit v 0 = true → bit v 1 = false →
        ∃ t g, exec (.prbsGen p l v) s = .next t ∧ (t.lane p l).state = 4 ∧ 0 < (t.lane p l).gen ∧
          (t.lane p l).gen < 2 ^ prbsDegree (fld v 3 2) ∧ t.rd (.lanePrbsCtl p l) = v ∧
          (∀ q : Reg, q.addr ≠ (Reg.lanePrbsCtl p l).addr → t.rd q = s.rd q) ∧
          (∀ q, q ≠ p.val → t.port q = s.port q) ∧
          t = { s with regs := t.regs, ports := t.ports, free := s.free + 1,
                       out := s.out ++ [.symbols p l (List.replicate 16 symPrb ++ [fld v 3 2]) g] }) ∧
      ((s.port p).receives l = true → bit v 0 = false → bit v 1 = true →
        ∃ t, exec (.prbsCheck p l v) s = .next t ∧
          t.lane p l = { s.lane p l with state := 4, sync := false, checker := {}, taps := (t.lane p l).taps } ∧
          t.rd (.lanePrbsCtl p l) = v ∧ (∀ q : Reg, q.addr ≠ (Reg.lanePrbsCtl p l).addr → t.rd q = s.rd q) ∧
          (∀ q, q ≠ p.val → t.port q = s.port q) ∧ t = { s with regs := t.regs, ports := t.ports, free := t.free })) ∧
    (s.rd (.lanePrbsCtl p l) = 1 →
      ∃ t, exec (.prbsGen p l 0) s = .next t ∧ t.lane p l = { s.lane p l with state := (s.port p).laneRest l } ∧
        t.rd (.lanePrbsCtl p l) = 0 ∧ t = { s with regs := t.regs, ports := t.ports, out := s.out ++ [.line p l 7] }) ∧
    (v < 2 ^ 32 → exec (.laneInject p l v) s = .next (s.wr (.laneInject p l) v)) ∧
    (∃ t, exec (.portCntClear p) s = .next t ∧ (t.port p).crcErr = 0 ∧ (t.port p).frameErr = 0 ∧
      (∀ k, k < 4 → t.lane p k = { s.lane p k with cv := 0, disp := 0, prbsErr := 0, symbols := 0, injected := 0 }) ∧
      (∀ q, q ≠ p.val → t.port q = s.port q) ∧ t = { s with ports := t.ports }))

/-- An alarm that names D0 retires it and brings DS into service with a burst of 64 symbols (R256, R270); one that a RETURN port
receives is only recorded (R271), and one whose CHECK is wrong is discarded (R269). A RETURN port that has lost its clock sends
the reversal order and splits the looped chain, on both of its ports (R273, R306). The failure of the clock's transmitter is a
Halt: Clove is entered and its first detection recorded (R386, R388). -/
def Obligations.AlarmsAndSplits : Prop :=
  (∀ (p : Fin 32) (hop check : Nat) (s : State), s.power.move = .none →
    ((s.port p).state = 2 → (s.port p).role = 1 → (s.port p).inService = 3 → (s.port p).retired = 0 → s.nvs.current ≠ none →
      s.b (.lanePrbsCtl p 2) 0 = false → hop < 256 → check = Nat.xor (Nat.xor hop 1) 0xFF →
      ∃ t, exec (.almReceive p hop 1 check) s = .next t ∧ (t.port p).inService = 6 ∧ (t.port p).retired = 1 ∧
        (t.lane p 0).state = 6 ∧ (t.lane p 2).state = 2 ∧ (t.port p).alarmMask = 1 ∧ (t.port p).alarmHop = hop ∧
        (t.port p).alarmCount = ((s.port p).alarmCount + 1) % 65536 ∧ (∀ q, q ≠ p.val → t.port q = s.port q) ∧
        ((s.port p).dsSweep = false → ∃ g, s.out ++ [.line p 0 2, .symbols p 2 (burst 64) g] <+: t.out) ∧
        bit (t.fault (portUnit p)).sticky 0 = true ∧ Reports { s with ports := t.ports, nvs := t.nvs } t) ∧
    (∀ mask, (s.port p).state ≠ 0 → (s.port p).role = 2 → hop < 256 → mask < 256 → check = Nat.xor (Nat.xor hop mask) 0xFF →
      exec (.almReceive p hop mask check) s = .next (s.modPort p fun q =>
        { q with alarmHop := hop, alarmMask := mask, alarmCount := (q.alarmCount + 1) % 65536 })) ∧
    (∀ mask, check ≠ Nat.xor (Nat.xor hop mask) 0xFF → exec (.almReceive p hop mask check) s = .next s)) ∧
  (∀ (p : Fin 32) (s : State), s.power.move = .none →
    ((s.port p).role = 2 → (s.port p).ckLost = true → (s.port p).split = false → (s.port (partner p)).split = false →
      (s.chain (partner p)).looped = true →
      ∃ t g, exec (.splitTimeout p) s = .next t ∧ (t.port p).split = true ∧ (t.port (partner p)).split = true ∧
        (t.port p).splitHop = 0 ∧ (t.port (partner p)).splitHop = 0 ∧
        s.out ++ [.symbols p 3 [symRev, 0, 0xFF, symRev] g] <+: t.out ∧
        bit (t.fault (portUnit p)).sticky 3 = true ∧ bit (t.fault (portUnit (partner p))).sticky 3 = true ∧
        (∀ q, q ≠ p.val → q ≠ partner p → t.port q = s.port q) ∧ Reports { s with ports := t.ports } t) ∧
    ((s.port p).ckLost = false → exec (.splitTimeout p) s = .next s) ∧
    ((s.port p).role = 1 → (s.chain p).looped = false → s.faultg.fatal = false →
      ∃ t, exec (.ckTransmitterFail p) s = .next t ∧ t.faultg.clove = true ∧
        bit (t.fault (portUnit p)).sticky 4 = true ∧ bit (t.fault (portUnit p)).live 4 = true ∧
        (s.faultg.clove = false → t.faultg.firstValid = true ∧ t.faultg.firstSource = sourceIndex (portUnit p) 4 ∧
          t.faultg.firstSeverity = 2 ∧ t.faultg.firstForced = false ∧ t.faultg.firstTime = s.time.count ∧
          t.faultg.alive = false) ∧ t.mem = s.mem ∧ t.regs = s.regs ∧ t.scan = s.scan) ∧
    ((s.port p).role ≠ 1 → exec (.ckTransmitterFail p) s = .next s))

/-- Link frames (R258, R281, R282, R285, R286, R288, R245): every lane of an UP port that carries link frames sends the port's next one
in its groups (R254), and FSEQ advances by one for each; a generator's lane sends its pattern in their place. A frame received
whole on the one lane that receives sets what comes next in order and counts the numbers passed over; in order, its packets join
the stream, and one that fails its checks is counted and parsing waits for the next FPTR. Blocks of an earlier frame are dropped
at their deadline, and a full backlog wakes the idle lanes. The groups are those of the standard code (log entry 107), and the buffer that
orders frames is the model's (log entry 59). -/
def Obligations.LinkFramesFlow : Prop :=
  (∀ (p : Fin 32) (lanes : Fin 16) (s : State), s.power.move = .none → (∀ l, l < 4 → s.generates p l = false) →
    ((s.port p).state ≠ 2 → exec (.linkFrameFill p lanes) s = .next s) ∧
    ((s.port p).state = 2 → (s.port p).role = 2 → (s.port p).split = false → bit lanes 3 = true →
      ∃ t g, exec (.linkFrameFill p lanes) s = .next t ∧
        t.port p = { s.port p with fseq := ((s.port p).fseq + 1) % 256, lanes := (t.port p).lanes } ∧
        (∀ q, q ≠ p.val → t.port q = s.port q) ∧
        g = encodeGroups (s.lane p 3).txRd (frameSymbols (s.port p).fseq { packets := [], fptr := 0xFF, cap := 0 }) ∧
        t = { s with ports := t.ports
                     out := s.out ++ [.symbols p 3 (frameSymbols (s.port p).fseq { packets := [], fptr := 0xFF, cap := 0 }) g.1] }) ∧
    (∀ ls, ls = (List.range 4).filter (fun l => bit lanes l && (s.port p).carries l) → (s.port p).state = 2 →
      (s.port p).role = 1 → ls ≠ [] →
      ∃ t f g, exec (.linkFrameFill p lanes) s = .next t ∧ (t.port p).fseq = ((s.port p).fseq + ls.length) % 256 ∧
        s.out ++ [.symbols p (ls.headD 0) (frameSymbols (s.port p).fseq f) g] <+: t.out ∧
        (∀ q, q ≠ p.val → t.port q = s.port q) ∧ RingWork { s with ports := t.ports, codecs := t.codecs } t)) ∧
  (∀ (p : Fin 32) (l : Fin 4) (s : State), s.power.move = .none → s.generates p l = true → s.loops p = false →
    ∃ t, exec (.linkFrameFill p (Fin.ofNat 16 (2 ^ l.val))) s = .next t ∧
      t.lane p l = { s.lane p l with gen := (prbsBits (s.pattern p l) 2560 (s.lane p l).gen).2 } ∧
      (∀ q, q ≠ p.val → t.port q = s.port q) ∧
      t = { s with ports := t.ports, out := s.out ++ [.prbs p l (prbsBits (s.pattern p l) 2560 (s.lane p l).gen).1] }) ∧
  (∀ (p : Fin 32) (l : Fin 4) (syms groups : List Nat) (s : State), s.power.move = .none → (s.port p).state = 2 →
    s.hears p l = true → s.checks p l = false → (s.lane p l).aligned = true → s.frameLanes p = [l.val] →
    (s.lane p l).errs = [] → (s.lane p l).frame = [] → (s.lane p l).alarm = none → (s.port p).rxHeld = [] →
    (∀ n, (s.port p).rxSeq = some n → n < 256) → syms.length = 256 → wd syms 0 = symLfs → (∀ x ∈ syms.drop 1, x < 256) →
    groups = (encodeGroups (s.lane p l).rxRd syms).1 →
    ∃ t, exec (.linkFrameReceive p l groups) s = .next t ∧ t = { s with ports := t.ports } ∧
      (∀ q, q ≠ p.val → t.port q = s.port q) ∧ (t.port p).rxHeld = [] ∧
      (t.lane p l).cv = add32 (s.lane p l).cv 0 ∧ (t.lane p l).disp = add32 (s.lane p l).disp 0 ∧
      (frameGood syms = false → (t.port p).rxLost = true ∧ (t.port p).rxPart = [] ∧ (t.port p).rx = (s.port p).rx ∧
        (t.port p).frameErr = add32 (s.port p).frameErr 1 ∧ (t.port p).rxSeq = (s.port p).rxSeq.map fun n => (n + 1) % 256) ∧
      (frameGood syms = true → (t.port p).rxSeq = some ((symByte (wd syms 1) + 1) % 256) ∧
        ((s.port p).rxSeq = none ∨ (s.port p).rxSeq = some (symByte (wd syms 1)) →
          (t.port p).frameErr = (s.port p).frameErr ∧ (t.port p).rx = ((s.port p).takeFrame syms).rx ∧
          (t.port p).depth = ((s.port p).takeFrame syms).depth ∧ (t.port p).rxPart = ((s.port p).takeFrame syms).rxPart ∧
          (t.port p).crcErr = ((s.port p).takeFrame syms).crcErr) ∧
        (∀ n, (s.port p).rxSeq = some n → n ≠ symByte (wd syms 1) →
          (t.port p).frameErr = add32 (s.port p).frameErr ((symByte (wd syms 1) + 256 - n) % 256)))) ∧
  (∀ (p : Fin 32) (s : State), s.power.move = .none →
    exec (.blockDropDeadline p) s = .next (s.modCodec (s.pipeOf p) fun c =>
      { c with closed := c.closed.filter fun b => s.scan.windowOpen && b.frame == (s.pipe (s.pipeOf p)).frame })) ∧
  (∀ (p : Fin 32) (s : State),
    ((s.port p).idle = 0 → exec (.governorLaneWake p) s = .next s) ∧
    ((s.port p).idle ≠ 0 → 8192 * fld (s.codec (s.pipeOf p)).gov 20 16 ≤ backlogBits s p →
      ∃ t, exec (.governorLaneWake p) s = .next t ∧ (∀ l, l < 3 → bit (t.port p).idle l = false) ∧
        (t.codec (s.pipeOf p)).wakes = ((s.codec (s.pipeOf p)).wakes + 1) % 65536 ∧
        (∀ q, q ≠ p.val → t.port q = s.port q) ∧ t = { s with ports := t.ports, codecs := t.codecs, out := t.out }))

/-- Packets (R85, R290, R296, R301 to R303, R390), on a port whose engine executes (R28): a response that matches a TILE_CMD
completes it with its payload, cut at RSP_MAX, and the payload's length; one that matches nothing is dropped; telemetry of an
enumerated hop is recorded; silence is noted once. CLV, DSC and the RESUME SYN are repeated while the port is UP. -/
def Obligations.PacketsAreActedOn : Prop :=
  (∀ (p : Fin 32) (x : Packet) (u s : State), s.power.move = .none → s.portEngineOn p = true → takeRx p 5 s = some (x, u) →
    ((u.port p).cmds.find? (fun c => c.sent && c.hop == x.hop && c.tag == wd x.body 0) = none →
      exec (.rspReceive p) s = .next u) ∧
    (∀ (c : Cmd) (j : Job) (n slot : Nat),
      (u.port p).cmds.find? (fun c => c.sent && c.hop == x.hop && c.tag == wd x.body 0) = some c →
      c.owner = .tile n slot → s.jobAt n slot = some j → 0 < fld (wd j.desc 3) 31 16 → 1 < x.body.length →
      ∃ t, exec (.rspReceive p) s = .next t ∧ (∀ q, q ≠ p.val → t.port q = s.port q) ∧
        Ends j 0 (x.body.length - 1) { s with ports := t.ports, out := s.out ++
          [.hostWrite (wd64 j.desc 6) ((x.body.drop 1).take (fld (wd j.desc 3) 31 16))] } t)) ∧
  (∀ (p : Fin 32) (x : Packet) (u s : State), s.portEngineOn p = true → takeRx p 6 s = some (x, u) →
    ((s.hop (s.chainOf p) x.hop).present = false → exec (.telReceive p) s = .next u) ∧
    ((s.hop (s.chainOf p) x.hop).present = true →
      ∃ t, exec (.telReceive p) s = .next t ∧ (t.hop (s.chainOf p) x.hop).telValid = true ∧
        (t.hop (s.chainOf p) x.hop).silent = false ∧ (t.hop (s.chainOf p) x.hop).temp = leVal (x.body.take 2) ∧
        (t.hop (s.chainOf p) x.hop).ambient = leVal ((x.body.drop 2).take 2) ∧
        (t.hop (s.chainOf p) x.hop).crack = wd x.body 4 % 4 ∧ (t.hop (s.chainOf p) x.hop).fault = wd x.body 5 ∧
        Reports { u with hops := t.hops, power := t.power, res := t.res, bist := { s.bist with queue := t.bist.queue } } t)) ∧
  (∀ (p : Fin 32) (h : Fin 129) (s : State), s.portEngineOn p = false →
    (s.power.move = .none → exec (.rspReceive p) s = .next s) ∧ exec (.telReceive p) s = .next s ∧
      exec (.tileSilent p h) s = .next s) ∧
  (∀ (p : Fin 32) (h : Fin 129) (s : State),
    ((s.hop (s.chainOf p) h).silent = true → exec (.tileSilent p h) s = .next s) ∧
    (s.portEngineOn p = true → (s.port p).state = 2 → (s.hop (s.chainOf p) h).present = true → (s.hop (s.chainOf p) h).silent = false →
      s.feeder (s.chainOf p) h = p →
      ∃ t, exec (.tileSilent p h) s = .next t ∧
        t.hop (s.chainOf p) h = { s.hop (s.chainOf p) h with silent := true } ∧ Reports { s with hops := t.hops } t)) ∧
  (∀ (p : Fin 32) (s : State), (s.port p).state ≠ 2 →
    exec (.clvResend p) s = .next s ∧ exec (.dscResend p) s = .next s ∧ exec (.resumeSynRepeat p) s = .next s) ∧
  (∀ (p : Fin 32) (s : State), (s.port p).state = 2 → (s.port p).sends = true →
    ((s.port p).clove = true → exec (.clvResend p) s = .next (s.modPort p fun q =>
      { q with txSafe := q.txSafe ++ [packetBytes 7 0 [s.faultg.cloveSeverity, 0, 0, 0]] })) ∧
    ((s.port p).dsc = true → exec (.dscResend p) s = .next (s.modPort p fun q =>
      { q with txSafe := q.txSafe ++ [packetBytes 8 0 []] })) ∧
    ((s.port p).resumeLeft ≠ 0 → ∃ t, exec (.resumeSynRepeat p) s = .next t ∧
      t.port p = { s.port p with
        resumeLeft := (s.port p).resumeLeft - 1
        txSyn := (s.port p).txSyn ++ [packetBytes 1 0 (leBytes 4 (s.scan.frame % 2 ^ 32) ++ [4, 0, 0, 0] ++ leBytes 4 s.framePeriod)] } ∧
      (∀ q, q ≠ p.val → t.port q = s.port q) ∧ t = { s with ports := t.ports }))

/-- Enumeration, by a port engine that executes (R28, R304, R305): with a settled DEPTH of d a FEED port in whole operation broadcasts ENUM with BASE d, marks hops 1
to d present and sends CONFIG to hop 1; a CONFIG without answer is sent three times, and after the third the hop is a
mismatch. -/
def Obligations.EnumerationRuns : Prop :=
  (∀ (p : Fin 32) (d : Nat) (s : State), (s.port p).enum = .settle true → s.portEngineOn p = true → (s.port p).state = 2 → (s.port p).role = 1 →
    (s.port p).split = false → s.isFeed p = true → (s.port p).depth = d → 1 ≤ d → d < 256 →
    ∃ t, exec (.enumStart p) s = .next t ∧ (t.port p).enum = .config 1 1 ∧ (t.port p).partFrom = 1 ∧
      (t.port p).partLen = d ∧ (t.port p).found = min d 128 ∧ (t.port p).mismatch = 0 ∧
      (s.port p).txCmd ++ [packetBytes 4 0 [0x80 + (s.port p).tagOwn % 128, 0, 1, d, 0]] <+: (t.port p).txCmd ∧
      (∀ h, 1 ≤ h → h ≤ 128 → (t.hop p h).present = decide (h ≤ d)) ∧ (∀ q, q ≠ p.val → t.port q = s.port q) ∧
      t = { s with ports := t.ports, hops := t.hops }) ∧
  (∀ (p : Fin 32) (h n : Nat) (s : State), s.power.move = .none → s.portEngineOn p = true → (s.port p).enum = .config h n →
    (n < 3 → ∃ t, exec (.configTimeout p) s = .next t ∧ (t.port p).enum = .config h (n + 1) ∧
      (∀ q, q ≠ p.val → t.port q = s.port q) ∧ t = { s with ports := t.ports }) ∧
    (3 ≤ n → ∃ t, exec (.configTimeout p) s = .next t ∧ (t.hop (s.chainOf p) h).configured = false ∧
      (t.hop (s.chainOf p) h).mismatch = true ∧ t.regs = s.regs ∧ t.geom = s.geom ∧ t.scan.frame = s.scan.frame)) ∧
  (∀ (p : Fin 32) (s : State), (s.power.move = .none → s.portEngineOn p = false → exec (.configTimeout p) s = .next s) ∧
    ((s.portEngineOn p = false ∨ (s.port p).state ≠ 2 ∨ (s.port p).enum = .idle) → exec (.enumStart p) s = .next s))

/-! ### Power, voltage, time -/

/-- Power transitions: self-entered Hold begins once the idle count is reached (R331); with the ports idle the core goes into
retention, and reaches Hold where the voltage need not change (R335); Keep is entered with TIME on TIMECLK and the core off
(R336); a wake ends in the state to resume, after the Hold accrual pass (R344); a power failure in Run stops the engines, writes no further record, sends
DSC and starts the save (R338). -/
def Obligations.PowerTransitionsAdvance : Prop :=
  (∀ s : State,
    (s.b .powerSelfref 0 = true → s.f .powerSelfref 31 16 ≤ s.power.idleCount → s.power.move = .none →
      s.power.state = .run → s.scan.state = .running →
      ∃ t k, exec .selfrefIdleReached s = .next t ∧ t.power.move = .entry k false ∧ t.power.goal = .hold ∧
        t.power.selfEntry = true ∧ t.power.resume = .run ∧ t.power.state = .run ∧ t.mem = s.mem ∧ t.regs = s.regs) ∧
    (s.power.idleCount < s.f .powerSelfref 31 16 → exec .selfrefIdleReached s = .next s)) ∧
  (∀ s : State, s.power.move = .entry 5 false → s.power.selfTest = false → (∀ p, p < 32 → (s.port p).state ≠ 6) →
    s.power.fromRing = none → s.power.heldWake = 0 → s.fuse.retMv = s.power.confirmedMv →
    ∃ t, exec .holdRetention s = .next t ∧ t.power.state = .hold ∧ t.power.move = .none ∧ t.power.selfRefresh = true ∧
      t.host.linkState = (if s.host.aspm = false then 0 else if s.host.l12 then 2 else 1) ∧
      (∀ e, e < 72 → (t.engine e).running = false) ∧ (∀ i, i < 8 → (t.span i).running = false) ∧ t.mem = s.mem ∧
      t.regs = s.regs ∧ t.ports = s.ports ∧ t.scan = s.scan) ∧
  (∀ s : State, s.power.move = .keepEntry → s.power.heldWake = 0 →
    ∃ t, exec .keepEntry s = .next t ∧ t.power.state = .keep ∧ t.power.move = .none ∧ t.power.coreOff = true ∧
      t.power.refOn = false ∧ t.time = { s.time with keepBase := s.time.count, keepEdges := 0, running := false } ∧
      t.nvs = { s.nvs with keepCopy := some (saveValues s) } ∧
      t.host.linkState = (if s.host.aspm = false then 0 else if s.host.l12 then 2 else 1) ∧
      Reports { s with power := t.power, time := t.time, nvs := t.nvs, glob := t.glob,
                       host := { s.host with linkState := t.host.linkState } } t) ∧
  (∀ s : State, s.power.move = .wake 1 → s.alert.waiting = false → s.anise = true → s.scan.state = .held →
    exec .wakeEnd s = .next s) ∧
  (∀ (k : Nat) (s : State), s.power.move = .wake k → 0 < k → s.alert.waiting = false →
    (k = 1 → s.anise = false ∨ s.scan.state ≠ .held) →
    ∃ t, exec .wakeEnd s = .next t ∧ t.power.state = s.power.resume ∧ t.power.move = .none ∧ t.power.idleCount = 0 ∧
      t.power.serving = false ∧ t.scan.firstWindow = true ∧ t.host.linkState = 0 ∧
      (∀ i, i < 40 → (t.pipe i).fill = 0 ∧ (t.pipe i).opened = false) ∧
      (s.scan.state = .held → t.scan.state = .running ∧ t.scan.next = .frameStart ∧ t.scan.returning = true) ∧
      (s.scan.state ≠ .held → t.scan.state = s.scan.state) ∧ t.mem = s.mem ∧ t.regs = s.regs ∧ t.ports = s.ports ∧
      t.jobs = s.jobs) ∧
  (∀ (v : Nat) (s : State), s.power.state = .run → s.glob.phase = 8 → (∀ k, s.power.move ≠ .fail k) → s.nvs.current = none →
    ∃ t, exec (.powerFail v) s = .next t ∧ t.power.move = .fail 1 ∧ t.noRecords = true ∧ t.nvs.vhold = v ∧
      t.nvs.pwrfailHigh = false ∧ t.nvs.current = some .powerSave ∧ t.power.fromRing = none ∧
      (∀ e, e < 72 → (t.engine e).running = false) ∧ t.out = s.out ++ [.holdSwitch false false] ∧
      (∀ p, p < 32 → (s.port p).state = 2 → (t.port p).dsc = true) ∧ t.mem = s.mem ∧ t.regs = s.regs ∧ t.jobs = s.jobs)

/-- The core voltage moves in steps (R339, R340): an acknowledged step that is not the last sends the next; a step that is not
acknowledged is sent again up to three times, and a raise that fails then is a Halt; in start-up the raise is tried again
(R413). A write of POWER_LTR stores the latencies and sends the one of the present state (R346). -/
def Obligations.VoltageStepsAndLtr : Prop :=
  (∀ (mv : Nat) (s : State), s.power.avsStep = some mv →
    (mv < s.power.rampTo →
      ∃ t n, exec (.avsAck mv) s = .next t ∧ n = min s.power.rampTo (mv + s.f .powerAvsCfg 3 0) ∧
        t = { s with power := { s.power with confirmedMv := mv, avsStep := some n, avsTries := 1 },
                     out := s.out ++ [.avs n] }) ∧
    (mv = s.power.rampTo → s.power.move = .none → s.power.poll = none →
      exec (.avsAck mv) s = .next { s with power := { s.power with confirmedMv := mv, avsStep := none, avsTries := 0 } }) ∧
    (∀ k, k ≠ mv → exec (.avsAck k) s = .next s) ∧
    (s.power.avsTries < 3 →
      exec .avsTimeout s = .next { s with power := { s.power with avsTries := s.power.avsTries + 1 }, out := s.out ++ [.avs mv] }) ∧
    (3 ≤ s.power.avsTries → s.power.confirmedMv < mv → s.power.move = .none → s.faultg.fatal = false →
      ∃ t, exec .avsTimeout s = .next t ∧ t.power.avsStep = none ∧ t.power.rampTo = s.power.confirmedMv ∧
        t.power.poll = none ∧ t.faultg.clove = true ∧ bit (t.fault 3).sticky 1 = true ∧ t.mem = s.mem ∧ t.regs = s.regs)) ∧
  (∀ s : State, s.power.avsStep = none →
    exec .avsTimeout s = .next s ∧ (∀ k, exec (.avsAck k) s = .next s) ∧
    (s.glob.phase = 3 → s.power.confirmedMv < s.fuse.runMv →
      ∃ n, n = min s.fuse.runMv (s.power.confirmedMv + s.f .powerAvsCfg 3 0) ∧
        exec .voltageRaiseRetry s = .next { s with power := { s.power with rampTo := s.fuse.runMv, avsStep := some n, avsTries := 1 }, out := s.out ++ [.avs n] }) ∧
    (s.glob.phase ≠ 3 → exec .voltageRaiseRetry s = .next s)) ∧
  (∀ (v : Nat) (s : State), s.Open → v < 2 ^ 32 → 0 < fld v 9 0 → 0 < fld v 25 16 →
    ∃ t, exec (.powerLtrWrite v) s = .next t ∧ t.rd .powerLtr = Nat.land v Reg.powerLtr.rw ∧
      (∀ q : Reg, q.addr ≠ Reg.powerLtr.addr → t.rd q = s.rd q) ∧
      (s.power.state = .run → t.out = s.out ++ [.ltr false (ltrCode (fld v 9 0 * 1000))]) ∧
      (s.power.state = .hold → t.out = s.out ++ [.ltr true (ltrCode (fld v 25 16 * 1000000))]) ∧
      t = { s with regs := t.regs, out := t.out })

/-- Service periods, telemetry polls and TIME in Keep: a host access in Hold starts a service period with the voltage raised,
and its end lowers it again (R342); a poll asks every configured hop (R343), and its end without an event returns the ports to
idle; TIMECLK's absence makes a gap (R349); a genlock loss in Keep is noted once (R341); an alarm that TIME has reached fires
once, with its detection, and is disarmed (R350). -/
def Obligations.ServiceAndTimeEvents : Prop :=
  (∀ s : State, s.power.state = .hold → s.power.move = .none →
    (s.power.serving = false → s.power.heldEvents = [] → s.fuse.runMv = s.power.confirmedMv →
      exec .servicePeriodStart s = .next { s with power := { s.power with serving := true, coreOff := false, rampTo := s.fuse.runMv, avsStep := none, avsTries := 0 }, host := { s.host with linkState := 0 } }) ∧
    (s.power.serving = true → exec .servicePeriodStart s = .next s) ∧
    (s.power.serving = true → s.fuse.retMv = s.power.confirmedMv →
      exec .servicePeriodEnd s = .next { s with power := { s.power with serving := false, coreOff := false, rampTo := s.fuse.retMv, avsStep := none, avsTries := 0 }, host := { s.host with linkState := if s.host.aspm = false then 0 else if s.host.l12 then 2 else 1 } }) ∧
    (s.power.serving = false → exec .servicePeriodEnd s = .next s) ∧
    (s.b .powerWakeEn 2 = true → s.power.poll = none → s.power.confirmedMv < s.fuse.runMv →
      ∃ n, n = min s.fuse.runMv (s.power.confirmedMv + s.f .powerAvsCfg 3 0) ∧
        exec .telemetryPoll s = .next { s with power := { s.power with poll := some s.configuredTiles, pollEvent := false, lastPoll := s.time.count, rampTo := s.fuse.runMv, avsStep := some n, avsTries := 1 }, out := s.out ++ [.avs n] }) ∧
    (s.b .powerWakeEn 2 = false → exec .telemetryPoll s = .next s) ∧
    (s.power.poll = some [] → s.power.pollEvent = false →
      ∃ t, exec .telemetryPollEnd s = .next t ∧ t.power.poll = none ∧ t.power.state = .hold ∧ t.power.move = .none ∧
        (∀ e, e < 72 → (t.engine e).running = false) ∧
        (∀ p, p < 32 → (s.port p).state = 2 → (t.port p).state = 6) ∧
        (∀ p, p < 32 → (s.port p).state ≠ 2 → (t.port p).state = (s.port p).state) ∧ t.mem = s.mem ∧ t.regs = s.regs)) ∧
  (∀ s : State, s.power.poll = none → exec .telemetryPollEnd s = .next s) ∧
  (∀ s : State, s.power.state = .keep → s.time.running = false →
    (s.time.timeclk = true →
      ∃ t, exec .timeclkAbsent s = .next t ∧ t.time = { s.time with count := s.timeNow, timeclk := false } ∧
        t.faultg.alive = false ∧ t.age = { s.age with heldGap := true } ∧ bit (t.fault 2).sticky 1 = true ∧
        Reports { s with time := t.time, faultg := t.faultg, age := t.age } t) ∧
    (s.time.timeclk = false → exec .timeclkAbsent s = .next s) ∧
    (s.power.keepLost = false → s.b .powerWakeEn 3 = false →
      exec .keepGenlockLoss s = .next { s with power := { s.power with keepLost := true, keepEdges := 0 } }) ∧
    (s.power.keepLost = true → exec .keepGenlockLoss s = .next s)) ∧
  (∀ (dt : Nat) (s u : State), u = advance dt s →
    (u.time.arm = false → exec (.timeAlarm dt) s = .next u) ∧
    (u.time.arm = true → u.power.state = .run → u.power.move = .none → u.time.alarm ≤ u.time.count →
      ∃ t, exec (.timeAlarm dt) s = .next t ∧ t.time = { u.time with arm := false } ∧ bit (t.fault 2).sticky 0 = true ∧
        Reports { u with time := t.time } t) ∧
    (u.time.arm = true → u.power.state = .run → u.power.move = .none → u.time.count < u.time.alarm →
      exec (.timeAlarm dt) s = .next u))

/-! ### Faults and spares -/

/-- FAULT_FORCE under DRY records one forced detection of each named source and acts on none (R385); FAULT_ENABLE takes the
enable bits (R383); RESUME, where R390 allows it, ends Clove and clears the record of its first detection. The Hold-entry
self-test of no failure is noted as run (R399); the oldest class-4 request that waits for a channel moves to class 3 (R32); a
scrub of a sound row is one class-4 request (R31, R397), in a group of the model's choice (log 92); a JTAG
instruction takes its place, IDCODE answers the identification register, and one that moves the pins is a Fatal detection (R445). -/
def Obligations.FaultLogicActs : Prop :=
  (∀ (u : Fin 182) (bits : Nat) (s : State), s.Open → bits < 2 ^ 32 → s.dry = true →
    (forcesHalt u bits = true → s.b .faultgInject 0 = true) → recordUnit s u = (u.val, false) →
    ∃ t, exec (.faultForce u bits) s = .next t ∧ Reports s t ∧
      ∀ k ∈ sourcesOf u bits, bit (t.fault u).sticky k = true) ∧
  (∀ (u : Fin 182) (v : Nat) (s : State), s.Open → v < 2 ^ 32 →
    ∃ t, exec (.faultEnableWrite u v) s = .next t ∧ (t.fault u).enable = v % 2 ^ positions u ∧
      (t.fault u).sticky = (s.fault u).sticky ∧ (∀ w, w ≠ u.val → t.fault w = s.fault w) ∧
      t = { s with faults := t.faults, out := t.out, host := { s.host with pba := t.host.pba } }) ∧
  (∀ s : State, s.Open → s.resumeAllowed = true →
    ∃ t, exec .cloveResume s = .next t ∧ t.faultg.clove = false ∧ t.faultg.firstValid = false ∧ t.faultg.firstSource = 0 ∧
      t.faultg.firstSeverity = 0 ∧ t.faultg.firstTime = 0 ∧ (∀ p, p < 32 → (t.port p).clove = false) ∧
      (s.scan.state = .running → t.faultg.resumeFrames = 16 ∧ ∀ p, (t.port p).txSyn = (s.port p).txSyn) ∧
      (s.scan.state ≠ .running → ∀ p, p < 32 → (s.port p).state = 2 → (t.port p).resumeLeft = 15) ∧
      t = { s with faultg := t.faultg, ports := t.ports, out := t.out }) ∧
  (∀ s : State, s.power.move = .none →
    (s.power.selfTest = true → exec (.holdSelfTestEnd []) s = .next { s with power := { s.power with selfTest := false }, faultg := { s.faultg with testRan := true, testFailed := false } }) ∧
    (s.power.selfTest = false → ∀ l, exec (.holdSelfTestEnd l) s = .next s)) ∧
  (∀ (m : Fin 16) (s : State),
    ((∀ r ∈ s.memc.waiting, ¬(r.channel = m.val ∧ r.cls = 4)) → exec (.class4Promotion m) s = .next s) ∧
    (∀ pre r rest, s.memc.waiting = pre ++ r :: rest → (∀ x ∈ pre, ¬(x.channel = m.val ∧ x.cls = 4)) → r.channel = m.val →
      r.cls = 4 →
      exec (.class4Promotion m) s = .next { s with memc := { s.memc with waiting := pre ++ { r with cls := 3 } :: rest } })) ∧
  (∀ (m : Fin 16) (row : Nat) (s : State), s.power.move = .none →
    (s.memc.trained = true → s.power.selfRefresh = false → s.power.coreOff = false → (s.channel m).lost = false →
      exec (.memoryScrub m row .ok) s = .next { s with memc := { s.memc with
        waiting := s.memc.waiting ++ [{ channel := m, cls := 4, group := 8, who := 16 }] } }) ∧
    ((s.channel m).lost = true ∨ s.memc.trained = false ∨ s.power.selfRefresh = true ∨ s.power.coreOff = true →
      ∀ c, exec (.memoryScrub m row c) s = .next s)) ∧
  (∀ s : State,
    (∀ i, i = JtagInstr.bypass ∨ i = JtagInstr.samplePreload →
      exec (.jtagInstruction i) s = .next { s with glob := { s.glob with jtag := i } }) ∧
    exec (.jtagInstruction .idcode) s = .next { s with glob := { s.glob with jtag := .idcode }, out := s.out ++ [.idcode (s.fuse.rev % 16 * 2 ^ 28 + 0x1610 * 2 ^ 12 + Config.manufacturer % 2 ^ 11 * 2 + 1)] } ∧
    (∀ i, i = JtagInstr.extest ∨ i = JtagInstr.clamp ∨ i = JtagInstr.highz → s.faultg.fatal = false →
      ∃ t, exec (.jtagInstruction i) s = .next t ∧ t.glob.jtag = i ∧ t.faultg.fatal = true ∧ t.faultg.clove = true ∧
        bit (t.fault 6).sticky 0 = true ∧ t.scan.state = .stopped ∧ (∀ e, e < 72 → (t.engine e).running = false) ∧
        t.mem = s.mem ∧ t.regs = s.regs))

/-- Spares (R393, R394, R397): a heartbeat that a running engine of duty 0 to 7 misses fails it, and with the span's spare free
its takeover begins; at the takeover's end the spare serves the duty, with the scheduler's turns of the checkpoint with its
journal replayed; a pipe's takeover ends with the spare pipe serving the port, its tables and the open window's values as the
replaced pipe had them (the model's reading, log entry 100); a lost memory channel loses device memory, stops scan-out, where started binds then apply (R125), and is
a Halt. SYSCLK's loss in Run is handled as a power
failure (R435), and in Keep as nothing. -/
def Obligations.SparesTakeOver : Prop :=
  (∀ (e : Fin 72) (s : State), s.power.move = .none →
    ((s.engine e).running = false → exec (.engineWatchdog e) s = .next s) ∧
    ((s.engine e).running = true → (s.engine e).failed = false → e.val % 9 ≠ 8 → s.spareEngine (e / 9) = true →
      ∃ t, exec (.engineWatchdog e) s = .next t ∧
        t.engine e = { s.engine e with failed := true, running := false, takeover := true, cause := 1 } ∧
        (∀ k, k ≠ e.val → t.engine k = s.engine k) ∧ bit (t.fault (engineUnit e)).sticky 1 = true ∧
        Reports { s with engines := t.engines } t)) ∧
  (∀ (e : Fin 72) (s : State), s.power.move = .none →
    ((s.engine e).takeover = false → exec (.engineTakeoverEnd e) s = .next s) ∧
    (∀ r, r = (replayed (Tab.get {} e.val s.ckpts) (Tab.get [] e.val s.journals)).1 → (s.engine e).takeover = true →
      e.val % 9 ≠ 8 → s.nvs.current ≠ none →
      (s.engine (9 * (e / 9) + 8)).failed = false → s.faultg.fatal = false →
      ∃ t, exec (.engineTakeoverEnd e) s = .next t ∧ (t.engine e).takeover = false ∧ (t.engine e).fetch = none ∧
        (t.engine (9 * (e / 9) + 8)).running = true ∧ (t.engine (9 * (e / 9) + 8)).failed = false ∧
        (t.engine (9 * (e / 9) + 8)).last0 = r.last0 ∧ (t.engine (9 * (e / 9) + 8)).last = r.last ∧
        (t.engine (9 * (e / 9) + 8)).grants = r.grants ∧ (t.engine (9 * (e / 9) + 8)).bells = (s.engine e).bells ∧
        (t.span (e / 9)).spareFor = e % 9 ∧ t.dutyEngine (e / 9) (e % 9) = 9 * (e / 9) + 8 ∧
        (∀ j ∈ t.jobs, j.engine ≠ e.val) ∧ t.mem = s.mem ∧ t.regs = s.regs)) ∧
  (∀ (i : Fin 8) (s : State), s.power.move = .none →
    ((s.span i).pipeTakeover = none → exec (.pipeTakeoverEnd i) s = .next s) ∧
    (∀ p, (s.span i).pipeTakeover = some p → bit (s.span i).pipeFailed 4 = false → p / 4 = i.val → (s.span i).slots.length = 4 →
      s.nvs.current ≠ none →
      ∃ t, exec (.pipeTakeoverEnd i) s = .next t ∧ t.pipeOf p = 32 + i.val ∧ (t.span i).pipeTakeover = none ∧
        (t.pipe (32 + i.val)).load = (s.pipe (s.pipeOf p)).load ∧ (t.pipe (32 + i.val)).work = (s.pipe (s.pipeOf p)).work ∧
        (t.pipe (32 + i.val)).frame = (s.pipe (s.pipeOf p)).frame ∧ (t.codec (32 + i.val)).skip = (s.codec (s.pipeOf p)).skip ∧
        t.rd (.codecCtl (32 + i.val)) = s.rd (.codecCtl (s.pipeOf p)) ∧ t.mem = s.mem ∧
        ((s.pipe (s.pipeOf p)).sweep = none → t.ports = s.ports))) ∧
  (∀ (m : Fin 16) (s : State), s.power.move = .none →
    ((s.channel m).lost = true → exec (.channelLost m) s = .next s) ∧
    ((s.channel m).lost = false → s.faultg.fatal = false →
      ∃ t, exec (.channelLost m) s = .next t ∧ (t.channel m).lost = true ∧ t.memLost = true ∧ t.scan.state = .stopped ∧
        t.faultg.clove = true ∧ bit (t.fault (channelUnit m)).sticky 2 = true ∧
        (∀ k, k ≠ m.val → t.channel k = s.channel k) ∧ t.mem = s.mem ∧
        (s.scan.state = .stopped → t.regs = s.regs) ∧ (s.scan.state ≠ .stopped → ∀ x ∈ t.jobs, x.stage ≠ .binding))) ∧
  (∀ s : State,
    (s.power.state = .keep → exec .sysclkLoss s = .next s) ∧
    (s.power.state ≠ .keep → exec .sysclkLoss s = exec (.powerFail s.nvs.vhold) s) ∧
    (s.power.state = .run → s.glob.phase = 8 → (∀ k, s.power.move ≠ .fail k) → s.nvs.current = none →
      ∃ t, exec .sysclkLoss s = .next t ∧ t.power.move = .fail 1 ∧ t.noRecords = true ∧
        t.nvs.current = some .powerSave ∧ t.mem = s.mem ∧ t.jobs = s.jobs))

/-! ### Start-up and resets -/

/-- Start-up (R410 to R421, R433): each phase ends into the next: FUSES takes the words that were read, TRIMS starts the ramp
from a boot voltage between 750 and 850 mV, VOLTAGE waits for RUN_MV, STORE sets TIME from a valid save, SPARES, MEMORY learns
the fitted capacity, and ENGINES completes start-up; the PCIe link trains once VOLTAGE has ended. A fuse reload and the memory
initialise end their long operation with OK, the latter with every byte 0 (R418, R420). -/
def Obligations.StartUpPhasesEnd : Prop :=
  ∀ s : State,
    (s.glob.phase = 0 → exec .powerOnResetRelease s = .next { s with glob := { s.glob with phase := 1 } }) ∧
    (s.glob.phase ≠ 0 → exec .powerOnResetRelease s = .next s) ∧
    (∀ reads, s.glob.phase = 1 → (takeFuses reads s).fuse.ue = false →
      ∃ t, exec (.startupPhase (.fuses reads)) s = .next t ∧ t.glob = { s.glob with phase := 2 } ∧
        t.fuse.readDone = true ∧ t.fuse.words = (takeFuses reads s).fuse.words ∧
        t = { s with glob := t.glob, fuse := t.fuse }) ∧
    (s.glob.phase = 2 → s.trimSteps = 0 →
      ∃ t, exec (.startupPhase .trims) s = .next t ∧ t.glob = { s.glob with phase := 3 } ∧
        t.fuse = { s.fuse with trimsDone := true } ∧ 750 ≤ t.power.confirmedMv ∧ t.power.confirmedMv ≤ 850 ∧
        (s.fuse.runMv ≠ 0 → t.power.rampTo = s.fuse.runMv) ∧
        t = { s with glob := t.glob, fuse := t.fuse, power := t.power, out := t.out, free := s.free + 1 }) ∧
    (s.glob.phase = 2 → ∃ t, exec .trimStep s = .next t ∧ t = { s with fuse := t.fuse } ∧
      t.fuse.steps = (if s.trims.any (fun x => s.appliedCode x.1 x.2.1 != x.2.2.1) then (s.fuse.steps + 1) % 4096
        else s.fuse.steps)) ∧
    (s.glob.phase ≠ 2 → exec .trimStep s = .next s) ∧
    (s.glob.phase = 3 → s.power.avsStep = none → s.fuse.runMv ≤ s.power.confirmedMv →
      exec (.startupPhase .voltage) s = .next { s with glob := { s.glob with phase := 4 } }) ∧
    (∀ vhold fall, s.glob.phase = 4 → s.nvs.scanned = false → s.faultg.fatal = false →
      ∃ t, exec (.startupPhase (.store vhold fall)) s = .next t ∧ t.glob.phase = 5 ∧ t.nvs.scanned = true ∧
        t.time = { s.time with count := if t.nvs.saveValid then t.nvs.lastTime else 0, running := true } ∧
        t.mem = s.mem ∧ t.regs = s.regs) ∧
    (s.glob.phase = 5 →
      ∃ t, exec (.startupPhase .spares) s = .next t ∧ t.glob = { s.glob with phase := 6 } ∧
        t = { s with glob := t.glob, engines := t.engines, spans := t.spans, ports := t.ports, memc := t.memc }) ∧
    (∀ fitted ok, s.glob.phase = 6 → (∀ m, m < 16 → (s.channel m).repairs = [] ∧ bit ok m = true) →
      ∃ t, exec (.startupPhase (.memory fitted ok)) s = .next t ∧ t.glob = { s.glob with phase := 7 } ∧
        t.memc.fittedGiB = [16, 32, 64].getD fitted 0 ∧ t.memc.trained = true ∧ t.memc.channelsOk = ok ∧
        t.memc.repairsDone = 0 ∧ t = { s with glob := t.glob, memc := t.memc }) ∧
    (s.glob.phase = 7 → s.faultg.fatal = false →
      ∃ t, exec (.startupPhase (.engines [])) s = .next t ∧ t.glob = { s.glob with phase := 8, ready := true } ∧
        (∀ e, e < 72 → (t.engine e).running = (s.dutyOf e).isSome) ∧ (∀ i, i < 8 → (t.span i).running = true) ∧
        (s.faultg.clove = false → t.faultg.alive = true) ∧
        t = { s with glob := t.glob, engines := t.engines, spans := t.spans, faultg := t.faultg, out := t.out }) ∧
    (∀ speed width rev, s.glob.phase < 4 → exec (.linkTrainingStart speed width rev) s = .next s) ∧
    (∀ speed width rev, 4 ≤ s.glob.phase →
      exec (.linkTrainingStart speed width rev) s = .next { s with host := { s.host with perstHigh := true, training := true, linkUp := true, speed := speed % 16, width := width % 32, reversed := rev } }) ∧
    (∀ reads, s.fuse.reloading = true → (takeFuses reads { s with fuse.reloading := false }).fuse.ue = false →
      ∃ t, exec (.fuseReloadEnd reads) s = .next t ∧ t.glob = { s.glob with busy := false, done := true, result := 0 } ∧
        t.fuse.reloading = false ∧ t = { s with glob := t.glob, fuse := t.fuse }) ∧
    (s.memc.initialising = true → s.memLost = false →
      ∃ t, exec .memoryInitialiseEnd s = .next t ∧ t.mem = [] ∧ t.glob = { s.glob with busy := false, done := true, result := 0 } ∧
        t.memc = { s.memc with initialising := false, initDone := true } ∧
        t = { s with mem := [], glob := t.glob, memc := t.memc, age := { s.age with mapReady := false, seeded := false }, bist := { s.bist with stateReady := false, tablesValid := false }, geom := { s.geom with valid := false } })

/-- Resets (R407 to R409, R433, R434): power-on reset leaves the reset value of every register and of every block, with the
store's pages and the fuse words as they were; it is held off while a power-down save runs. A PCIe reset disables every ring
with its indices 0, drops MSI-X, closes the lock, resets the HOSTIF registers, and leaves every other register, scan-out, TIME
and memory. -/
def Obligations.ResetsTakeEffect : Prop :=
  (∀ s : State,
    (s.nvs.current = some .powerSave → exec .powerOnReset s = .next s) ∧
    (s.nvs.current ≠ some .powerSave →
      ∃ t, exec .powerOnReset s = .next t ∧ (∀ r : Reg, t.rd r = r.init % 2 ^ 32) ∧ t.mem = [] ∧ t.jobs = [] ∧
        (∀ n, t.ring n = {}) ∧ (∀ u, t.fault u = {}) ∧ (∀ p, t.port p = {}) ∧ t.glob = {} ∧ t.scan = {} ∧ t.power = {} ∧
        t.host = {} ∧ t.time = {} ∧ (∀ p, t.phys p = s.phys p) ∧ (∀ i, t.fuseWord i = s.fuseWord i) ∧
        t.pending = s.pending)) ∧
  (∀ (c : Instr) (k : Nat) (s : State), (c, k) ∈ [(Instr.pcieReset, 2), (.functionLevelReset, 3)] → s.power.move = .none →
    ∃ t, exec c s = .next t ∧ t.glob = { s.glob with unlocked := false, lastReset := k } ∧
      (∀ n, n < 8192 → t.ringOn n = false ∧ (t.ring n).hw = 0 ∧ (t.ring n).sw = 0 ∧ (t.ring n).waiting = []) ∧
      (∀ r : Reg, inHostif r.addr = true → t.rd r = r.init % 2 ^ 32) ∧
      (∀ r : Reg, inHostif r.addr = false → (∀ n, n < 8192 → r.addr ≠ (Reg.ringCtl n).addr) → t.rd r = s.rd r) ∧
      t.host.msixEnable = false ∧ (∀ v, (t.msixEntry v).mask = true) ∧ t.host.accErr = none ∧
      (∀ j ∈ t.jobs, 8192 ≤ j.ring) ∧ ((∀ j ∈ s.jobs, ¬(j.opcode = 2 ∧ j.stage = .running)) → t.mem = s.mem) ∧
      (s.MemOk → t.MemOk) ∧ t.scan = s.scan ∧ t.time = s.time ∧ t.geom = s.geom ∧ t.layers = s.layers ∧ t.faults = s.faults)

/-- Every step keeps device memory in its canonical form: addresses strictly rising, and no entry for a byte that reads as an
unlisted one does (R3, R30; the form is the model's, log entry 3). -/
def Obligations.StepsKeepMemoryCanonical : Prop := ∀ s t : State, s.MemOk → step s = .next t → t.MemOk
end

