-- ==== Sys2Proof/Laws/State.lean ====
section
/-!
SUPPORT. What each named update of State leaves as it was: one lemma per field per update, each true by definition.
-/

namespace Sys2Proof.Machine

variable (s : State)


/-! ### State.emit -/

@[simp] theorem State.emit_pending (o : Output) : (State.emit o s).pending = s.pending := rfl
@[simp] theorem State.emit_free (o : Output) : (State.emit o s).free = s.free := rfl
@[simp] theorem State.emit_regs (o : Output) : (State.emit o s).regs = s.regs := rfl
@[simp] theorem State.emit_work (o : Output) : (State.emit o s).work = s.work := rfl
@[simp] theorem State.emit_hold (o : Output) : (State.emit o s).hold = s.hold := rfl
@[simp] theorem State.emit_mem (o : Output) : (State.emit o s).mem = s.mem := rfl
@[simp] theorem State.emit_memLost (o : Output) : (State.emit o s).memLost = s.memLost := rfl
@[simp] theorem State.emit_noRecords (o : Output) : (State.emit o s).noRecords = s.noRecords := rfl
@[simp] theorem State.emit_glob (o : Output) : (State.emit o s).glob = s.glob := rfl
@[simp] theorem State.emit_host (o : Output) : (State.emit o s).host = s.host := rfl
@[simp] theorem State.emit_time (o : Output) : (State.emit o s).time = s.time := rfl
@[simp] theorem State.emit_faultg (o : Output) : (State.emit o s).faultg = s.faultg := rfl
@[simp] theorem State.emit_faults (o : Output) : (State.emit o s).faults = s.faults := rfl
@[simp] theorem State.emit_evSeq (o : Output) : (State.emit o s).evSeq = s.evSeq := rfl
@[simp] theorem State.emit_rings (o : Output) : (State.emit o s).rings = s.rings := rfl
@[simp] theorem State.emit_jobs (o : Output) : (State.emit o s).jobs = s.jobs := rfl
@[simp] theorem State.emit_engines (o : Output) : (State.emit o s).engines = s.engines := rfl
@[simp] theorem State.emit_spans (o : Output) : (State.emit o s).spans = s.spans := rfl
@[simp] theorem State.emit_nvs (o : Output) : (State.emit o s).nvs = s.nvs := rfl
@[simp] theorem State.emit_power (o : Output) : (State.emit o s).power = s.power := rfl
@[simp] theorem State.emit_geom (o : Output) : (State.emit o s).geom = s.geom := rfl
@[simp] theorem State.emit_scan (o : Output) : (State.emit o s).scan = s.scan := rfl
@[simp] theorem State.emit_layers (o : Output) : (State.emit o s).layers = s.layers := rfl
@[simp] theorem State.emit_pipes (o : Output) : (State.emit o s).pipes = s.pipes := rfl
@[simp] theorem State.emit_emitter (o : Output) : (State.emit o s).emitter = s.emitter := rfl
@[simp] theorem State.emit_fuse (o : Output) : (State.emit o s).fuse = s.fuse := rfl
@[simp] theorem State.emit_memc (o : Output) : (State.emit o s).memc = s.memc := rfl
@[simp] theorem State.emit_ports (o : Output) : (State.emit o s).ports = s.ports := rfl
@[simp] theorem State.emit_hops (o : Output) : (State.emit o s).hops = s.hops := rfl
@[simp] theorem State.emit_codecs (o : Output) : (State.emit o s).codecs = s.codecs := rfl
@[simp] theorem State.emit_age (o : Output) : (State.emit o s).age = s.age := rfl
@[simp] theorem State.emit_bist (o : Output) : (State.emit o s).bist = s.bist := rfl
@[simp] theorem State.emit_res (o : Output) : (State.emit o s).res = s.res := rfl
@[simp] theorem State.emit_alert (o : Output) : (State.emit o s).alert = s.alert := rfl

/-! ### State.tickFree -/

@[simp] theorem State.tickFree_pending : (State.tickFree s).pending = s.pending := rfl
@[simp] theorem State.tickFree_out : (State.tickFree s).out = s.out := rfl
@[simp] theorem State.tickFree_regs : (State.tickFree s).regs = s.regs := rfl
@[simp] theorem State.tickFree_work : (State.tickFree s).work = s.work := rfl
@[simp] theorem State.tickFree_hold : (State.tickFree s).hold = s.hold := rfl
@[simp] theorem State.tickFree_mem : (State.tickFree s).mem = s.mem := rfl
@[simp] theorem State.tickFree_memLost : (State.tickFree s).memLost = s.memLost := rfl
@[simp] theorem State.tickFree_noRecords : (State.tickFree s).noRecords = s.noRecords := rfl
@[simp] theorem State.tickFree_glob : (State.tickFree s).glob = s.glob := rfl
@[simp] theorem State.tickFree_host : (State.tickFree s).host = s.host := rfl
@[simp] theorem State.tickFree_time : (State.tickFree s).time = s.time := rfl
@[simp] theorem State.tickFree_faultg : (State.tickFree s).faultg = s.faultg := rfl
@[simp] theorem State.tickFree_faults : (State.tickFree s).faults = s.faults := rfl
@[simp] theorem State.tickFree_evSeq : (State.tickFree s).evSeq = s.evSeq := rfl
@[simp] theorem State.tickFree_rings : (State.tickFree s).rings = s.rings := rfl
@[simp] theorem State.tickFree_jobs : (State.tickFree s).jobs = s.jobs := rfl
@[simp] theorem State.tickFree_engines : (State.tickFree s).engines = s.engines := rfl
@[simp] theorem State.tickFree_spans : (State.tickFree s).spans = s.spans := rfl
@[simp] theorem State.tickFree_nvs : (State.tickFree s).nvs = s.nvs := rfl
@[simp] theorem State.tickFree_power : (State.tickFree s).power = s.power := rfl
@[simp] theorem State.tickFree_geom : (State.tickFree s).geom = s.geom := rfl
@[simp] theorem State.tickFree_scan : (State.tickFree s).scan = s.scan := rfl
@[simp] theorem State.tickFree_layers : (State.tickFree s).layers = s.layers := rfl
@[simp] theorem State.tickFree_pipes : (State.tickFree s).pipes = s.pipes := rfl
@[simp] theorem State.tickFree_emitter : (State.tickFree s).emitter = s.emitter := rfl
@[simp] theorem State.tickFree_fuse : (State.tickFree s).fuse = s.fuse := rfl
@[simp] theorem State.tickFree_memc : (State.tickFree s).memc = s.memc := rfl
@[simp] theorem State.tickFree_ports : (State.tickFree s).ports = s.ports := rfl
@[simp] theorem State.tickFree_hops : (State.tickFree s).hops = s.hops := rfl
@[simp] theorem State.tickFree_codecs : (State.tickFree s).codecs = s.codecs := rfl
@[simp] theorem State.tickFree_age : (State.tickFree s).age = s.age := rfl
@[simp] theorem State.tickFree_bist : (State.tickFree s).bist = s.bist := rfl
@[simp] theorem State.tickFree_res : (State.tickFree s).res = s.res := rfl
@[simp] theorem State.tickFree_alert : (State.tickFree s).alert = s.alert := rfl

/-! ### State.puts -/

@[simp] theorem State.puts_pending (a : Nat) (l : List Nat) : (State.puts a l s).pending = s.pending := rfl
@[simp] theorem State.puts_out (a : Nat) (l : List Nat) : (State.puts a l s).out = s.out := rfl
@[simp] theorem State.puts_free (a : Nat) (l : List Nat) : (State.puts a l s).free = s.free := rfl
@[simp] theorem State.puts_regs (a : Nat) (l : List Nat) : (State.puts a l s).regs = s.regs := rfl
@[simp] theorem State.puts_work (a : Nat) (l : List Nat) : (State.puts a l s).work = s.work := rfl
@[simp] theorem State.puts_hold (a : Nat) (l : List Nat) : (State.puts a l s).hold = s.hold := rfl
@[simp] theorem State.puts_memLost (a : Nat) (l : List Nat) : (State.puts a l s).memLost = s.memLost := rfl
@[simp] theorem State.puts_noRecords (a : Nat) (l : List Nat) : (State.puts a l s).noRecords = s.noRecords := rfl
@[simp] theorem State.puts_glob (a : Nat) (l : List Nat) : (State.puts a l s).glob = s.glob := rfl
@[simp] theorem State.puts_host (a : Nat) (l : List Nat) : (State.puts a l s).host = s.host := rfl
@[simp] theorem State.puts_time (a : Nat) (l : List Nat) : (State.puts a l s).time = s.time := rfl
@[simp] theorem State.puts_faultg (a : Nat) (l : List Nat) : (State.puts a l s).faultg = s.faultg := rfl
@[simp] theorem State.puts_faults (a : Nat) (l : List Nat) : (State.puts a l s).faults = s.faults := rfl
@[simp] theorem State.puts_evSeq (a : Nat) (l : List Nat) : (State.puts a l s).evSeq = s.evSeq := rfl
@[simp] theorem State.puts_rings (a : Nat) (l : List Nat) : (State.puts a l s).rings = s.rings := rfl
@[simp] theorem State.puts_jobs (a : Nat) (l : List Nat) : (State.puts a l s).jobs = s.jobs := rfl
@[simp] theorem State.puts_engines (a : Nat) (l : List Nat) : (State.puts a l s).engines = s.engines := rfl
@[simp] theorem State.puts_spans (a : Nat) (l : List Nat) : (State.puts a l s).spans = s.spans := rfl
@[simp] theorem State.puts_nvs (a : Nat) (l : List Nat) : (State.puts a l s).nvs = s.nvs := rfl
@[simp] theorem State.puts_power (a : Nat) (l : List Nat) : (State.puts a l s).power = s.power := rfl
@[simp] theorem State.puts_geom (a : Nat) (l : List Nat) : (State.puts a l s).geom = s.geom := rfl
@[simp] theorem State.puts_scan (a : Nat) (l : List Nat) : (State.puts a l s).scan = s.scan := rfl
@[simp] theorem State.puts_layers (a : Nat) (l : List Nat) : (State.puts a l s).layers = s.layers := rfl
@[simp] theorem State.puts_pipes (a : Nat) (l : List Nat) : (State.puts a l s).pipes = s.pipes := rfl
@[simp] theorem State.puts_emitter (a : Nat) (l : List Nat) : (State.puts a l s).emitter = s.emitter := rfl
@[simp] theorem State.puts_fuse (a : Nat) (l : List Nat) : (State.puts a l s).fuse = s.fuse := rfl
@[simp] theorem State.puts_memc (a : Nat) (l : List Nat) : (State.puts a l s).memc = s.memc := rfl
@[simp] theorem State.puts_ports (a : Nat) (l : List Nat) : (State.puts a l s).ports = s.ports := rfl
@[simp] theorem State.puts_hops (a : Nat) (l : List Nat) : (State.puts a l s).hops = s.hops := rfl
@[simp] theorem State.puts_codecs (a : Nat) (l : List Nat) : (State.puts a l s).codecs = s.codecs := rfl
@[simp] theorem State.puts_age (a : Nat) (l : List Nat) : (State.puts a l s).age = s.age := rfl
@[simp] theorem State.puts_bist (a : Nat) (l : List Nat) : (State.puts a l s).bist = s.bist := rfl
@[simp] theorem State.puts_res (a : Nat) (l : List Nat) : (State.puts a l s).res = s.res := rfl
@[simp] theorem State.puts_alert (a : Nat) (l : List Nat) : (State.puts a l s).alert = s.alert := rfl

/-! ### State.putLe -/

@[simp] theorem State.putLe_pending (a n v : Nat) : (State.putLe a n v s).pending = s.pending := rfl
@[simp] theorem State.putLe_out (a n v : Nat) : (State.putLe a n v s).out = s.out := rfl
@[simp] theorem State.putLe_free (a n v : Nat) : (State.putLe a n v s).free = s.free := rfl
@[simp] theorem State.putLe_regs (a n v : Nat) : (State.putLe a n v s).regs = s.regs := rfl
@[simp] theorem State.putLe_work (a n v : Nat) : (State.putLe a n v s).work = s.work := rfl
@[simp] theorem State.putLe_hold (a n v : Nat) : (State.putLe a n v s).hold = s.hold := rfl
@[simp] theorem State.putLe_memLost (a n v : Nat) : (State.putLe a n v s).memLost = s.memLost := rfl
@[simp] theorem State.putLe_noRecords (a n v : Nat) : (State.putLe a n v s).noRecords = s.noRecords := rfl
@[simp] theorem State.putLe_glob (a n v : Nat) : (State.putLe a n v s).glob = s.glob := rfl
@[simp] theorem State.putLe_host (a n v : Nat) : (State.putLe a n v s).host = s.host := rfl
@[simp] theorem State.putLe_time (a n v : Nat) : (State.putLe a n v s).time = s.time := rfl
@[simp] theorem State.putLe_faultg (a n v : Nat) : (State.putLe a n v s).faultg = s.faultg := rfl
@[simp] theorem State.putLe_faults (a n v : Nat) : (State.putLe a n v s).faults = s.faults := rfl
@[simp] theorem State.putLe_evSeq (a n v : Nat) : (State.putLe a n v s).evSeq = s.evSeq := rfl
@[simp] theorem State.putLe_rings (a n v : Nat) : (State.putLe a n v s).rings = s.rings := rfl
@[simp] theorem State.putLe_jobs (a n v : Nat) : (State.putLe a n v s).jobs = s.jobs := rfl
@[simp] theorem State.putLe_engines (a n v : Nat) : (State.putLe a n v s).engines = s.engines := rfl
@[simp] theorem State.putLe_spans (a n v : Nat) : (State.putLe a n v s).spans = s.spans := rfl
@[simp] theorem State.putLe_nvs (a n v : Nat) : (State.putLe a n v s).nvs = s.nvs := rfl
@[simp] theorem State.putLe_power (a n v : Nat) : (State.putLe a n v s).power = s.power := rfl
@[simp] theorem State.putLe_geom (a n v : Nat) : (State.putLe a n v s).geom = s.geom := rfl
@[simp] theorem State.putLe_scan (a n v : Nat) : (State.putLe a n v s).scan = s.scan := rfl
@[simp] theorem State.putLe_layers (a n v : Nat) : (State.putLe a n v s).layers = s.layers := rfl
@[simp] theorem State.putLe_pipes (a n v : Nat) : (State.putLe a n v s).pipes = s.pipes := rfl
@[simp] theorem State.putLe_emitter (a n v : Nat) : (State.putLe a n v s).emitter = s.emitter := rfl
@[simp] theorem State.putLe_fuse (a n v : Nat) : (State.putLe a n v s).fuse = s.fuse := rfl
@[simp] theorem State.putLe_memc (a n v : Nat) : (State.putLe a n v s).memc = s.memc := rfl
@[simp] theorem State.putLe_ports (a n v : Nat) : (State.putLe a n v s).ports = s.ports := rfl
@[simp] theorem State.putLe_hops (a n v : Nat) : (State.putLe a n v s).hops = s.hops := rfl
@[simp] theorem State.putLe_codecs (a n v : Nat) : (State.putLe a n v s).codecs = s.codecs := rfl
@[simp] theorem State.putLe_age (a n v : Nat) : (State.putLe a n v s).age = s.age := rfl
@[simp] theorem State.putLe_bist (a n v : Nat) : (State.putLe a n v s).bist = s.bist := rfl
@[simp] theorem State.putLe_res (a n v : Nat) : (State.putLe a n v s).res = s.res := rfl
@[simp] theorem State.putLe_alert (a n v : Nat) : (State.putLe a n v s).alert = s.alert := rfl

/-! ### State.wr -/

@[simp] theorem State.wr_pending (r : Reg) (v : Nat) : (State.wr r v s).pending = s.pending := rfl
@[simp] theorem State.wr_out (r : Reg) (v : Nat) : (State.wr r v s).out = s.out := rfl
@[simp] theorem State.wr_free (r : Reg) (v : Nat) : (State.wr r v s).free = s.free := rfl
@[simp] theorem State.wr_work (r : Reg) (v : Nat) : (State.wr r v s).work = s.work := rfl
@[simp] theorem State.wr_hold (r : Reg) (v : Nat) : (State.wr r v s).hold = s.hold := rfl
@[simp] theorem State.wr_mem (r : Reg) (v : Nat) : (State.wr r v s).mem = s.mem := rfl
@[simp] theorem State.wr_memLost (r : Reg) (v : Nat) : (State.wr r v s).memLost = s.memLost := rfl
@[simp] theorem State.wr_noRecords (r : Reg) (v : Nat) : (State.wr r v s).noRecords = s.noRecords := rfl
@[simp] theorem State.wr_glob (r : Reg) (v : Nat) : (State.wr r v s).glob = s.glob := rfl
@[simp] theorem State.wr_host (r : Reg) (v : Nat) : (State.wr r v s).host = s.host := rfl
@[simp] theorem State.wr_time (r : Reg) (v : Nat) : (State.wr r v s).time = s.time := rfl
@[simp] theorem State.wr_faultg (r : Reg) (v : Nat) : (State.wr r v s).faultg = s.faultg := rfl
@[simp] theorem State.wr_faults (r : Reg) (v : Nat) : (State.wr r v s).faults = s.faults := rfl
@[simp] theorem State.wr_evSeq (r : Reg) (v : Nat) : (State.wr r v s).evSeq = s.evSeq := rfl
@[simp] theorem State.wr_rings (r : Reg) (v : Nat) : (State.wr r v s).rings = s.rings := rfl
@[simp] theorem State.wr_jobs (r : Reg) (v : Nat) : (State.wr r v s).jobs = s.jobs := rfl
@[simp] theorem State.wr_engines (r : Reg) (v : Nat) : (State.wr r v s).engines = s.engines := rfl
@[simp] theorem State.wr_spans (r : Reg) (v : Nat) : (State.wr r v s).spans = s.spans := rfl
@[simp] theorem State.wr_nvs (r : Reg) (v : Nat) : (State.wr r v s).nvs = s.nvs := rfl
@[simp] theorem State.wr_power (r : Reg) (v : Nat) : (State.wr r v s).power = s.power := rfl
@[simp] theorem State.wr_geom (r : Reg) (v : Nat) : (State.wr r v s).geom = s.geom := rfl
@[simp] theorem State.wr_scan (r : Reg) (v : Nat) : (State.wr r v s).scan = s.scan := rfl
@[simp] theorem State.wr_layers (r : Reg) (v : Nat) : (State.wr r v s).layers = s.layers := rfl
@[simp] theorem State.wr_pipes (r : Reg) (v : Nat) : (State.wr r v s).pipes = s.pipes := rfl
@[simp] theorem State.wr_emitter (r : Reg) (v : Nat) : (State.wr r v s).emitter = s.emitter := rfl
@[simp] theorem State.wr_fuse (r : Reg) (v : Nat) : (State.wr r v s).fuse = s.fuse := rfl
@[simp] theorem State.wr_memc (r : Reg) (v : Nat) : (State.wr r v s).memc = s.memc := rfl
@[simp] theorem State.wr_ports (r : Reg) (v : Nat) : (State.wr r v s).ports = s.ports := rfl
@[simp] theorem State.wr_hops (r : Reg) (v : Nat) : (State.wr r v s).hops = s.hops := rfl
@[simp] theorem State.wr_codecs (r : Reg) (v : Nat) : (State.wr r v s).codecs = s.codecs := rfl
@[simp] theorem State.wr_age (r : Reg) (v : Nat) : (State.wr r v s).age = s.age := rfl
@[simp] theorem State.wr_bist (r : Reg) (v : Nat) : (State.wr r v s).bist = s.bist := rfl
@[simp] theorem State.wr_res (r : Reg) (v : Nat) : (State.wr r v s).res = s.res := rfl
@[simp] theorem State.wr_alert (r : Reg) (v : Nat) : (State.wr r v s).alert = s.alert := rfl

/-! ### State.setWk -/

@[simp] theorem State.setWk_pending (r : Reg) (v : Nat) : (State.setWk r v s).pending = s.pending := rfl
@[simp] theorem State.setWk_out (r : Reg) (v : Nat) : (State.setWk r v s).out = s.out := rfl
@[simp] theorem State.setWk_free (r : Reg) (v : Nat) : (State.setWk r v s).free = s.free := rfl
@[simp] theorem State.setWk_regs (r : Reg) (v : Nat) : (State.setWk r v s).regs = s.regs := rfl
@[simp] theorem State.setWk_hold (r : Reg) (v : Nat) : (State.setWk r v s).hold = s.hold := rfl
@[simp] theorem State.setWk_mem (r : Reg) (v : Nat) : (State.setWk r v s).mem = s.mem := rfl
@[simp] theorem State.setWk_memLost (r : Reg) (v : Nat) : (State.setWk r v s).memLost = s.memLost := rfl
@[simp] theorem State.setWk_noRecords (r : Reg) (v : Nat) : (State.setWk r v s).noRecords = s.noRecords := rfl
@[simp] theorem State.setWk_glob (r : Reg) (v : Nat) : (State.setWk r v s).glob = s.glob := rfl
@[simp] theorem State.setWk_host (r : Reg) (v : Nat) : (State.setWk r v s).host = s.host := rfl
@[simp] theorem State.setWk_time (r : Reg) (v : Nat) : (State.setWk r v s).time = s.time := rfl
@[simp] theorem State.setWk_faultg (r : Reg) (v : Nat) : (State.setWk r v s).faultg = s.faultg := rfl
@[simp] theorem State.setWk_faults (r : Reg) (v : Nat) : (State.setWk r v s).faults = s.faults := rfl
@[simp] theorem State.setWk_evSeq (r : Reg) (v : Nat) : (State.setWk r v s).evSeq = s.evSeq := rfl
@[simp] theorem State.setWk_rings (r : Reg) (v : Nat) : (State.setWk r v s).rings = s.rings := rfl
@[simp] theorem State.setWk_jobs (r : Reg) (v : Nat) : (State.setWk r v s).jobs = s.jobs := rfl
@[simp] theorem State.setWk_engines (r : Reg) (v : Nat) : (State.setWk r v s).engines = s.engines := rfl
@[simp] theorem State.setWk_spans (r : Reg) (v : Nat) : (State.setWk r v s).spans = s.spans := rfl
@[simp] theorem State.setWk_nvs (r : Reg) (v : Nat) : (State.setWk r v s).nvs = s.nvs := rfl
@[simp] theorem State.setWk_power (r : Reg) (v : Nat) : (State.setWk r v s).power = s.power := rfl
@[simp] theorem State.setWk_geom (r : Reg) (v : Nat) : (State.setWk r v s).geom = s.geom := rfl
@[simp] theorem State.setWk_scan (r : Reg) (v : Nat) : (State.setWk r v s).scan = s.scan := rfl
@[simp] theorem State.setWk_layers (r : Reg) (v : Nat) : (State.setWk r v s).layers = s.layers := rfl
@[simp] theorem State.setWk_pipes (r : Reg) (v : Nat) : (State.setWk r v s).pipes = s.pipes := rfl
@[simp] theorem State.setWk_emitter (r : Reg) (v : Nat) : (State.setWk r v s).emitter = s.emitter := rfl
@[simp] theorem State.setWk_fuse (r : Reg) (v : Nat) : (State.setWk r v s).fuse = s.fuse := rfl
@[simp] theorem State.setWk_memc (r : Reg) (v : Nat) : (State.setWk r v s).memc = s.memc := rfl
@[simp] theorem State.setWk_ports (r : Reg) (v : Nat) : (State.setWk r v s).ports = s.ports := rfl
@[simp] theorem State.setWk_hops (r : Reg) (v : Nat) : (State.setWk r v s).hops = s.hops := rfl
@[simp] theorem State.setWk_codecs (r : Reg) (v : Nat) : (State.setWk r v s).codecs = s.codecs := rfl
@[simp] theorem State.setWk_age (r : Reg) (v : Nat) : (State.setWk r v s).age = s.age := rfl
@[simp] theorem State.setWk_bist (r : Reg) (v : Nat) : (State.setWk r v s).bist = s.bist := rfl
@[simp] theorem State.setWk_res (r : Reg) (v : Nat) : (State.setWk r v s).res = s.res := rfl
@[simp] theorem State.setWk_alert (r : Reg) (v : Nat) : (State.setWk r v s).alert = s.alert := rfl

/-! ### State.setHeld -/

@[simp] theorem State.setHeld_pending (r : Reg) (v : Nat) : (State.setHeld r v s).pending = s.pending := rfl
@[simp] theorem State.setHeld_out (r : Reg) (v : Nat) : (State.setHeld r v s).out = s.out := rfl
@[simp] theorem State.setHeld_free (r : Reg) (v : Nat) : (State.setHeld r v s).free = s.free := rfl
@[simp] theorem State.setHeld_regs (r : Reg) (v : Nat) : (State.setHeld r v s).regs = s.regs := rfl
@[simp] theorem State.setHeld_work (r : Reg) (v : Nat) : (State.setHeld r v s).work = s.work := rfl
@[simp] theorem State.setHeld_mem (r : Reg) (v : Nat) : (State.setHeld r v s).mem = s.mem := rfl
@[simp] theorem State.setHeld_memLost (r : Reg) (v : Nat) : (State.setHeld r v s).memLost = s.memLost := rfl
@[simp] theorem State.setHeld_noRecords (r : Reg) (v : Nat) : (State.setHeld r v s).noRecords = s.noRecords := rfl
@[simp] theorem State.setHeld_glob (r : Reg) (v : Nat) : (State.setHeld r v s).glob = s.glob := rfl
@[simp] theorem State.setHeld_host (r : Reg) (v : Nat) : (State.setHeld r v s).host = s.host := rfl
@[simp] theorem State.setHeld_time (r : Reg) (v : Nat) : (State.setHeld r v s).time = s.time := rfl
@[simp] theorem State.setHeld_faultg (r : Reg) (v : Nat) : (State.setHeld r v s).faultg = s.faultg := rfl
@[simp] theorem State.setHeld_faults (r : Reg) (v : Nat) : (State.setHeld r v s).faults = s.faults := rfl
@[simp] theorem State.setHeld_evSeq (r : Reg) (v : Nat) : (State.setHeld r v s).evSeq = s.evSeq := rfl
@[simp] theorem State.setHeld_rings (r : Reg) (v : Nat) : (State.setHeld r v s).rings = s.rings := rfl
@[simp] theorem State.setHeld_jobs (r : Reg) (v : Nat) : (State.setHeld r v s).jobs = s.jobs := rfl
@[simp] theorem State.setHeld_engines (r : Reg) (v : Nat) : (State.setHeld r v s).engines = s.engines := rfl
@[simp] theorem State.setHeld_spans (r : Reg) (v : Nat) : (State.setHeld r v s).spans = s.spans := rfl
@[simp] theorem State.setHeld_nvs (r : Reg) (v : Nat) : (State.setHeld r v s).nvs = s.nvs := rfl
@[simp] theorem State.setHeld_power (r : Reg) (v : Nat) : (State.setHeld r v s).power = s.power := rfl
@[simp] theorem State.setHeld_geom (r : Reg) (v : Nat) : (State.setHeld r v s).geom = s.geom := rfl
@[simp] theorem State.setHeld_scan (r : Reg) (v : Nat) : (State.setHeld r v s).scan = s.scan := rfl
@[simp] theorem State.setHeld_layers (r : Reg) (v : Nat) : (State.setHeld r v s).layers = s.layers := rfl
@[simp] theorem State.setHeld_pipes (r : Reg) (v : Nat) : (State.setHeld r v s).pipes = s.pipes := rfl
@[simp] theorem State.setHeld_emitter (r : Reg) (v : Nat) : (State.setHeld r v s).emitter = s.emitter := rfl
@[simp] theorem State.setHeld_fuse (r : Reg) (v : Nat) : (State.setHeld r v s).fuse = s.fuse := rfl
@[simp] theorem State.setHeld_memc (r : Reg) (v : Nat) : (State.setHeld r v s).memc = s.memc := rfl
@[simp] theorem State.setHeld_ports (r : Reg) (v : Nat) : (State.setHeld r v s).ports = s.ports := rfl
@[simp] theorem State.setHeld_hops (r : Reg) (v : Nat) : (State.setHeld r v s).hops = s.hops := rfl
@[simp] theorem State.setHeld_codecs (r : Reg) (v : Nat) : (State.setHeld r v s).codecs = s.codecs := rfl
@[simp] theorem State.setHeld_age (r : Reg) (v : Nat) : (State.setHeld r v s).age = s.age := rfl
@[simp] theorem State.setHeld_bist (r : Reg) (v : Nat) : (State.setHeld r v s).bist = s.bist := rfl
@[simp] theorem State.setHeld_res (r : Reg) (v : Nat) : (State.setHeld r v s).res = s.res := rfl
@[simp] theorem State.setHeld_alert (r : Reg) (v : Nat) : (State.setHeld r v s).alert = s.alert := rfl

/-! ### State.setFault -/

@[simp] theorem State.setFault_pending (u : Nat) (v : FaultUnit) : (State.setFault u v s).pending = s.pending := rfl
@[simp] theorem State.setFault_out (u : Nat) (v : FaultUnit) : (State.setFault u v s).out = s.out := rfl
@[simp] theorem State.setFault_free (u : Nat) (v : FaultUnit) : (State.setFault u v s).free = s.free := rfl
@[simp] theorem State.setFault_regs (u : Nat) (v : FaultUnit) : (State.setFault u v s).regs = s.regs := rfl
@[simp] theorem State.setFault_work (u : Nat) (v : FaultUnit) : (State.setFault u v s).work = s.work := rfl
@[simp] theorem State.setFault_hold (u : Nat) (v : FaultUnit) : (State.setFault u v s).hold = s.hold := rfl
@[simp] theorem State.setFault_mem (u : Nat) (v : FaultUnit) : (State.setFault u v s).mem = s.mem := rfl
@[simp] theorem State.setFault_memLost (u : Nat) (v : FaultUnit) : (State.setFault u v s).memLost = s.memLost := rfl
@[simp] theorem State.setFault_noRecords (u : Nat) (v : FaultUnit) : (State.setFault u v s).noRecords = s.noRecords := rfl
@[simp] theorem State.setFault_glob (u : Nat) (v : FaultUnit) : (State.setFault u v s).glob = s.glob := rfl
@[simp] theorem State.setFault_host (u : Nat) (v : FaultUnit) : (State.setFault u v s).host = s.host := rfl
@[simp] theorem State.setFault_time (u : Nat) (v : FaultUnit) : (State.setFault u v s).time = s.time := rfl
@[simp] theorem State.setFault_faultg (u : Nat) (v : FaultUnit) : (State.setFault u v s).faultg = s.faultg := rfl
@[simp] theorem State.setFault_evSeq (u : Nat) (v : FaultUnit) : (State.setFault u v s).evSeq = s.evSeq := rfl
@[simp] theorem State.setFault_rings (u : Nat) (v : FaultUnit) : (State.setFault u v s).rings = s.rings := rfl
@[simp] theorem State.setFault_jobs (u : Nat) (v : FaultUnit) : (State.setFault u v s).jobs = s.jobs := rfl
@[simp] theorem State.setFault_engines (u : Nat) (v : FaultUnit) : (State.setFault u v s).engines = s.engines := rfl
@[simp] theorem State.setFault_spans (u : Nat) (v : FaultUnit) : (State.setFault u v s).spans = s.spans := rfl
@[simp] theorem State.setFault_nvs (u : Nat) (v : FaultUnit) : (State.setFault u v s).nvs = s.nvs := rfl
@[simp] theorem State.setFault_power (u : Nat) (v : FaultUnit) : (State.setFault u v s).power = s.power := rfl
@[simp] theorem State.setFault_geom (u : Nat) (v : FaultUnit) : (State.setFault u v s).geom = s.geom := rfl
@[simp] theorem State.setFault_scan (u : Nat) (v : FaultUnit) : (State.setFault u v s).scan = s.scan := rfl
@[simp] theorem State.setFault_layers (u : Nat) (v : FaultUnit) : (State.setFault u v s).layers = s.layers := rfl
@[simp] theorem State.setFault_pipes (u : Nat) (v : FaultUnit) : (State.setFault u v s).pipes = s.pipes := rfl
@[simp] theorem State.setFault_emitter (u : Nat) (v : FaultUnit) : (State.setFault u v s).emitter = s.emitter := rfl
@[simp] theorem State.setFault_fuse (u : Nat) (v : FaultUnit) : (State.setFault u v s).fuse = s.fuse := rfl
@[simp] theorem State.setFault_memc (u : Nat) (v : FaultUnit) : (State.setFault u v s).memc = s.memc := rfl
@[simp] theorem State.setFault_ports (u : Nat) (v : FaultUnit) : (State.setFault u v s).ports = s.ports := rfl
@[simp] theorem State.setFault_hops (u : Nat) (v : FaultUnit) : (State.setFault u v s).hops = s.hops := rfl
@[simp] theorem State.setFault_codecs (u : Nat) (v : FaultUnit) : (State.setFault u v s).codecs = s.codecs := rfl
@[simp] theorem State.setFault_age (u : Nat) (v : FaultUnit) : (State.setFault u v s).age = s.age := rfl
@[simp] theorem State.setFault_bist (u : Nat) (v : FaultUnit) : (State.setFault u v s).bist = s.bist := rfl
@[simp] theorem State.setFault_res (u : Nat) (v : FaultUnit) : (State.setFault u v s).res = s.res := rfl
@[simp] theorem State.setFault_alert (u : Nat) (v : FaultUnit) : (State.setFault u v s).alert = s.alert := rfl

/-! ### State.setRing -/

@[simp] theorem State.setRing_pending (n : Nat) (v : Ring) : (State.setRing n v s).pending = s.pending := rfl
@[simp] theorem State.setRing_out (n : Nat) (v : Ring) : (State.setRing n v s).out = s.out := rfl
@[simp] theorem State.setRing_free (n : Nat) (v : Ring) : (State.setRing n v s).free = s.free := rfl
@[simp] theorem State.setRing_regs (n : Nat) (v : Ring) : (State.setRing n v s).regs = s.regs := rfl
@[simp] theorem State.setRing_work (n : Nat) (v : Ring) : (State.setRing n v s).work = s.work := rfl
@[simp] theorem State.setRing_hold (n : Nat) (v : Ring) : (State.setRing n v s).hold = s.hold := rfl
@[simp] theorem State.setRing_mem (n : Nat) (v : Ring) : (State.setRing n v s).mem = s.mem := rfl
@[simp] theorem State.setRing_memLost (n : Nat) (v : Ring) : (State.setRing n v s).memLost = s.memLost := rfl
@[simp] theorem State.setRing_noRecords (n : Nat) (v : Ring) : (State.setRing n v s).noRecords = s.noRecords := rfl
@[simp] theorem State.setRing_glob (n : Nat) (v : Ring) : (State.setRing n v s).glob = s.glob := rfl
@[simp] theorem State.setRing_host (n : Nat) (v : Ring) : (State.setRing n v s).host = s.host := rfl
@[simp] theorem State.setRing_time (n : Nat) (v : Ring) : (State.setRing n v s).time = s.time := rfl
@[simp] theorem State.setRing_faultg (n : Nat) (v : Ring) : (State.setRing n v s).faultg = s.faultg := rfl
@[simp] theorem State.setRing_faults (n : Nat) (v : Ring) : (State.setRing n v s).faults = s.faults := rfl
@[simp] theorem State.setRing_evSeq (n : Nat) (v : Ring) : (State.setRing n v s).evSeq = s.evSeq := rfl
@[simp] theorem State.setRing_jobs (n : Nat) (v : Ring) : (State.setRing n v s).jobs = s.jobs := rfl
@[simp] theorem State.setRing_engines (n : Nat) (v : Ring) : (State.setRing n v s).engines = s.engines := rfl
@[simp] theorem State.setRing_spans (n : Nat) (v : Ring) : (State.setRing n v s).spans = s.spans := rfl
@[simp] theorem State.setRing_nvs (n : Nat) (v : Ring) : (State.setRing n v s).nvs = s.nvs := rfl
@[simp] theorem State.setRing_power (n : Nat) (v : Ring) : (State.setRing n v s).power = s.power := rfl
@[simp] theorem State.setRing_geom (n : Nat) (v : Ring) : (State.setRing n v s).geom = s.geom := rfl
@[simp] theorem State.setRing_scan (n : Nat) (v : Ring) : (State.setRing n v s).scan = s.scan := rfl
@[simp] theorem State.setRing_layers (n : Nat) (v : Ring) : (State.setRing n v s).layers = s.layers := rfl
@[simp] theorem State.setRing_pipes (n : Nat) (v : Ring) : (State.setRing n v s).pipes = s.pipes := rfl
@[simp] theorem State.setRing_emitter (n : Nat) (v : Ring) : (State.setRing n v s).emitter = s.emitter := rfl
@[simp] theorem State.setRing_fuse (n : Nat) (v : Ring) : (State.setRing n v s).fuse = s.fuse := rfl
@[simp] theorem State.setRing_memc (n : Nat) (v : Ring) : (State.setRing n v s).memc = s.memc := rfl
@[simp] theorem State.setRing_ports (n : Nat) (v : Ring) : (State.setRing n v s).ports = s.ports := rfl
@[simp] theorem State.setRing_hops (n : Nat) (v : Ring) : (State.setRing n v s).hops = s.hops := rfl
@[simp] theorem State.setRing_codecs (n : Nat) (v : Ring) : (State.setRing n v s).codecs = s.codecs := rfl
@[simp] theorem State.setRing_age (n : Nat) (v : Ring) : (State.setRing n v s).age = s.age := rfl
@[simp] theorem State.setRing_bist (n : Nat) (v : Ring) : (State.setRing n v s).bist = s.bist := rfl
@[simp] theorem State.setRing_res (n : Nat) (v : Ring) : (State.setRing n v s).res = s.res := rfl
@[simp] theorem State.setRing_alert (n : Nat) (v : Ring) : (State.setRing n v s).alert = s.alert := rfl

/-! ### State.modRing -/

@[simp] theorem State.modRing_pending (n : Nat) (g : Ring → Ring) : (State.modRing n g s).pending = s.pending := rfl
@[simp] theorem State.modRing_out (n : Nat) (g : Ring → Ring) : (State.modRing n g s).out = s.out := rfl
@[simp] theorem State.modRing_free (n : Nat) (g : Ring → Ring) : (State.modRing n g s).free = s.free := rfl
@[simp] theorem State.modRing_regs (n : Nat) (g : Ring → Ring) : (State.modRing n g s).regs = s.regs := rfl
@[simp] theorem State.modRing_work (n : Nat) (g : Ring → Ring) : (State.modRing n g s).work = s.work := rfl
@[simp] theorem State.modRing_hold (n : Nat) (g : Ring → Ring) : (State.modRing n g s).hold = s.hold := rfl
@[simp] theorem State.modRing_mem (n : Nat) (g : Ring → Ring) : (State.modRing n g s).mem = s.mem := rfl
@[simp] theorem State.modRing_memLost (n : Nat) (g : Ring → Ring) : (State.modRing n g s).memLost = s.memLost := rfl
@[simp] theorem State.modRing_noRecords (n : Nat) (g : Ring → Ring) : (State.modRing n g s).noRecords = s.noRecords := rfl
@[simp] theorem State.modRing_glob (n : Nat) (g : Ring → Ring) : (State.modRing n g s).glob = s.glob := rfl
@[simp] theorem State.modRing_host (n : Nat) (g : Ring → Ring) : (State.modRing n g s).host = s.host := rfl
@[simp] theorem State.modRing_time (n : Nat) (g : Ring → Ring) : (State.modRing n g s).time = s.time := rfl
@[simp] theorem State.modRing_faultg (n : Nat) (g : Ring → Ring) : (State.modRing n g s).faultg = s.faultg := rfl
@[simp] theorem State.modRing_faults (n : Nat) (g : Ring → Ring) : (State.modRing n g s).faults = s.faults := rfl
@[simp] theorem State.modRing_evSeq (n : Nat) (g : Ring → Ring) : (State.modRing n g s).evSeq = s.evSeq := rfl
@[simp] theorem State.modRing_jobs (n : Nat) (g : Ring → Ring) : (State.modRing n g s).jobs = s.jobs := rfl
@[simp] theorem State.modRing_engines (n : Nat) (g : Ring → Ring) : (State.modRing n g s).engines = s.engines := rfl
@[simp] theorem State.modRing_spans (n : Nat) (g : Ring → Ring) : (State.modRing n g s).spans = s.spans := rfl
@[simp] theorem State.modRing_nvs (n : Nat) (g : Ring → Ring) : (State.modRing n g s).nvs = s.nvs := rfl
@[simp] theorem State.modRing_power (n : Nat) (g : Ring → Ring) : (State.modRing n g s).power = s.power := rfl
@[simp] theorem State.modRing_geom (n : Nat) (g : Ring → Ring) : (State.modRing n g s).geom = s.geom := rfl
@[simp] theorem State.modRing_scan (n : Nat) (g : Ring → Ring) : (State.modRing n g s).scan = s.scan := rfl
@[simp] theorem State.modRing_layers (n : Nat) (g : Ring → Ring) : (State.modRing n g s).layers = s.layers := rfl
@[simp] theorem State.modRing_pipes (n : Nat) (g : Ring → Ring) : (State.modRing n g s).pipes = s.pipes := rfl
@[simp] theorem State.modRing_emitter (n : Nat) (g : Ring → Ring) : (State.modRing n g s).emitter = s.emitter := rfl
@[simp] theorem State.modRing_fuse (n : Nat) (g : Ring → Ring) : (State.modRing n g s).fuse = s.fuse := rfl
@[simp] theorem State.modRing_memc (n : Nat) (g : Ring → Ring) : (State.modRing n g s).memc = s.memc := rfl
@[simp] theorem State.modRing_ports (n : Nat) (g : Ring → Ring) : (State.modRing n g s).ports = s.ports := rfl
@[simp] theorem State.modRing_hops (n : Nat) (g : Ring → Ring) : (State.modRing n g s).hops = s.hops := rfl
@[simp] theorem State.modRing_codecs (n : Nat) (g : Ring → Ring) : (State.modRing n g s).codecs = s.codecs := rfl
@[simp] theorem State.modRing_age (n : Nat) (g : Ring → Ring) : (State.modRing n g s).age = s.age := rfl
@[simp] theorem State.modRing_bist (n : Nat) (g : Ring → Ring) : (State.modRing n g s).bist = s.bist := rfl
@[simp] theorem State.modRing_res (n : Nat) (g : Ring → Ring) : (State.modRing n g s).res = s.res := rfl
@[simp] theorem State.modRing_alert (n : Nat) (g : Ring → Ring) : (State.modRing n g s).alert = s.alert := rfl

/-! ### State.setEngine -/

@[simp] theorem State.setEngine_pending (e : Nat) (v : Engine) : (State.setEngine e v s).pending = s.pending := rfl
@[simp] theorem State.setEngine_out (e : Nat) (v : Engine) : (State.setEngine e v s).out = s.out := rfl
@[simp] theorem State.setEngine_free (e : Nat) (v : Engine) : (State.setEngine e v s).free = s.free := rfl
@[simp] theorem State.setEngine_regs (e : Nat) (v : Engine) : (State.setEngine e v s).regs = s.regs := rfl
@[simp] theorem State.setEngine_work (e : Nat) (v : Engine) : (State.setEngine e v s).work = s.work := rfl
@[simp] theorem State.setEngine_hold (e : Nat) (v : Engine) : (State.setEngine e v s).hold = s.hold := rfl
@[simp] theorem State.setEngine_mem (e : Nat) (v : Engine) : (State.setEngine e v s).mem = s.mem := rfl
@[simp] theorem State.setEngine_memLost (e : Nat) (v : Engine) : (State.setEngine e v s).memLost = s.memLost := rfl
@[simp] theorem State.setEngine_noRecords (e : Nat) (v : Engine) : (State.setEngine e v s).noRecords = s.noRecords := rfl
@[simp] theorem State.setEngine_glob (e : Nat) (v : Engine) : (State.setEngine e v s).glob = s.glob := rfl
@[simp] theorem State.setEngine_host (e : Nat) (v : Engine) : (State.setEngine e v s).host = s.host := rfl
@[simp] theorem State.setEngine_time (e : Nat) (v : Engine) : (State.setEngine e v s).time = s.time := rfl
@[simp] theorem State.setEngine_faultg (e : Nat) (v : Engine) : (State.setEngine e v s).faultg = s.faultg := rfl
@[simp] theorem State.setEngine_faults (e : Nat) (v : Engine) : (State.setEngine e v s).faults = s.faults := rfl
@[simp] theorem State.setEngine_evSeq (e : Nat) (v : Engine) : (State.setEngine e v s).evSeq = s.evSeq := rfl
@[simp] theorem State.setEngine_rings (e : Nat) (v : Engine) : (State.setEngine e v s).rings = s.rings := rfl
@[simp] theorem State.setEngine_jobs (e : Nat) (v : Engine) : (State.setEngine e v s).jobs = s.jobs := rfl
@[simp] theorem State.setEngine_spans (e : Nat) (v : Engine) : (State.setEngine e v s).spans = s.spans := rfl
@[simp] theorem State.setEngine_nvs (e : Nat) (v : Engine) : (State.setEngine e v s).nvs = s.nvs := rfl
@[simp] theorem State.setEngine_power (e : Nat) (v : Engine) : (State.setEngine e v s).power = s.power := rfl
@[simp] theorem State.setEngine_geom (e : Nat) (v : Engine) : (State.setEngine e v s).geom = s.geom := rfl
@[simp] theorem State.setEngine_scan (e : Nat) (v : Engine) : (State.setEngine e v s).scan = s.scan := rfl
@[simp] theorem State.setEngine_layers (e : Nat) (v : Engine) : (State.setEngine e v s).layers = s.layers := rfl
@[simp] theorem State.setEngine_pipes (e : Nat) (v : Engine) : (State.setEngine e v s).pipes = s.pipes := rfl
@[simp] theorem State.setEngine_emitter (e : Nat) (v : Engine) : (State.setEngine e v s).emitter = s.emitter := rfl
@[simp] theorem State.setEngine_fuse (e : Nat) (v : Engine) : (State.setEngine e v s).fuse = s.fuse := rfl
@[simp] theorem State.setEngine_memc (e : Nat) (v : Engine) : (State.setEngine e v s).memc = s.memc := rfl
@[simp] theorem State.setEngine_ports (e : Nat) (v : Engine) : (State.setEngine e v s).ports = s.ports := rfl
@[simp] theorem State.setEngine_hops (e : Nat) (v : Engine) : (State.setEngine e v s).hops = s.hops := rfl
@[simp] theorem State.setEngine_codecs (e : Nat) (v : Engine) : (State.setEngine e v s).codecs = s.codecs := rfl
@[simp] theorem State.setEngine_age (e : Nat) (v : Engine) : (State.setEngine e v s).age = s.age := rfl
@[simp] theorem State.setEngine_bist (e : Nat) (v : Engine) : (State.setEngine e v s).bist = s.bist := rfl
@[simp] theorem State.setEngine_res (e : Nat) (v : Engine) : (State.setEngine e v s).res = s.res := rfl
@[simp] theorem State.setEngine_alert (e : Nat) (v : Engine) : (State.setEngine e v s).alert = s.alert := rfl

/-! ### State.modEngine -/

@[simp] theorem State.modEngine_pending (e : Nat) (g : Engine → Engine) : (State.modEngine e g s).pending = s.pending := rfl
@[simp] theorem State.modEngine_out (e : Nat) (g : Engine → Engine) : (State.modEngine e g s).out = s.out := rfl
@[simp] theorem State.modEngine_free (e : Nat) (g : Engine → Engine) : (State.modEngine e g s).free = s.free := rfl
@[simp] theorem State.modEngine_regs (e : Nat) (g : Engine → Engine) : (State.modEngine e g s).regs = s.regs := rfl
@[simp] theorem State.modEngine_work (e : Nat) (g : Engine → Engine) : (State.modEngine e g s).work = s.work := rfl
@[simp] theorem State.modEngine_hold (e : Nat) (g : Engine → Engine) : (State.modEngine e g s).hold = s.hold := rfl
@[simp] theorem State.modEngine_mem (e : Nat) (g : Engine → Engine) : (State.modEngine e g s).mem = s.mem := rfl
@[simp] theorem State.modEngine_memLost (e : Nat) (g : Engine → Engine) : (State.modEngine e g s).memLost = s.memLost := rfl
@[simp] theorem State.modEngine_noRecords (e : Nat) (g : Engine → Engine) : (State.modEngine e g s).noRecords = s.noRecords := rfl
@[simp] theorem State.modEngine_glob (e : Nat) (g : Engine → Engine) : (State.modEngine e g s).glob = s.glob := rfl
@[simp] theorem State.modEngine_host (e : Nat) (g : Engine → Engine) : (State.modEngine e g s).host = s.host := rfl
@[simp] theorem State.modEngine_time (e : Nat) (g : Engine → Engine) : (State.modEngine e g s).time = s.time := rfl
@[simp] theorem State.modEngine_faultg (e : Nat) (g : Engine → Engine) : (State.modEngine e g s).faultg = s.faultg := rfl
@[simp] theorem State.modEngine_faults (e : Nat) (g : Engine → Engine) : (State.modEngine e g s).faults = s.faults := rfl
@[simp] theorem State.modEngine_evSeq (e : Nat) (g : Engine → Engine) : (State.modEngine e g s).evSeq = s.evSeq := rfl
@[simp] theorem State.modEngine_rings (e : Nat) (g : Engine → Engine) : (State.modEngine e g s).rings = s.rings := rfl
@[simp] theorem State.modEngine_jobs (e : Nat) (g : Engine → Engine) : (State.modEngine e g s).jobs = s.jobs := rfl
@[simp] theorem State.modEngine_spans (e : Nat) (g : Engine → Engine) : (State.modEngine e g s).spans = s.spans := rfl
@[simp] theorem State.modEngine_nvs (e : Nat) (g : Engine → Engine) : (State.modEngine e g s).nvs = s.nvs := rfl
@[simp] theorem State.modEngine_power (e : Nat) (g : Engine → Engine) : (State.modEngine e g s).power = s.power := rfl
@[simp] theorem State.modEngine_geom (e : Nat) (g : Engine → Engine) : (State.modEngine e g s).geom = s.geom := rfl
@[simp] theorem State.modEngine_scan (e : Nat) (g : Engine → Engine) : (State.modEngine e g s).scan = s.scan := rfl
@[simp] theorem State.modEngine_layers (e : Nat) (g : Engine → Engine) : (State.modEngine e g s).layers = s.layers := rfl
@[simp] theorem State.modEngine_pipes (e : Nat) (g : Engine → Engine) : (State.modEngine e g s).pipes = s.pipes := rfl
@[simp] theorem State.modEngine_emitter (e : Nat) (g : Engine → Engine) : (State.modEngine e g s).emitter = s.emitter := rfl
@[simp] theorem State.modEngine_fuse (e : Nat) (g : Engine → Engine) : (State.modEngine e g s).fuse = s.fuse := rfl
@[simp] theorem State.modEngine_memc (e : Nat) (g : Engine → Engine) : (State.modEngine e g s).memc = s.memc := rfl
@[simp] theorem State.modEngine_ports (e : Nat) (g : Engine → Engine) : (State.modEngine e g s).ports = s.ports := rfl
@[simp] theorem State.modEngine_hops (e : Nat) (g : Engine → Engine) : (State.modEngine e g s).hops = s.hops := rfl
@[simp] theorem State.modEngine_codecs (e : Nat) (g : Engine → Engine) : (State.modEngine e g s).codecs = s.codecs := rfl
@[simp] theorem State.modEngine_age (e : Nat) (g : Engine → Engine) : (State.modEngine e g s).age = s.age := rfl
@[simp] theorem State.modEngine_bist (e : Nat) (g : Engine → Engine) : (State.modEngine e g s).bist = s.bist := rfl
@[simp] theorem State.modEngine_res (e : Nat) (g : Engine → Engine) : (State.modEngine e g s).res = s.res := rfl
@[simp] theorem State.modEngine_alert (e : Nat) (g : Engine → Engine) : (State.modEngine e g s).alert = s.alert := rfl

/-! ### State.setSpan -/

@[simp] theorem State.setSpan_pending (i : Nat) (v : Span) : (State.setSpan i v s).pending = s.pending := rfl
@[simp] theorem State.setSpan_out (i : Nat) (v : Span) : (State.setSpan i v s).out = s.out := rfl
@[simp] theorem State.setSpan_free (i : Nat) (v : Span) : (State.setSpan i v s).free = s.free := rfl
@[simp] theorem State.setSpan_regs (i : Nat) (v : Span) : (State.setSpan i v s).regs = s.regs := rfl
@[simp] theorem State.setSpan_work (i : Nat) (v : Span) : (State.setSpan i v s).work = s.work := rfl
@[simp] theorem State.setSpan_hold (i : Nat) (v : Span) : (State.setSpan i v s).hold = s.hold := rfl
@[simp] theorem State.setSpan_mem (i : Nat) (v : Span) : (State.setSpan i v s).mem = s.mem := rfl
@[simp] theorem State.setSpan_memLost (i : Nat) (v : Span) : (State.setSpan i v s).memLost = s.memLost := rfl
@[simp] theorem State.setSpan_noRecords (i : Nat) (v : Span) : (State.setSpan i v s).noRecords = s.noRecords := rfl
@[simp] theorem State.setSpan_glob (i : Nat) (v : Span) : (State.setSpan i v s).glob = s.glob := rfl
@[simp] theorem State.setSpan_host (i : Nat) (v : Span) : (State.setSpan i v s).host = s.host := rfl
@[simp] theorem State.setSpan_time (i : Nat) (v : Span) : (State.setSpan i v s).time = s.time := rfl
@[simp] theorem State.setSpan_faultg (i : Nat) (v : Span) : (State.setSpan i v s).faultg = s.faultg := rfl
@[simp] theorem State.setSpan_faults (i : Nat) (v : Span) : (State.setSpan i v s).faults = s.faults := rfl
@[simp] theorem State.setSpan_evSeq (i : Nat) (v : Span) : (State.setSpan i v s).evSeq = s.evSeq := rfl
@[simp] theorem State.setSpan_rings (i : Nat) (v : Span) : (State.setSpan i v s).rings = s.rings := rfl
@[simp] theorem State.setSpan_jobs (i : Nat) (v : Span) : (State.setSpan i v s).jobs = s.jobs := rfl
@[simp] theorem State.setSpan_engines (i : Nat) (v : Span) : (State.setSpan i v s).engines = s.engines := rfl
@[simp] theorem State.setSpan_nvs (i : Nat) (v : Span) : (State.setSpan i v s).nvs = s.nvs := rfl
@[simp] theorem State.setSpan_power (i : Nat) (v : Span) : (State.setSpan i v s).power = s.power := rfl
@[simp] theorem State.setSpan_geom (i : Nat) (v : Span) : (State.setSpan i v s).geom = s.geom := rfl
@[simp] theorem State.setSpan_scan (i : Nat) (v : Span) : (State.setSpan i v s).scan = s.scan := rfl
@[simp] theorem State.setSpan_layers (i : Nat) (v : Span) : (State.setSpan i v s).layers = s.layers := rfl
@[simp] theorem State.setSpan_pipes (i : Nat) (v : Span) : (State.setSpan i v s).pipes = s.pipes := rfl
@[simp] theorem State.setSpan_emitter (i : Nat) (v : Span) : (State.setSpan i v s).emitter = s.emitter := rfl
@[simp] theorem State.setSpan_fuse (i : Nat) (v : Span) : (State.setSpan i v s).fuse = s.fuse := rfl
@[simp] theorem State.setSpan_memc (i : Nat) (v : Span) : (State.setSpan i v s).memc = s.memc := rfl
@[simp] theorem State.setSpan_ports (i : Nat) (v : Span) : (State.setSpan i v s).ports = s.ports := rfl
@[simp] theorem State.setSpan_hops (i : Nat) (v : Span) : (State.setSpan i v s).hops = s.hops := rfl
@[simp] theorem State.setSpan_codecs (i : Nat) (v : Span) : (State.setSpan i v s).codecs = s.codecs := rfl
@[simp] theorem State.setSpan_age (i : Nat) (v : Span) : (State.setSpan i v s).age = s.age := rfl
@[simp] theorem State.setSpan_bist (i : Nat) (v : Span) : (State.setSpan i v s).bist = s.bist := rfl
@[simp] theorem State.setSpan_res (i : Nat) (v : Span) : (State.setSpan i v s).res = s.res := rfl
@[simp] theorem State.setSpan_alert (i : Nat) (v : Span) : (State.setSpan i v s).alert = s.alert := rfl

/-! ### State.modSpan -/

@[simp] theorem State.modSpan_pending (i : Nat) (g : Span → Span) : (State.modSpan i g s).pending = s.pending := rfl
@[simp] theorem State.modSpan_out (i : Nat) (g : Span → Span) : (State.modSpan i g s).out = s.out := rfl
@[simp] theorem State.modSpan_free (i : Nat) (g : Span → Span) : (State.modSpan i g s).free = s.free := rfl
@[simp] theorem State.modSpan_regs (i : Nat) (g : Span → Span) : (State.modSpan i g s).regs = s.regs := rfl
@[simp] theorem State.modSpan_work (i : Nat) (g : Span → Span) : (State.modSpan i g s).work = s.work := rfl
@[simp] theorem State.modSpan_hold (i : Nat) (g : Span → Span) : (State.modSpan i g s).hold = s.hold := rfl
@[simp] theorem State.modSpan_mem (i : Nat) (g : Span → Span) : (State.modSpan i g s).mem = s.mem := rfl
@[simp] theorem State.modSpan_memLost (i : Nat) (g : Span → Span) : (State.modSpan i g s).memLost = s.memLost := rfl
@[simp] theorem State.modSpan_noRecords (i : Nat) (g : Span → Span) : (State.modSpan i g s).noRecords = s.noRecords := rfl
@[simp] theorem State.modSpan_glob (i : Nat) (g : Span → Span) : (State.modSpan i g s).glob = s.glob := rfl
@[simp] theorem State.modSpan_host (i : Nat) (g : Span → Span) : (State.modSpan i g s).host = s.host := rfl
@[simp] theorem State.modSpan_time (i : Nat) (g : Span → Span) : (State.modSpan i g s).time = s.time := rfl
@[simp] theorem State.modSpan_faultg (i : Nat) (g : Span → Span) : (State.modSpan i g s).faultg = s.faultg := rfl
@[simp] theorem State.modSpan_faults (i : Nat) (g : Span → Span) : (State.modSpan i g s).faults = s.faults := rfl
@[simp] theorem State.modSpan_evSeq (i : Nat) (g : Span → Span) : (State.modSpan i g s).evSeq = s.evSeq := rfl
@[simp] theorem State.modSpan_rings (i : Nat) (g : Span → Span) : (State.modSpan i g s).rings = s.rings := rfl
@[simp] theorem State.modSpan_jobs (i : Nat) (g : Span → Span) : (State.modSpan i g s).jobs = s.jobs := rfl
@[simp] theorem State.modSpan_engines (i : Nat) (g : Span → Span) : (State.modSpan i g s).engines = s.engines := rfl
@[simp] theorem State.modSpan_nvs (i : Nat) (g : Span → Span) : (State.modSpan i g s).nvs = s.nvs := rfl
@[simp] theorem State.modSpan_power (i : Nat) (g : Span → Span) : (State.modSpan i g s).power = s.power := rfl
@[simp] theorem State.modSpan_geom (i : Nat) (g : Span → Span) : (State.modSpan i g s).geom = s.geom := rfl
@[simp] theorem State.modSpan_scan (i : Nat) (g : Span → Span) : (State.modSpan i g s).scan = s.scan := rfl
@[simp] theorem State.modSpan_layers (i : Nat) (g : Span → Span) : (State.modSpan i g s).layers = s.layers := rfl
@[simp] theorem State.modSpan_pipes (i : Nat) (g : Span → Span) : (State.modSpan i g s).pipes = s.pipes := rfl
@[simp] theorem State.modSpan_emitter (i : Nat) (g : Span → Span) : (State.modSpan i g s).emitter = s.emitter := rfl
@[simp] theorem State.modSpan_fuse (i : Nat) (g : Span → Span) : (State.modSpan i g s).fuse = s.fuse := rfl
@[simp] theorem State.modSpan_memc (i : Nat) (g : Span → Span) : (State.modSpan i g s).memc = s.memc := rfl
@[simp] theorem State.modSpan_ports (i : Nat) (g : Span → Span) : (State.modSpan i g s).ports = s.ports := rfl
@[simp] theorem State.modSpan_hops (i : Nat) (g : Span → Span) : (State.modSpan i g s).hops = s.hops := rfl
@[simp] theorem State.modSpan_codecs (i : Nat) (g : Span → Span) : (State.modSpan i g s).codecs = s.codecs := rfl
@[simp] theorem State.modSpan_age (i : Nat) (g : Span → Span) : (State.modSpan i g s).age = s.age := rfl
@[simp] theorem State.modSpan_bist (i : Nat) (g : Span → Span) : (State.modSpan i g s).bist = s.bist := rfl
@[simp] theorem State.modSpan_res (i : Nat) (g : Span → Span) : (State.modSpan i g s).res = s.res := rfl
@[simp] theorem State.modSpan_alert (i : Nat) (g : Span → Span) : (State.modSpan i g s).alert = s.alert := rfl

/-! ### State.setPort -/

@[simp] theorem State.setPort_pending (p : Nat) (v : Port) : (State.setPort p v s).pending = s.pending := rfl
@[simp] theorem State.setPort_out (p : Nat) (v : Port) : (State.setPort p v s).out = s.out := rfl
@[simp] theorem State.setPort_free (p : Nat) (v : Port) : (State.setPort p v s).free = s.free := rfl
@[simp] theorem State.setPort_regs (p : Nat) (v : Port) : (State.setPort p v s).regs = s.regs := rfl
@[simp] theorem State.setPort_work (p : Nat) (v : Port) : (State.setPort p v s).work = s.work := rfl
@[simp] theorem State.setPort_hold (p : Nat) (v : Port) : (State.setPort p v s).hold = s.hold := rfl
@[simp] theorem State.setPort_mem (p : Nat) (v : Port) : (State.setPort p v s).mem = s.mem := rfl
@[simp] theorem State.setPort_memLost (p : Nat) (v : Port) : (State.setPort p v s).memLost = s.memLost := rfl
@[simp] theorem State.setPort_noRecords (p : Nat) (v : Port) : (State.setPort p v s).noRecords = s.noRecords := rfl
@[simp] theorem State.setPort_glob (p : Nat) (v : Port) : (State.setPort p v s).glob = s.glob := rfl
@[simp] theorem State.setPort_host (p : Nat) (v : Port) : (State.setPort p v s).host = s.host := rfl
@[simp] theorem State.setPort_time (p : Nat) (v : Port) : (State.setPort p v s).time = s.time := rfl
@[simp] theorem State.setPort_faultg (p : Nat) (v : Port) : (State.setPort p v s).faultg = s.faultg := rfl
@[simp] theorem State.setPort_faults (p : Nat) (v : Port) : (State.setPort p v s).faults = s.faults := rfl
@[simp] theorem State.setPort_evSeq (p : Nat) (v : Port) : (State.setPort p v s).evSeq = s.evSeq := rfl
@[simp] theorem State.setPort_rings (p : Nat) (v : Port) : (State.setPort p v s).rings = s.rings := rfl
@[simp] theorem State.setPort_jobs (p : Nat) (v : Port) : (State.setPort p v s).jobs = s.jobs := rfl
@[simp] theorem State.setPort_engines (p : Nat) (v : Port) : (State.setPort p v s).engines = s.engines := rfl
@[simp] theorem State.setPort_spans (p : Nat) (v : Port) : (State.setPort p v s).spans = s.spans := rfl
@[simp] theorem State.setPort_nvs (p : Nat) (v : Port) : (State.setPort p v s).nvs = s.nvs := rfl
@[simp] theorem State.setPort_power (p : Nat) (v : Port) : (State.setPort p v s).power = s.power := rfl
@[simp] theorem State.setPort_geom (p : Nat) (v : Port) : (State.setPort p v s).geom = s.geom := rfl
@[simp] theorem State.setPort_scan (p : Nat) (v : Port) : (State.setPort p v s).scan = s.scan := rfl
@[simp] theorem State.setPort_layers (p : Nat) (v : Port) : (State.setPort p v s).layers = s.layers := rfl
@[simp] theorem State.setPort_pipes (p : Nat) (v : Port) : (State.setPort p v s).pipes = s.pipes := rfl
@[simp] theorem State.setPort_emitter (p : Nat) (v : Port) : (State.setPort p v s).emitter = s.emitter := rfl
@[simp] theorem State.setPort_fuse (p : Nat) (v : Port) : (State.setPort p v s).fuse = s.fuse := rfl
@[simp] theorem State.setPort_memc (p : Nat) (v : Port) : (State.setPort p v s).memc = s.memc := rfl
@[simp] theorem State.setPort_hops (p : Nat) (v : Port) : (State.setPort p v s).hops = s.hops := rfl
@[simp] theorem State.setPort_codecs (p : Nat) (v : Port) : (State.setPort p v s).codecs = s.codecs := rfl
@[simp] theorem State.setPort_age (p : Nat) (v : Port) : (State.setPort p v s).age = s.age := rfl
@[simp] theorem State.setPort_bist (p : Nat) (v : Port) : (State.setPort p v s).bist = s.bist := rfl
@[simp] theorem State.setPort_res (p : Nat) (v : Port) : (State.setPort p v s).res = s.res := rfl
@[simp] theorem State.setPort_alert (p : Nat) (v : Port) : (State.setPort p v s).alert = s.alert := rfl

/-! ### State.modPort -/

@[simp] theorem State.modPort_pending (p : Nat) (g : Port → Port) : (State.modPort p g s).pending = s.pending := rfl
@[simp] theorem State.modPort_out (p : Nat) (g : Port → Port) : (State.modPort p g s).out = s.out := rfl
@[simp] theorem State.modPort_free (p : Nat) (g : Port → Port) : (State.modPort p g s).free = s.free := rfl
@[simp] theorem State.modPort_regs (p : Nat) (g : Port → Port) : (State.modPort p g s).regs = s.regs := rfl
@[simp] theorem State.modPort_work (p : Nat) (g : Port → Port) : (State.modPort p g s).work = s.work := rfl
@[simp] theorem State.modPort_hold (p : Nat) (g : Port → Port) : (State.modPort p g s).hold = s.hold := rfl
@[simp] theorem State.modPort_mem (p : Nat) (g : Port → Port) : (State.modPort p g s).mem = s.mem := rfl
@[simp] theorem State.modPort_memLost (p : Nat) (g : Port → Port) : (State.modPort p g s).memLost = s.memLost := rfl
@[simp] theorem State.modPort_noRecords (p : Nat) (g : Port → Port) : (State.modPort p g s).noRecords = s.noRecords := rfl
@[simp] theorem State.modPort_glob (p : Nat) (g : Port → Port) : (State.modPort p g s).glob = s.glob := rfl
@[simp] theorem State.modPort_host (p : Nat) (g : Port → Port) : (State.modPort p g s).host = s.host := rfl
@[simp] theorem State.modPort_time (p : Nat) (g : Port → Port) : (State.modPort p g s).time = s.time := rfl
@[simp] theorem State.modPort_faultg (p : Nat) (g : Port → Port) : (State.modPort p g s).faultg = s.faultg := rfl
@[simp] theorem State.modPort_faults (p : Nat) (g : Port → Port) : (State.modPort p g s).faults = s.faults := rfl
@[simp] theorem State.modPort_evSeq (p : Nat) (g : Port → Port) : (State.modPort p g s).evSeq = s.evSeq := rfl
@[simp] theorem State.modPort_rings (p : Nat) (g : Port → Port) : (State.modPort p g s).rings = s.rings := rfl
@[simp] theorem State.modPort_jobs (p : Nat) (g : Port → Port) : (State.modPort p g s).jobs = s.jobs := rfl
@[simp] theorem State.modPort_engines (p : Nat) (g : Port → Port) : (State.modPort p g s).engines = s.engines := rfl
@[simp] theorem State.modPort_spans (p : Nat) (g : Port → Port) : (State.modPort p g s).spans = s.spans := rfl
@[simp] theorem State.modPort_nvs (p : Nat) (g : Port → Port) : (State.modPort p g s).nvs = s.nvs := rfl
@[simp] theorem State.modPort_power (p : Nat) (g : Port → Port) : (State.modPort p g s).power = s.power := rfl
@[simp] theorem State.modPort_geom (p : Nat) (g : Port → Port) : (State.modPort p g s).geom = s.geom := rfl
@[simp] theorem State.modPort_scan (p : Nat) (g : Port → Port) : (State.modPort p g s).scan = s.scan := rfl
@[simp] theorem State.modPort_layers (p : Nat) (g : Port → Port) : (State.modPort p g s).layers = s.layers := rfl
@[simp] theorem State.modPort_pipes (p : Nat) (g : Port → Port) : (State.modPort p g s).pipes = s.pipes := rfl
@[simp] theorem State.modPort_emitter (p : Nat) (g : Port → Port) : (State.modPort p g s).emitter = s.emitter := rfl
@[simp] theorem State.modPort_fuse (p : Nat) (g : Port → Port) : (State.modPort p g s).fuse = s.fuse := rfl
@[simp] theorem State.modPort_memc (p : Nat) (g : Port → Port) : (State.modPort p g s).memc = s.memc := rfl
@[simp] theorem State.modPort_hops (p : Nat) (g : Port → Port) : (State.modPort p g s).hops = s.hops := rfl
@[simp] theorem State.modPort_codecs (p : Nat) (g : Port → Port) : (State.modPort p g s).codecs = s.codecs := rfl
@[simp] theorem State.modPort_age (p : Nat) (g : Port → Port) : (State.modPort p g s).age = s.age := rfl
@[simp] theorem State.modPort_bist (p : Nat) (g : Port → Port) : (State.modPort p g s).bist = s.bist := rfl
@[simp] theorem State.modPort_res (p : Nat) (g : Port → Port) : (State.modPort p g s).res = s.res := rfl
@[simp] theorem State.modPort_alert (p : Nat) (g : Port → Port) : (State.modPort p g s).alert = s.alert := rfl

/-! ### State.modLane -/

@[simp] theorem State.modLane_pending (p l : Nat) (g : Lane → Lane) : (State.modLane p l g s).pending = s.pending := rfl
@[simp] theorem State.modLane_out (p l : Nat) (g : Lane → Lane) : (State.modLane p l g s).out = s.out := rfl
@[simp] theorem State.modLane_free (p l : Nat) (g : Lane → Lane) : (State.modLane p l g s).free = s.free := rfl
@[simp] theorem State.modLane_regs (p l : Nat) (g : Lane → Lane) : (State.modLane p l g s).regs = s.regs := rfl
@[simp] theorem State.modLane_work (p l : Nat) (g : Lane → Lane) : (State.modLane p l g s).work = s.work := rfl
@[simp] theorem State.modLane_hold (p l : Nat) (g : Lane → Lane) : (State.modLane p l g s).hold = s.hold := rfl
@[simp] theorem State.modLane_mem (p l : Nat) (g : Lane → Lane) : (State.modLane p l g s).mem = s.mem := rfl
@[simp] theorem State.modLane_memLost (p l : Nat) (g : Lane → Lane) : (State.modLane p l g s).memLost = s.memLost := rfl
@[simp] theorem State.modLane_noRecords (p l : Nat) (g : Lane → Lane) : (State.modLane p l g s).noRecords = s.noRecords := rfl
@[simp] theorem State.modLane_glob (p l : Nat) (g : Lane → Lane) : (State.modLane p l g s).glob = s.glob := rfl
@[simp] theorem State.modLane_host (p l : Nat) (g : Lane → Lane) : (State.modLane p l g s).host = s.host := rfl
@[simp] theorem State.modLane_time (p l : Nat) (g : Lane → Lane) : (State.modLane p l g s).time = s.time := rfl
@[simp] theorem State.modLane_faultg (p l : Nat) (g : Lane → Lane) : (State.modLane p l g s).faultg = s.faultg := rfl
@[simp] theorem State.modLane_faults (p l : Nat) (g : Lane → Lane) : (State.modLane p l g s).faults = s.faults := rfl
@[simp] theorem State.modLane_evSeq (p l : Nat) (g : Lane → Lane) : (State.modLane p l g s).evSeq = s.evSeq := rfl
@[simp] theorem State.modLane_rings (p l : Nat) (g : Lane → Lane) : (State.modLane p l g s).rings = s.rings := rfl
@[simp] theorem State.modLane_jobs (p l : Nat) (g : Lane → Lane) : (State.modLane p l g s).jobs = s.jobs := rfl
@[simp] theorem State.modLane_engines (p l : Nat) (g : Lane → Lane) : (State.modLane p l g s).engines = s.engines := rfl
@[simp] theorem State.modLane_spans (p l : Nat) (g : Lane → Lane) : (State.modLane p l g s).spans = s.spans := rfl
@[simp] theorem State.modLane_nvs (p l : Nat) (g : Lane → Lane) : (State.modLane p l g s).nvs = s.nvs := rfl
@[simp] theorem State.modLane_power (p l : Nat) (g : Lane → Lane) : (State.modLane p l g s).power = s.power := rfl
@[simp] theorem State.modLane_geom (p l : Nat) (g : Lane → Lane) : (State.modLane p l g s).geom = s.geom := rfl
@[simp] theorem State.modLane_scan (p l : Nat) (g : Lane → Lane) : (State.modLane p l g s).scan = s.scan := rfl
@[simp] theorem State.modLane_layers (p l : Nat) (g : Lane → Lane) : (State.modLane p l g s).layers = s.layers := rfl
@[simp] theorem State.modLane_pipes (p l : Nat) (g : Lane → Lane) : (State.modLane p l g s).pipes = s.pipes := rfl
@[simp] theorem State.modLane_emitter (p l : Nat) (g : Lane → Lane) : (State.modLane p l g s).emitter = s.emitter := rfl
@[simp] theorem State.modLane_fuse (p l : Nat) (g : Lane → Lane) : (State.modLane p l g s).fuse = s.fuse := rfl
@[simp] theorem State.modLane_memc (p l : Nat) (g : Lane → Lane) : (State.modLane p l g s).memc = s.memc := rfl
@[simp] theorem State.modLane_hops (p l : Nat) (g : Lane → Lane) : (State.modLane p l g s).hops = s.hops := rfl
@[simp] theorem State.modLane_codecs (p l : Nat) (g : Lane → Lane) : (State.modLane p l g s).codecs = s.codecs := rfl
@[simp] theorem State.modLane_age (p l : Nat) (g : Lane → Lane) : (State.modLane p l g s).age = s.age := rfl
@[simp] theorem State.modLane_bist (p l : Nat) (g : Lane → Lane) : (State.modLane p l g s).bist = s.bist := rfl
@[simp] theorem State.modLane_res (p l : Nat) (g : Lane → Lane) : (State.modLane p l g s).res = s.res := rfl
@[simp] theorem State.modLane_alert (p l : Nat) (g : Lane → Lane) : (State.modLane p l g s).alert = s.alert := rfl

/-! ### State.modHop -/

@[simp] theorem State.modHop_pending (p h : Nat) (g : Hop → Hop) : (State.modHop p h g s).pending = s.pending := rfl
@[simp] theorem State.modHop_out (p h : Nat) (g : Hop → Hop) : (State.modHop p h g s).out = s.out := rfl
@[simp] theorem State.modHop_free (p h : Nat) (g : Hop → Hop) : (State.modHop p h g s).free = s.free := rfl
@[simp] theorem State.modHop_regs (p h : Nat) (g : Hop → Hop) : (State.modHop p h g s).regs = s.regs := rfl
@[simp] theorem State.modHop_work (p h : Nat) (g : Hop → Hop) : (State.modHop p h g s).work = s.work := rfl
@[simp] theorem State.modHop_hold (p h : Nat) (g : Hop → Hop) : (State.modHop p h g s).hold = s.hold := rfl
@[simp] theorem State.modHop_mem (p h : Nat) (g : Hop → Hop) : (State.modHop p h g s).mem = s.mem := rfl
@[simp] theorem State.modHop_memLost (p h : Nat) (g : Hop → Hop) : (State.modHop p h g s).memLost = s.memLost := rfl
@[simp] theorem State.modHop_noRecords (p h : Nat) (g : Hop → Hop) : (State.modHop p h g s).noRecords = s.noRecords := rfl
@[simp] theorem State.modHop_glob (p h : Nat) (g : Hop → Hop) : (State.modHop p h g s).glob = s.glob := rfl
@[simp] theorem State.modHop_host (p h : Nat) (g : Hop → Hop) : (State.modHop p h g s).host = s.host := rfl
@[simp] theorem State.modHop_time (p h : Nat) (g : Hop → Hop) : (State.modHop p h g s).time = s.time := rfl
@[simp] theorem State.modHop_faultg (p h : Nat) (g : Hop → Hop) : (State.modHop p h g s).faultg = s.faultg := rfl
@[simp] theorem State.modHop_faults (p h : Nat) (g : Hop → Hop) : (State.modHop p h g s).faults = s.faults := rfl
@[simp] theorem State.modHop_evSeq (p h : Nat) (g : Hop → Hop) : (State.modHop p h g s).evSeq = s.evSeq := rfl
@[simp] theorem State.modHop_rings (p h : Nat) (g : Hop → Hop) : (State.modHop p h g s).rings = s.rings := rfl
@[simp] theorem State.modHop_jobs (p h : Nat) (g : Hop → Hop) : (State.modHop p h g s).jobs = s.jobs := rfl
@[simp] theorem State.modHop_engines (p h : Nat) (g : Hop → Hop) : (State.modHop p h g s).engines = s.engines := rfl
@[simp] theorem State.modHop_spans (p h : Nat) (g : Hop → Hop) : (State.modHop p h g s).spans = s.spans := rfl
@[simp] theorem State.modHop_nvs (p h : Nat) (g : Hop → Hop) : (State.modHop p h g s).nvs = s.nvs := rfl
@[simp] theorem State.modHop_power (p h : Nat) (g : Hop → Hop) : (State.modHop p h g s).power = s.power := rfl
@[simp] theorem State.modHop_geom (p h : Nat) (g : Hop → Hop) : (State.modHop p h g s).geom = s.geom := rfl
@[simp] theorem State.modHop_scan (p h : Nat) (g : Hop → Hop) : (State.modHop p h g s).scan = s.scan := rfl
@[simp] theorem State.modHop_layers (p h : Nat) (g : Hop → Hop) : (State.modHop p h g s).layers = s.layers := rfl
@[simp] theorem State.modHop_pipes (p h : Nat) (g : Hop → Hop) : (State.modHop p h g s).pipes = s.pipes := rfl
@[simp] theorem State.modHop_emitter (p h : Nat) (g : Hop → Hop) : (State.modHop p h g s).emitter = s.emitter := rfl
@[simp] theorem State.modHop_fuse (p h : Nat) (g : Hop → Hop) : (State.modHop p h g s).fuse = s.fuse := rfl
@[simp] theorem State.modHop_memc (p h : Nat) (g : Hop → Hop) : (State.modHop p h g s).memc = s.memc := rfl
@[simp] theorem State.modHop_ports (p h : Nat) (g : Hop → Hop) : (State.modHop p h g s).ports = s.ports := rfl
@[simp] theorem State.modHop_codecs (p h : Nat) (g : Hop → Hop) : (State.modHop p h g s).codecs = s.codecs := rfl
@[simp] theorem State.modHop_age (p h : Nat) (g : Hop → Hop) : (State.modHop p h g s).age = s.age := rfl
@[simp] theorem State.modHop_bist (p h : Nat) (g : Hop → Hop) : (State.modHop p h g s).bist = s.bist := rfl
@[simp] theorem State.modHop_res (p h : Nat) (g : Hop → Hop) : (State.modHop p h g s).res = s.res := rfl
@[simp] theorem State.modHop_alert (p h : Nat) (g : Hop → Hop) : (State.modHop p h g s).alert = s.alert := rfl

/-! ### State.modPipe -/

@[simp] theorem State.modPipe_pending (i : Nat) (g : Pipe → Pipe) : (State.modPipe i g s).pending = s.pending := rfl
@[simp] theorem State.modPipe_out (i : Nat) (g : Pipe → Pipe) : (State.modPipe i g s).out = s.out := rfl
@[simp] theorem State.modPipe_free (i : Nat) (g : Pipe → Pipe) : (State.modPipe i g s).free = s.free := rfl
@[simp] theorem State.modPipe_regs (i : Nat) (g : Pipe → Pipe) : (State.modPipe i g s).regs = s.regs := rfl
@[simp] theorem State.modPipe_work (i : Nat) (g : Pipe → Pipe) : (State.modPipe i g s).work = s.work := rfl
@[simp] theorem State.modPipe_hold (i : Nat) (g : Pipe → Pipe) : (State.modPipe i g s).hold = s.hold := rfl
@[simp] theorem State.modPipe_mem (i : Nat) (g : Pipe → Pipe) : (State.modPipe i g s).mem = s.mem := rfl
@[simp] theorem State.modPipe_memLost (i : Nat) (g : Pipe → Pipe) : (State.modPipe i g s).memLost = s.memLost := rfl
@[simp] theorem State.modPipe_noRecords (i : Nat) (g : Pipe → Pipe) : (State.modPipe i g s).noRecords = s.noRecords := rfl
@[simp] theorem State.modPipe_glob (i : Nat) (g : Pipe → Pipe) : (State.modPipe i g s).glob = s.glob := rfl
@[simp] theorem State.modPipe_host (i : Nat) (g : Pipe → Pipe) : (State.modPipe i g s).host = s.host := rfl
@[simp] theorem State.modPipe_time (i : Nat) (g : Pipe → Pipe) : (State.modPipe i g s).time = s.time := rfl
@[simp] theorem State.modPipe_faultg (i : Nat) (g : Pipe → Pipe) : (State.modPipe i g s).faultg = s.faultg := rfl
@[simp] theorem State.modPipe_faults (i : Nat) (g : Pipe → Pipe) : (State.modPipe i g s).faults = s.faults := rfl
@[simp] theorem State.modPipe_evSeq (i : Nat) (g : Pipe → Pipe) : (State.modPipe i g s).evSeq = s.evSeq := rfl
@[simp] theorem State.modPipe_rings (i : Nat) (g : Pipe → Pipe) : (State.modPipe i g s).rings = s.rings := rfl
@[simp] theorem State.modPipe_jobs (i : Nat) (g : Pipe → Pipe) : (State.modPipe i g s).jobs = s.jobs := rfl
@[simp] theorem State.modPipe_engines (i : Nat) (g : Pipe → Pipe) : (State.modPipe i g s).engines = s.engines := rfl
@[simp] theorem State.modPipe_spans (i : Nat) (g : Pipe → Pipe) : (State.modPipe i g s).spans = s.spans := rfl
@[simp] theorem State.modPipe_nvs (i : Nat) (g : Pipe → Pipe) : (State.modPipe i g s).nvs = s.nvs := rfl
@[simp] theorem State.modPipe_power (i : Nat) (g : Pipe → Pipe) : (State.modPipe i g s).power = s.power := rfl
@[simp] theorem State.modPipe_geom (i : Nat) (g : Pipe → Pipe) : (State.modPipe i g s).geom = s.geom := rfl
@[simp] theorem State.modPipe_scan (i : Nat) (g : Pipe → Pipe) : (State.modPipe i g s).scan = s.scan := rfl
@[simp] theorem State.modPipe_layers (i : Nat) (g : Pipe → Pipe) : (State.modPipe i g s).layers = s.layers := rfl
@[simp] theorem State.modPipe_emitter (i : Nat) (g : Pipe → Pipe) : (State.modPipe i g s).emitter = s.emitter := rfl
@[simp] theorem State.modPipe_fuse (i : Nat) (g : Pipe → Pipe) : (State.modPipe i g s).fuse = s.fuse := rfl
@[simp] theorem State.modPipe_memc (i : Nat) (g : Pipe → Pipe) : (State.modPipe i g s).memc = s.memc := rfl
@[simp] theorem State.modPipe_ports (i : Nat) (g : Pipe → Pipe) : (State.modPipe i g s).ports = s.ports := rfl
@[simp] theorem State.modPipe_hops (i : Nat) (g : Pipe → Pipe) : (State.modPipe i g s).hops = s.hops := rfl
@[simp] theorem State.modPipe_codecs (i : Nat) (g : Pipe → Pipe) : (State.modPipe i g s).codecs = s.codecs := rfl
@[simp] theorem State.modPipe_age (i : Nat) (g : Pipe → Pipe) : (State.modPipe i g s).age = s.age := rfl
@[simp] theorem State.modPipe_bist (i : Nat) (g : Pipe → Pipe) : (State.modPipe i g s).bist = s.bist := rfl
@[simp] theorem State.modPipe_res (i : Nat) (g : Pipe → Pipe) : (State.modPipe i g s).res = s.res := rfl
@[simp] theorem State.modPipe_alert (i : Nat) (g : Pipe → Pipe) : (State.modPipe i g s).alert = s.alert := rfl

/-! ### State.modCodec -/

@[simp] theorem State.modCodec_pending (i : Nat) (g : Codec → Codec) : (State.modCodec i g s).pending = s.pending := rfl
@[simp] theorem State.modCodec_out (i : Nat) (g : Codec → Codec) : (State.modCodec i g s).out = s.out := rfl
@[simp] theorem State.modCodec_free (i : Nat) (g : Codec → Codec) : (State.modCodec i g s).free = s.free := rfl
@[simp] theorem State.modCodec_regs (i : Nat) (g : Codec → Codec) : (State.modCodec i g s).regs = s.regs := rfl
@[simp] theorem State.modCodec_work (i : Nat) (g : Codec → Codec) : (State.modCodec i g s).work = s.work := rfl
@[simp] theorem State.modCodec_hold (i : Nat) (g : Codec → Codec) : (State.modCodec i g s).hold = s.hold := rfl
@[simp] theorem State.modCodec_mem (i : Nat) (g : Codec → Codec) : (State.modCodec i g s).mem = s.mem := rfl
@[simp] theorem State.modCodec_memLost (i : Nat) (g : Codec → Codec) : (State.modCodec i g s).memLost = s.memLost := rfl
@[simp] theorem State.modCodec_noRecords (i : Nat) (g : Codec → Codec) : (State.modCodec i g s).noRecords = s.noRecords := rfl
@[simp] theorem State.modCodec_glob (i : Nat) (g : Codec → Codec) : (State.modCodec i g s).glob = s.glob := rfl
@[simp] theorem State.modCodec_host (i : Nat) (g : Codec → Codec) : (State.modCodec i g s).host = s.host := rfl
@[simp] theorem State.modCodec_time (i : Nat) (g : Codec → Codec) : (State.modCodec i g s).time = s.time := rfl
@[simp] theorem State.modCodec_faultg (i : Nat) (g : Codec → Codec) : (State.modCodec i g s).faultg = s.faultg := rfl
@[simp] theorem State.modCodec_faults (i : Nat) (g : Codec → Codec) : (State.modCodec i g s).faults = s.faults := rfl
@[simp] theorem State.modCodec_evSeq (i : Nat) (g : Codec → Codec) : (State.modCodec i g s).evSeq = s.evSeq := rfl
@[simp] theorem State.modCodec_rings (i : Nat) (g : Codec → Codec) : (State.modCodec i g s).rings = s.rings := rfl
@[simp] theorem State.modCodec_jobs (i : Nat) (g : Codec → Codec) : (State.modCodec i g s).jobs = s.jobs := rfl
@[simp] theorem State.modCodec_engines (i : Nat) (g : Codec → Codec) : (State.modCodec i g s).engines = s.engines := rfl
@[simp] theorem State.modCodec_spans (i : Nat) (g : Codec → Codec) : (State.modCodec i g s).spans = s.spans := rfl
@[simp] theorem State.modCodec_nvs (i : Nat) (g : Codec → Codec) : (State.modCodec i g s).nvs = s.nvs := rfl
@[simp] theorem State.modCodec_power (i : Nat) (g : Codec → Codec) : (State.modCodec i g s).power = s.power := rfl
@[simp] theorem State.modCodec_geom (i : Nat) (g : Codec → Codec) : (State.modCodec i g s).geom = s.geom := rfl
@[simp] theorem State.modCodec_scan (i : Nat) (g : Codec → Codec) : (State.modCodec i g s).scan = s.scan := rfl
@[simp] theorem State.modCodec_layers (i : Nat) (g : Codec → Codec) : (State.modCodec i g s).layers = s.layers := rfl
@[simp] theorem State.modCodec_pipes (i : Nat) (g : Codec → Codec) : (State.modCodec i g s).pipes = s.pipes := rfl
@[simp] theorem State.modCodec_emitter (i : Nat) (g : Codec → Codec) : (State.modCodec i g s).emitter = s.emitter := rfl
@[simp] theorem State.modCodec_fuse (i : Nat) (g : Codec → Codec) : (State.modCodec i g s).fuse = s.fuse := rfl
@[simp] theorem State.modCodec_memc (i : Nat) (g : Codec → Codec) : (State.modCodec i g s).memc = s.memc := rfl
@[simp] theorem State.modCodec_ports (i : Nat) (g : Codec → Codec) : (State.modCodec i g s).ports = s.ports := rfl
@[simp] theorem State.modCodec_hops (i : Nat) (g : Codec → Codec) : (State.modCodec i g s).hops = s.hops := rfl
@[simp] theorem State.modCodec_age (i : Nat) (g : Codec → Codec) : (State.modCodec i g s).age = s.age := rfl
@[simp] theorem State.modCodec_bist (i : Nat) (g : Codec → Codec) : (State.modCodec i g s).bist = s.bist := rfl
@[simp] theorem State.modCodec_res (i : Nat) (g : Codec → Codec) : (State.modCodec i g s).res = s.res := rfl
@[simp] theorem State.modCodec_alert (i : Nat) (g : Codec → Codec) : (State.modCodec i g s).alert = s.alert := rfl

/-! ### State.modDrive -/

@[simp] theorem State.modDrive_pending (k : Nat) (g : Drive → Drive) : (State.modDrive k g s).pending = s.pending := rfl
@[simp] theorem State.modDrive_out (k : Nat) (g : Drive → Drive) : (State.modDrive k g s).out = s.out := rfl
@[simp] theorem State.modDrive_free (k : Nat) (g : Drive → Drive) : (State.modDrive k g s).free = s.free := rfl
@[simp] theorem State.modDrive_regs (k : Nat) (g : Drive → Drive) : (State.modDrive k g s).regs = s.regs := rfl
@[simp] theorem State.modDrive_work (k : Nat) (g : Drive → Drive) : (State.modDrive k g s).work = s.work := rfl
@[simp] theorem State.modDrive_hold (k : Nat) (g : Drive → Drive) : (State.modDrive k g s).hold = s.hold := rfl
@[simp] theorem State.modDrive_mem (k : Nat) (g : Drive → Drive) : (State.modDrive k g s).mem = s.mem := rfl
@[simp] theorem State.modDrive_memLost (k : Nat) (g : Drive → Drive) : (State.modDrive k g s).memLost = s.memLost := rfl
@[simp] theorem State.modDrive_noRecords (k : Nat) (g : Drive → Drive) : (State.modDrive k g s).noRecords = s.noRecords := rfl
@[simp] theorem State.modDrive_glob (k : Nat) (g : Drive → Drive) : (State.modDrive k g s).glob = s.glob := rfl
@[simp] theorem State.modDrive_host (k : Nat) (g : Drive → Drive) : (State.modDrive k g s).host = s.host := rfl
@[simp] theorem State.modDrive_time (k : Nat) (g : Drive → Drive) : (State.modDrive k g s).time = s.time := rfl
@[simp] theorem State.modDrive_faultg (k : Nat) (g : Drive → Drive) : (State.modDrive k g s).faultg = s.faultg := rfl
@[simp] theorem State.modDrive_faults (k : Nat) (g : Drive → Drive) : (State.modDrive k g s).faults = s.faults := rfl
@[simp] theorem State.modDrive_evSeq (k : Nat) (g : Drive → Drive) : (State.modDrive k g s).evSeq = s.evSeq := rfl
@[simp] theorem State.modDrive_rings (k : Nat) (g : Drive → Drive) : (State.modDrive k g s).rings = s.rings := rfl
@[simp] theorem State.modDrive_jobs (k : Nat) (g : Drive → Drive) : (State.modDrive k g s).jobs = s.jobs := rfl
@[simp] theorem State.modDrive_engines (k : Nat) (g : Drive → Drive) : (State.modDrive k g s).engines = s.engines := rfl
@[simp] theorem State.modDrive_spans (k : Nat) (g : Drive → Drive) : (State.modDrive k g s).spans = s.spans := rfl
@[simp] theorem State.modDrive_nvs (k : Nat) (g : Drive → Drive) : (State.modDrive k g s).nvs = s.nvs := rfl
@[simp] theorem State.modDrive_power (k : Nat) (g : Drive → Drive) : (State.modDrive k g s).power = s.power := rfl
@[simp] theorem State.modDrive_geom (k : Nat) (g : Drive → Drive) : (State.modDrive k g s).geom = s.geom := rfl
@[simp] theorem State.modDrive_scan (k : Nat) (g : Drive → Drive) : (State.modDrive k g s).scan = s.scan := rfl
@[simp] theorem State.modDrive_layers (k : Nat) (g : Drive → Drive) : (State.modDrive k g s).layers = s.layers := rfl
@[simp] theorem State.modDrive_pipes (k : Nat) (g : Drive → Drive) : (State.modDrive k g s).pipes = s.pipes := rfl
@[simp] theorem State.modDrive_emitter (k : Nat) (g : Drive → Drive) : (State.modDrive k g s).emitter = s.emitter := rfl
@[simp] theorem State.modDrive_fuse (k : Nat) (g : Drive → Drive) : (State.modDrive k g s).fuse = s.fuse := rfl
@[simp] theorem State.modDrive_memc (k : Nat) (g : Drive → Drive) : (State.modDrive k g s).memc = s.memc := rfl
@[simp] theorem State.modDrive_ports (k : Nat) (g : Drive → Drive) : (State.modDrive k g s).ports = s.ports := rfl
@[simp] theorem State.modDrive_hops (k : Nat) (g : Drive → Drive) : (State.modDrive k g s).hops = s.hops := rfl
@[simp] theorem State.modDrive_codecs (k : Nat) (g : Drive → Drive) : (State.modDrive k g s).codecs = s.codecs := rfl
@[simp] theorem State.modDrive_age (k : Nat) (g : Drive → Drive) : (State.modDrive k g s).age = s.age := rfl
@[simp] theorem State.modDrive_res (k : Nat) (g : Drive → Drive) : (State.modDrive k g s).res = s.res := rfl
@[simp] theorem State.modDrive_alert (k : Nat) (g : Drive → Drive) : (State.modDrive k g s).alert = s.alert := rfl

/-! ### State.setUpdate -/

@[simp] theorem State.setUpdate_pending (k : Nat) (v : Option Update) : (State.setUpdate k v s).pending = s.pending := rfl
@[simp] theorem State.setUpdate_out (k : Nat) (v : Option Update) : (State.setUpdate k v s).out = s.out := rfl
@[simp] theorem State.setUpdate_free (k : Nat) (v : Option Update) : (State.setUpdate k v s).free = s.free := rfl
@[simp] theorem State.setUpdate_regs (k : Nat) (v : Option Update) : (State.setUpdate k v s).regs = s.regs := rfl
@[simp] theorem State.setUpdate_work (k : Nat) (v : Option Update) : (State.setUpdate k v s).work = s.work := rfl
@[simp] theorem State.setUpdate_hold (k : Nat) (v : Option Update) : (State.setUpdate k v s).hold = s.hold := rfl
@[simp] theorem State.setUpdate_mem (k : Nat) (v : Option Update) : (State.setUpdate k v s).mem = s.mem := rfl
@[simp] theorem State.setUpdate_memLost (k : Nat) (v : Option Update) : (State.setUpdate k v s).memLost = s.memLost := rfl
@[simp] theorem State.setUpdate_noRecords (k : Nat) (v : Option Update) : (State.setUpdate k v s).noRecords = s.noRecords := rfl
@[simp] theorem State.setUpdate_glob (k : Nat) (v : Option Update) : (State.setUpdate k v s).glob = s.glob := rfl
@[simp] theorem State.setUpdate_host (k : Nat) (v : Option Update) : (State.setUpdate k v s).host = s.host := rfl
@[simp] theorem State.setUpdate_time (k : Nat) (v : Option Update) : (State.setUpdate k v s).time = s.time := rfl
@[simp] theorem State.setUpdate_faultg (k : Nat) (v : Option Update) : (State.setUpdate k v s).faultg = s.faultg := rfl
@[simp] theorem State.setUpdate_faults (k : Nat) (v : Option Update) : (State.setUpdate k v s).faults = s.faults := rfl
@[simp] theorem State.setUpdate_evSeq (k : Nat) (v : Option Update) : (State.setUpdate k v s).evSeq = s.evSeq := rfl
@[simp] theorem State.setUpdate_rings (k : Nat) (v : Option Update) : (State.setUpdate k v s).rings = s.rings := rfl
@[simp] theorem State.setUpdate_jobs (k : Nat) (v : Option Update) : (State.setUpdate k v s).jobs = s.jobs := rfl
@[simp] theorem State.setUpdate_engines (k : Nat) (v : Option Update) : (State.setUpdate k v s).engines = s.engines := rfl
@[simp] theorem State.setUpdate_spans (k : Nat) (v : Option Update) : (State.setUpdate k v s).spans = s.spans := rfl
@[simp] theorem State.setUpdate_nvs (k : Nat) (v : Option Update) : (State.setUpdate k v s).nvs = s.nvs := rfl
@[simp] theorem State.setUpdate_power (k : Nat) (v : Option Update) : (State.setUpdate k v s).power = s.power := rfl
@[simp] theorem State.setUpdate_geom (k : Nat) (v : Option Update) : (State.setUpdate k v s).geom = s.geom := rfl
@[simp] theorem State.setUpdate_scan (k : Nat) (v : Option Update) : (State.setUpdate k v s).scan = s.scan := rfl
@[simp] theorem State.setUpdate_layers (k : Nat) (v : Option Update) : (State.setUpdate k v s).layers = s.layers := rfl
@[simp] theorem State.setUpdate_pipes (k : Nat) (v : Option Update) : (State.setUpdate k v s).pipes = s.pipes := rfl
@[simp] theorem State.setUpdate_emitter (k : Nat) (v : Option Update) : (State.setUpdate k v s).emitter = s.emitter := rfl
@[simp] theorem State.setUpdate_fuse (k : Nat) (v : Option Update) : (State.setUpdate k v s).fuse = s.fuse := rfl
@[simp] theorem State.setUpdate_memc (k : Nat) (v : Option Update) : (State.setUpdate k v s).memc = s.memc := rfl
@[simp] theorem State.setUpdate_ports (k : Nat) (v : Option Update) : (State.setUpdate k v s).ports = s.ports := rfl
@[simp] theorem State.setUpdate_hops (k : Nat) (v : Option Update) : (State.setUpdate k v s).hops = s.hops := rfl
@[simp] theorem State.setUpdate_codecs (k : Nat) (v : Option Update) : (State.setUpdate k v s).codecs = s.codecs := rfl
@[simp] theorem State.setUpdate_age (k : Nat) (v : Option Update) : (State.setUpdate k v s).age = s.age := rfl
@[simp] theorem State.setUpdate_res (k : Nat) (v : Option Update) : (State.setUpdate k v s).res = s.res := rfl
@[simp] theorem State.setUpdate_alert (k : Nat) (v : Option Update) : (State.setUpdate k v s).alert = s.alert := rfl

/-! ### State.setFlight -/

@[simp] theorem State.setFlight_pending (k : Nat) (v : Option Internal) : (State.setFlight k v s).pending = s.pending := rfl
@[simp] theorem State.setFlight_out (k : Nat) (v : Option Internal) : (State.setFlight k v s).out = s.out := rfl
@[simp] theorem State.setFlight_free (k : Nat) (v : Option Internal) : (State.setFlight k v s).free = s.free := rfl
@[simp] theorem State.setFlight_regs (k : Nat) (v : Option Internal) : (State.setFlight k v s).regs = s.regs := rfl
@[simp] theorem State.setFlight_work (k : Nat) (v : Option Internal) : (State.setFlight k v s).work = s.work := rfl
@[simp] theorem State.setFlight_hold (k : Nat) (v : Option Internal) : (State.setFlight k v s).hold = s.hold := rfl
@[simp] theorem State.setFlight_mem (k : Nat) (v : Option Internal) : (State.setFlight k v s).mem = s.mem := rfl
@[simp] theorem State.setFlight_memLost (k : Nat) (v : Option Internal) : (State.setFlight k v s).memLost = s.memLost := rfl
@[simp] theorem State.setFlight_noRecords (k : Nat) (v : Option Internal) : (State.setFlight k v s).noRecords = s.noRecords := rfl
@[simp] theorem State.setFlight_glob (k : Nat) (v : Option Internal) : (State.setFlight k v s).glob = s.glob := rfl
@[simp] theorem State.setFlight_host (k : Nat) (v : Option Internal) : (State.setFlight k v s).host = s.host := rfl
@[simp] theorem State.setFlight_time (k : Nat) (v : Option Internal) : (State.setFlight k v s).time = s.time := rfl
@[simp] theorem State.setFlight_faultg (k : Nat) (v : Option Internal) : (State.setFlight k v s).faultg = s.faultg := rfl
@[simp] theorem State.setFlight_faults (k : Nat) (v : Option Internal) : (State.setFlight k v s).faults = s.faults := rfl
@[simp] theorem State.setFlight_evSeq (k : Nat) (v : Option Internal) : (State.setFlight k v s).evSeq = s.evSeq := rfl
@[simp] theorem State.setFlight_rings (k : Nat) (v : Option Internal) : (State.setFlight k v s).rings = s.rings := rfl
@[simp] theorem State.setFlight_jobs (k : Nat) (v : Option Internal) : (State.setFlight k v s).jobs = s.jobs := rfl
@[simp] theorem State.setFlight_engines (k : Nat) (v : Option Internal) : (State.setFlight k v s).engines = s.engines := rfl
@[simp] theorem State.setFlight_spans (k : Nat) (v : Option Internal) : (State.setFlight k v s).spans = s.spans := rfl
@[simp] theorem State.setFlight_nvs (k : Nat) (v : Option Internal) : (State.setFlight k v s).nvs = s.nvs := rfl
@[simp] theorem State.setFlight_power (k : Nat) (v : Option Internal) : (State.setFlight k v s).power = s.power := rfl
@[simp] theorem State.setFlight_geom (k : Nat) (v : Option Internal) : (State.setFlight k v s).geom = s.geom := rfl
@[simp] theorem State.setFlight_scan (k : Nat) (v : Option Internal) : (State.setFlight k v s).scan = s.scan := rfl
@[simp] theorem State.setFlight_layers (k : Nat) (v : Option Internal) : (State.setFlight k v s).layers = s.layers := rfl
@[simp] theorem State.setFlight_pipes (k : Nat) (v : Option Internal) : (State.setFlight k v s).pipes = s.pipes := rfl
@[simp] theorem State.setFlight_emitter (k : Nat) (v : Option Internal) : (State.setFlight k v s).emitter = s.emitter := rfl
@[simp] theorem State.setFlight_fuse (k : Nat) (v : Option Internal) : (State.setFlight k v s).fuse = s.fuse := rfl
@[simp] theorem State.setFlight_memc (k : Nat) (v : Option Internal) : (State.setFlight k v s).memc = s.memc := rfl
@[simp] theorem State.setFlight_ports (k : Nat) (v : Option Internal) : (State.setFlight k v s).ports = s.ports := rfl
@[simp] theorem State.setFlight_hops (k : Nat) (v : Option Internal) : (State.setFlight k v s).hops = s.hops := rfl
@[simp] theorem State.setFlight_codecs (k : Nat) (v : Option Internal) : (State.setFlight k v s).codecs = s.codecs := rfl
@[simp] theorem State.setFlight_age (k : Nat) (v : Option Internal) : (State.setFlight k v s).age = s.age := rfl
@[simp] theorem State.setFlight_res (k : Nat) (v : Option Internal) : (State.setFlight k v s).res = s.res := rfl
@[simp] theorem State.setFlight_alert (k : Nat) (v : Option Internal) : (State.setFlight k v s).alert = s.alert := rfl

/-! ### State.modCell -/

@[simp] theorem State.modCell_pending (k : Nat) (g : ResCell → ResCell) : (State.modCell k g s).pending = s.pending := rfl
@[simp] theorem State.modCell_out (k : Nat) (g : ResCell → ResCell) : (State.modCell k g s).out = s.out := rfl
@[simp] theorem State.modCell_free (k : Nat) (g : ResCell → ResCell) : (State.modCell k g s).free = s.free := rfl
@[simp] theorem State.modCell_regs (k : Nat) (g : ResCell → ResCell) : (State.modCell k g s).regs = s.regs := rfl
@[simp] theorem State.modCell_work (k : Nat) (g : ResCell → ResCell) : (State.modCell k g s).work = s.work := rfl
@[simp] theorem State.modCell_hold (k : Nat) (g : ResCell → ResCell) : (State.modCell k g s).hold = s.hold := rfl
@[simp] theorem State.modCell_mem (k : Nat) (g : ResCell → ResCell) : (State.modCell k g s).mem = s.mem := rfl
@[simp] theorem State.modCell_memLost (k : Nat) (g : ResCell → ResCell) : (State.modCell k g s).memLost = s.memLost := rfl
@[simp] theorem State.modCell_noRecords (k : Nat) (g : ResCell → ResCell) : (State.modCell k g s).noRecords = s.noRecords := rfl
@[simp] theorem State.modCell_glob (k : Nat) (g : ResCell → ResCell) : (State.modCell k g s).glob = s.glob := rfl
@[simp] theorem State.modCell_host (k : Nat) (g : ResCell → ResCell) : (State.modCell k g s).host = s.host := rfl
@[simp] theorem State.modCell_time (k : Nat) (g : ResCell → ResCell) : (State.modCell k g s).time = s.time := rfl
@[simp] theorem State.modCell_faultg (k : Nat) (g : ResCell → ResCell) : (State.modCell k g s).faultg = s.faultg := rfl
@[simp] theorem State.modCell_faults (k : Nat) (g : ResCell → ResCell) : (State.modCell k g s).faults = s.faults := rfl
@[simp] theorem State.modCell_evSeq (k : Nat) (g : ResCell → ResCell) : (State.modCell k g s).evSeq = s.evSeq := rfl
@[simp] theorem State.modCell_rings (k : Nat) (g : ResCell → ResCell) : (State.modCell k g s).rings = s.rings := rfl
@[simp] theorem State.modCell_jobs (k : Nat) (g : ResCell → ResCell) : (State.modCell k g s).jobs = s.jobs := rfl
@[simp] theorem State.modCell_engines (k : Nat) (g : ResCell → ResCell) : (State.modCell k g s).engines = s.engines := rfl
@[simp] theorem State.modCell_spans (k : Nat) (g : ResCell → ResCell) : (State.modCell k g s).spans = s.spans := rfl
@[simp] theorem State.modCell_nvs (k : Nat) (g : ResCell → ResCell) : (State.modCell k g s).nvs = s.nvs := rfl
@[simp] theorem State.modCell_power (k : Nat) (g : ResCell → ResCell) : (State.modCell k g s).power = s.power := rfl
@[simp] theorem State.modCell_geom (k : Nat) (g : ResCell → ResCell) : (State.modCell k g s).geom = s.geom := rfl
@[simp] theorem State.modCell_scan (k : Nat) (g : ResCell → ResCell) : (State.modCell k g s).scan = s.scan := rfl
@[simp] theorem State.modCell_layers (k : Nat) (g : ResCell → ResCell) : (State.modCell k g s).layers = s.layers := rfl
@[simp] theorem State.modCell_pipes (k : Nat) (g : ResCell → ResCell) : (State.modCell k g s).pipes = s.pipes := rfl
@[simp] theorem State.modCell_emitter (k : Nat) (g : ResCell → ResCell) : (State.modCell k g s).emitter = s.emitter := rfl
@[simp] theorem State.modCell_fuse (k : Nat) (g : ResCell → ResCell) : (State.modCell k g s).fuse = s.fuse := rfl
@[simp] theorem State.modCell_memc (k : Nat) (g : ResCell → ResCell) : (State.modCell k g s).memc = s.memc := rfl
@[simp] theorem State.modCell_ports (k : Nat) (g : ResCell → ResCell) : (State.modCell k g s).ports = s.ports := rfl
@[simp] theorem State.modCell_hops (k : Nat) (g : ResCell → ResCell) : (State.modCell k g s).hops = s.hops := rfl
@[simp] theorem State.modCell_codecs (k : Nat) (g : ResCell → ResCell) : (State.modCell k g s).codecs = s.codecs := rfl
@[simp] theorem State.modCell_age (k : Nat) (g : ResCell → ResCell) : (State.modCell k g s).age = s.age := rfl
@[simp] theorem State.modCell_bist (k : Nat) (g : ResCell → ResCell) : (State.modCell k g s).bist = s.bist := rfl
@[simp] theorem State.modCell_alert (k : Nat) (g : ResCell → ResCell) : (State.modCell k g s).alert = s.alert := rfl

/-! ### State.setJob -/

@[simp] theorem State.setJob_pending (j : Job) : (State.setJob j s).pending = s.pending := rfl
@[simp] theorem State.setJob_out (j : Job) : (State.setJob j s).out = s.out := rfl
@[simp] theorem State.setJob_free (j : Job) : (State.setJob j s).free = s.free := rfl
@[simp] theorem State.setJob_regs (j : Job) : (State.setJob j s).regs = s.regs := rfl
@[simp] theorem State.setJob_work (j : Job) : (State.setJob j s).work = s.work := rfl
@[simp] theorem State.setJob_hold (j : Job) : (State.setJob j s).hold = s.hold := rfl
@[simp] theorem State.setJob_mem (j : Job) : (State.setJob j s).mem = s.mem := rfl
@[simp] theorem State.setJob_memLost (j : Job) : (State.setJob j s).memLost = s.memLost := rfl
@[simp] theorem State.setJob_noRecords (j : Job) : (State.setJob j s).noRecords = s.noRecords := rfl
@[simp] theorem State.setJob_glob (j : Job) : (State.setJob j s).glob = s.glob := rfl
@[simp] theorem State.setJob_host (j : Job) : (State.setJob j s).host = s.host := rfl
@[simp] theorem State.setJob_time (j : Job) : (State.setJob j s).time = s.time := rfl
@[simp] theorem State.setJob_faultg (j : Job) : (State.setJob j s).faultg = s.faultg := rfl
@[simp] theorem State.setJob_faults (j : Job) : (State.setJob j s).faults = s.faults := rfl
@[simp] theorem State.setJob_evSeq (j : Job) : (State.setJob j s).evSeq = s.evSeq := rfl
@[simp] theorem State.setJob_rings (j : Job) : (State.setJob j s).rings = s.rings := rfl
@[simp] theorem State.setJob_engines (j : Job) : (State.setJob j s).engines = s.engines := rfl
@[simp] theorem State.setJob_spans (j : Job) : (State.setJob j s).spans = s.spans := rfl
@[simp] theorem State.setJob_nvs (j : Job) : (State.setJob j s).nvs = s.nvs := rfl
@[simp] theorem State.setJob_power (j : Job) : (State.setJob j s).power = s.power := rfl
@[simp] theorem State.setJob_geom (j : Job) : (State.setJob j s).geom = s.geom := rfl
@[simp] theorem State.setJob_scan (j : Job) : (State.setJob j s).scan = s.scan := rfl
@[simp] theorem State.setJob_layers (j : Job) : (State.setJob j s).layers = s.layers := rfl
@[simp] theorem State.setJob_pipes (j : Job) : (State.setJob j s).pipes = s.pipes := rfl
@[simp] theorem State.setJob_emitter (j : Job) : (State.setJob j s).emitter = s.emitter := rfl
@[simp] theorem State.setJob_fuse (j : Job) : (State.setJob j s).fuse = s.fuse := rfl
@[simp] theorem State.setJob_memc (j : Job) : (State.setJob j s).memc = s.memc := rfl
@[simp] theorem State.setJob_ports (j : Job) : (State.setJob j s).ports = s.ports := rfl
@[simp] theorem State.setJob_hops (j : Job) : (State.setJob j s).hops = s.hops := rfl
@[simp] theorem State.setJob_codecs (j : Job) : (State.setJob j s).codecs = s.codecs := rfl
@[simp] theorem State.setJob_age (j : Job) : (State.setJob j s).age = s.age := rfl
@[simp] theorem State.setJob_bist (j : Job) : (State.setJob j s).bist = s.bist := rfl
@[simp] theorem State.setJob_res (j : Job) : (State.setJob j s).res = s.res := rfl
@[simp] theorem State.setJob_alert (j : Job) : (State.setJob j s).alert = s.alert := rfl

/-! ### startLong -/

@[simp] theorem startLong_pending (op : Nat) : (startLong op s).pending = s.pending := rfl
@[simp] theorem startLong_out (op : Nat) : (startLong op s).out = s.out := rfl
@[simp] theorem startLong_free (op : Nat) : (startLong op s).free = s.free := rfl
@[simp] theorem startLong_regs (op : Nat) : (startLong op s).regs = s.regs := rfl
@[simp] theorem startLong_work (op : Nat) : (startLong op s).work = s.work := rfl
@[simp] theorem startLong_hold (op : Nat) : (startLong op s).hold = s.hold := rfl
@[simp] theorem startLong_mem (op : Nat) : (startLong op s).mem = s.mem := rfl
@[simp] theorem startLong_memLost (op : Nat) : (startLong op s).memLost = s.memLost := rfl
@[simp] theorem startLong_noRecords (op : Nat) : (startLong op s).noRecords = s.noRecords := rfl
@[simp] theorem startLong_host (op : Nat) : (startLong op s).host = s.host := rfl
@[simp] theorem startLong_time (op : Nat) : (startLong op s).time = s.time := rfl
@[simp] theorem startLong_faultg (op : Nat) : (startLong op s).faultg = s.faultg := rfl
@[simp] theorem startLong_faults (op : Nat) : (startLong op s).faults = s.faults := rfl
@[simp] theorem startLong_evSeq (op : Nat) : (startLong op s).evSeq = s.evSeq := rfl
@[simp] theorem startLong_rings (op : Nat) : (startLong op s).rings = s.rings := rfl
@[simp] theorem startLong_jobs (op : Nat) : (startLong op s).jobs = s.jobs := rfl
@[simp] theorem startLong_engines (op : Nat) : (startLong op s).engines = s.engines := rfl
@[simp] theorem startLong_spans (op : Nat) : (startLong op s).spans = s.spans := rfl
@[simp] theorem startLong_nvs (op : Nat) : (startLong op s).nvs = s.nvs := rfl
@[simp] theorem startLong_power (op : Nat) : (startLong op s).power = s.power := rfl
@[simp] theorem startLong_geom (op : Nat) : (startLong op s).geom = s.geom := rfl
@[simp] theorem startLong_scan (op : Nat) : (startLong op s).scan = s.scan := rfl
@[simp] theorem startLong_layers (op : Nat) : (startLong op s).layers = s.layers := rfl
@[simp] theorem startLong_pipes (op : Nat) : (startLong op s).pipes = s.pipes := rfl
@[simp] theorem startLong_emitter (op : Nat) : (startLong op s).emitter = s.emitter := rfl
@[simp] theorem startLong_fuse (op : Nat) : (startLong op s).fuse = s.fuse := rfl
@[simp] theorem startLong_memc (op : Nat) : (startLong op s).memc = s.memc := rfl
@[simp] theorem startLong_ports (op : Nat) : (startLong op s).ports = s.ports := rfl
@[simp] theorem startLong_hops (op : Nat) : (startLong op s).hops = s.hops := rfl
@[simp] theorem startLong_codecs (op : Nat) : (startLong op s).codecs = s.codecs := rfl
@[simp] theorem startLong_age (op : Nat) : (startLong op s).age = s.age := rfl
@[simp] theorem startLong_bist (op : Nat) : (startLong op s).bist = s.bist := rfl
@[simp] theorem startLong_res (op : Nat) : (startLong op s).res = s.res := rfl
@[simp] theorem startLong_alert (op : Nat) : (startLong op s).alert = s.alert := rfl

/-! ### endLong -/

@[simp] theorem endLong_pending (r : Nat) : (endLong r s).pending = s.pending := rfl
@[simp] theorem endLong_out (r : Nat) : (endLong r s).out = s.out := rfl
@[simp] theorem endLong_free (r : Nat) : (endLong r s).free = s.free := rfl
@[simp] theorem endLong_regs (r : Nat) : (endLong r s).regs = s.regs := rfl
@[simp] theorem endLong_work (r : Nat) : (endLong r s).work = s.work := rfl
@[simp] theorem endLong_hold (r : Nat) : (endLong r s).hold = s.hold := rfl
@[simp] theorem endLong_mem (r : Nat) : (endLong r s).mem = s.mem := rfl
@[simp] theorem endLong_memLost (r : Nat) : (endLong r s).memLost = s.memLost := rfl
@[simp] theorem endLong_noRecords (r : Nat) : (endLong r s).noRecords = s.noRecords := rfl
@[simp] theorem endLong_host (r : Nat) : (endLong r s).host = s.host := rfl
@[simp] theorem endLong_time (r : Nat) : (endLong r s).time = s.time := rfl
@[simp] theorem endLong_faultg (r : Nat) : (endLong r s).faultg = s.faultg := rfl
@[simp] theorem endLong_faults (r : Nat) : (endLong r s).faults = s.faults := rfl
@[simp] theorem endLong_evSeq (r : Nat) : (endLong r s).evSeq = s.evSeq := rfl
@[simp] theorem endLong_rings (r : Nat) : (endLong r s).rings = s.rings := rfl
@[simp] theorem endLong_jobs (r : Nat) : (endLong r s).jobs = s.jobs := rfl
@[simp] theorem endLong_engines (r : Nat) : (endLong r s).engines = s.engines := rfl
@[simp] theorem endLong_spans (r : Nat) : (endLong r s).spans = s.spans := rfl
@[simp] theorem endLong_nvs (r : Nat) : (endLong r s).nvs = s.nvs := rfl
@[simp] theorem endLong_power (r : Nat) : (endLong r s).power = s.power := rfl
@[simp] theorem endLong_geom (r : Nat) : (endLong r s).geom = s.geom := rfl
@[simp] theorem endLong_scan (r : Nat) : (endLong r s).scan = s.scan := rfl
@[simp] theorem endLong_layers (r : Nat) : (endLong r s).layers = s.layers := rfl
@[simp] theorem endLong_pipes (r : Nat) : (endLong r s).pipes = s.pipes := rfl
@[simp] theorem endLong_emitter (r : Nat) : (endLong r s).emitter = s.emitter := rfl
@[simp] theorem endLong_fuse (r : Nat) : (endLong r s).fuse = s.fuse := rfl
@[simp] theorem endLong_memc (r : Nat) : (endLong r s).memc = s.memc := rfl
@[simp] theorem endLong_ports (r : Nat) : (endLong r s).ports = s.ports := rfl
@[simp] theorem endLong_hops (r : Nat) : (endLong r s).hops = s.hops := rfl
@[simp] theorem endLong_codecs (r : Nat) : (endLong r s).codecs = s.codecs := rfl
@[simp] theorem endLong_age (r : Nat) : (endLong r s).age = s.age := rfl
@[simp] theorem endLong_bist (r : Nat) : (endLong r s).bist = s.bist := rfl
@[simp] theorem endLong_res (r : Nat) : (endLong r s).res = s.res := rfl
@[simp] theorem endLong_alert (r : Nat) : (endLong r s).alert = s.alert := rfl

/-! ### Fields that an update changes -/

@[simp] theorem State.emit_out (o : Output) : (State.emit o s).out = s.out ++ [o] := rfl
@[simp] theorem State.tickFree_free : (State.tickFree s).free = s.free + 1 := rfl
@[simp] theorem State.puts_mem (a : Nat) (l : List Nat) : (State.puts a l s).mem = Mem.puts a l s.mem := rfl
@[simp] theorem State.putLe_mem (a n v : Nat) : (State.putLe a n v s).mem = Mem.puts a (leBytes n v) s.mem := rfl
@[simp] theorem startLong_busy (op : Nat) : (startLong op s).glob = { s.glob with busy := true, op := op } := rfl
@[simp] theorem endLong_result (r : Nat) :
    (endLong r s).glob = { s.glob with busy := false, done := true, result := r } := rfl

end Sys2Proof.Machine
end

