-- ==== Sys2Proof/Laws/Tab.lean ====
section
/-!
SUPPORT. Laws of sparse tables: what a read gives after a write, the canonical form, and repeated updates.
-/

namespace Sys2Proof.Machine

variable {α : Type} [DecidableEq α]

/-- A key that was dropped reads as the default. -/
theorem Tab.get_drop_same {β : Type} (d : β) (k : Nat) (t : Tab β) : Tab.get d k (Tab.drop k t) = d := by
  induction t with
  | nil => rfl
  | cons e r ih =>
    obtain ⟨j, w⟩ := e
    by_cases h : j = k
    · simpa [Tab.drop, h] using ih
    · simpa [Tab.drop, Tab.get, h] using ih

/-- Every other key is as it was after a drop. -/
theorem Tab.get_drop_ne {β : Type} (d : β) (k j : Nat) (t : Tab β) (h : j ≠ k) : Tab.get d j (Tab.drop k t) = Tab.get d j t := by
  induction t with
  | nil => rfl
  | cons e r ih =>
    obtain ⟨m, w⟩ := e
    by_cases hm : m = k
    · have : m ≠ j := by omega
      simpa [Tab.drop, Tab.get, hm, this, Ne.symm h] using ih
    · by_cases hj : m = j
      · simp [Tab.drop, Tab.get, hj, h]
      · simpa [Tab.drop, Tab.get, hm, hj] using ih

/-- A read after a write to the same key gives the value written. -/
@[simp] theorem Tab.get_put_same (d : α) (k : Nat) (v : α) (t : Tab α) : Tab.get d k (Tab.put d k v t) = v := by
  induction t with
  | nil => simp only [Tab.put]; split <;> simp_all [Tab.get]
  | cons e r ih =>
    obtain ⟨j, w⟩ := e
    simp only [Tab.put]
    split
    · have : j ≠ k := by omega
      simpa [Tab.get, this] using ih
    · split
      · rename_i hv
        rw [hv, Tab.get_drop_same]
      · simp [Tab.get]

/-- A write leaves every other key as it was, whatever its default. -/
@[simp] theorem Tab.get_put_ne (d b : α) (k j : Nat) (v : α) (t : Tab α) (h : j ≠ k) :
    Tab.get b j (Tab.put d k v t) = Tab.get b j t := by
  have h' : k ≠ j := fun e => h e.symm
  induction t with
  | nil => simp only [Tab.put]; split <;> simp [Tab.get, h']
  | cons e r ih =>
    obtain ⟨m, w⟩ := e
    simp only [Tab.put]
    split
    · simp only [Tab.get]; split
      · rfl
      · exact ih
    · split
      · exact Tab.get_drop_ne b k j _ h
      · split
        · rename_i hm
          simp [Tab.get, h', hm]
        · simp [Tab.get, h']

/-- The canonical form holds from any lower bound. -/
theorem Tab.wfFrom_low (d : α) (r : Tab α) (a b : Nat) (hab : a ≤ b) (hr : Tab.wfFrom d b r = true) :
    Tab.wfFrom d a r = true := by
  cases r with
  | nil => rfl
  | cons e r =>
    obtain ⟨j, w⟩ := e
    simp only [Tab.wfFrom, Bool.and_eq_true, decide_eq_true_eq] at *
    exact ⟨⟨by omega, hr.1.2⟩, hr.2⟩

/-- A drop keeps the canonical form. -/
theorem Tab.wfFrom_drop (d : α) (k : Nat) (t : Tab α) : ∀ lo, Tab.wfFrom d lo t = true → Tab.wfFrom d lo (Tab.drop k t) = true := by
  induction t with
  | nil => intro lo _; rfl
  | cons e r ih =>
    obtain ⟨j, w⟩ := e
    intro lo h
    simp only [Tab.wfFrom, Bool.and_eq_true, decide_eq_true_eq] at h
    by_cases hk : j = k
    · simpa [Tab.drop, hk] using Tab.wfFrom_low d _ lo (j + 1) (by omega) (ih (j + 1) h.2)
    · have := ih (j + 1) h.2
      simp only [Tab.drop] at *
      simp [hk, Tab.wfFrom, h.1.1, h.1.2, this]

/-- A write keeps the canonical form from any lower bound at or below its key. -/
theorem Tab.wfFrom_put (d : α) (k : Nat) (v : α) (t : Tab α) : ∀ lo, lo ≤ k → Tab.wfFrom d lo t = true →
    Tab.wfFrom d lo (Tab.put d k v t) = true := by
  induction t with
  | nil => intro lo hk _; simp only [Tab.put]; split <;> simp_all [Tab.wfFrom]
  | cons e r ih =>
    obtain ⟨j, w⟩ := e
    intro lo hk h
    have h0 := h
    simp only [Tab.wfFrom, Bool.and_eq_true, decide_eq_true_eq] at h
    simp only [Tab.put]
    split
    · simp only [Tab.wfFrom, Bool.and_eq_true, decide_eq_true_eq]
      exact ⟨⟨h.1.1, h.1.2⟩, ih (j + 1) (by omega) h.2⟩
    · split
      · exact Tab.wfFrom_drop d k _ lo h0
      · rename_i h1 h2
        split
        · rename_i h3
          subst h3
          simp only [Tab.wfFrom, Bool.and_eq_true, decide_eq_true_eq]
          exact ⟨⟨hk, h2⟩, h.2⟩
        · simp only [Tab.wfFrom, Bool.and_eq_true, decide_eq_true_eq]
          exact ⟨⟨hk, h2⟩, ⟨by omega, h.1.2⟩, h.2⟩

/-- A write keeps the canonical form. -/
theorem Tab.wf_put (d : α) (k : Nat) (v : α) (t : Tab α) (h : Tab.wf d t = true) : Tab.wf d (Tab.put d k v t) = true :=
  Tab.wfFrom_put d k v t 0 (Nat.zero_le k) h

/-- An empty table reads as its default. -/
@[simp] theorem Tab.get_nil {β : Type} (d : β) (k : Nat) : Tab.get d k [] = d := rfl

/-- `forEach` over no number changes nothing. -/
@[simp] theorem forEach_nil {β σ : Type} (f : β → σ → σ) (s : σ) : forEach [] f s = s := rfl

/-- `forEach` over a number and the rest. -/
@[simp] theorem forEach_cons {β σ : Type} (a : β) (l : List β) (f : β → σ → σ) (s : σ) :
    forEach (a :: l) f s = forEach l f (f a s) := rfl

/-- What every round of a `forEach` keeps, the whole keeps. -/
theorem forEach_keeps {β σ : Type} (P : σ → Prop) (l : List β) (f : β → σ → σ) (h : ∀ a s, P s → P (f a s)) :
    ∀ s, P s → P (forEach l f s) := by
  induction l with
  | nil => intro s hs; exact hs
  | cons a l ih => intro s hs; exact ih _ (h a s hs)

/-- What no round of a `forEach` changes, the whole does not change. -/
theorem forEach_same {β σ γ : Type} (g : σ → γ) (l : List β) (f : β → σ → σ) (h : ∀ a s, g (f a s) = g s) (s : σ) :
    g (forEach l f s) = g s := forEach_keeps (fun t => g t = g s) l f (fun a t ht => (h a t).trans ht) s rfl

end Sys2Proof.Machine
end

