-- ==== Sys2Proof/Laws/Ops.lean ====
section
/-!
SUPPORT. What the shared reporting operations can do: each changes reporting state only (Reports).
-/

namespace Sys2Proof.Machine

/-- Nothing changed. -/
theorem Reports.refl (s : State) : Reports s s := rfl

/-- One report after another. -/
theorem Reports.trans {s t u : State} (h : Reports s t) (k : Reports t u) : Reports s u := by
  unfold Reports at *
  rw [k, h]

/-! ### What reports leave as it was -/

/-- Reports leave `regs`. -/
theorem Reports.regs_eq {s t : State} (h : Reports s t) : t.regs = s.regs := by rw [h]

/-- Reports leave `mem`. -/
theorem Reports.mem_eq {s t : State} (h : Reports s t) : t.mem = s.mem := by rw [h]

/-- Reports leave `jobs`. -/
theorem Reports.jobs_eq {s t : State} (h : Reports s t) : t.jobs = s.jobs := by rw [h]

/-- Reports leave `engines`. -/
theorem Reports.engines_eq {s t : State} (h : Reports s t) : t.engines = s.engines := by rw [h]

/-- Reports leave `spans`. -/
theorem Reports.spans_eq {s t : State} (h : Reports s t) : t.spans = s.spans := by rw [h]

/-- Reports leave `scan`. -/
theorem Reports.scan_eq {s t : State} (h : Reports s t) : t.scan = s.scan := by rw [h]

/-- Reports leave `layers`. -/
theorem Reports.layers_eq {s t : State} (h : Reports s t) : t.layers = s.layers := by rw [h]

/-- Reports leave `pipes`. -/
theorem Reports.pipes_eq {s t : State} (h : Reports s t) : t.pipes = s.pipes := by rw [h]

/-- Reports leave `glob`. -/
theorem Reports.glob_eq {s t : State} (h : Reports s t) : t.glob = s.glob := by rw [h]

/-- Reports leave `time`. -/
theorem Reports.time_eq {s t : State} (h : Reports s t) : t.time = s.time := by rw [h]

/-- Reports leave `ports`. -/
theorem Reports.ports_eq {s t : State} (h : Reports s t) : t.ports = s.ports := by rw [h]

/-- Reports leave `bist`. -/
theorem Reports.bist_eq {s t : State} (h : Reports s t) : t.bist = s.bist := by rw [h]

/-- Reports leave `age`. -/
theorem Reports.age_eq {s t : State} (h : Reports s t) : t.age = s.age := by rw [h]

/-- Reports leave `nvs`. -/
theorem Reports.nvs_eq {s t : State} (h : Reports s t) : t.nvs = s.nvs := by rw [h]

/-- Reports leave `geom`. -/
theorem Reports.geom_eq {s t : State} (h : Reports s t) : t.geom = s.geom := by rw [h]

/-- Reports leave `alert`. -/
theorem Reports.alert_eq {s t : State} (h : Reports s t) : t.alert = s.alert := by rw [h]

/-- Reports leave `memc`. -/
theorem Reports.memc_eq {s t : State} (h : Reports s t) : t.memc = s.memc := by rw [h]

/-- Reports leave `res`. -/
theorem Reports.res_eq {s t : State} (h : Reports s t) : t.res = s.res := by rw [h]

/-- Reports leave `codecs`. -/
theorem Reports.codecs_eq {s t : State} (h : Reports s t) : t.codecs = s.codecs := by rw [h]

/-- Reports leave the running transition. -/
theorem Reports.move_eq {s t : State} (h : Reports s t) : t.power.move = s.power.move := by rw [h]

/-- An output is a report. -/
theorem emit_reports (o : Output) (s : State) : Reports s (s.emit o) := rfl

/-- A ring context change is a report. -/
theorem setRing_reports (n : Nat) (r : Ring) (s : State) : Reports s (s.setRing n r) := rfl

/-- A change of a fault set is a report. -/
theorem setFault_reports (u : Nat) (v : FaultUnit) (s : State) : Reports s (s.setFault u v) := rfl

/-- A journal entry is a report. -/
theorem journal_reports (e : Nat) (x : JournalEntry) (s : State) : Reports s (s.journal e x) := by
  unfold State.journal
  split <;> rfl

/-- A journal entry changes the journals alone. -/
theorem journal_eq (e : Nat) (x : JournalEntry) (s : State) : ∃ l, s.journal e x = { s with journals := l } := by
  unfold State.journal
  split
  · exact ⟨_, rfl⟩
  · exact ⟨s.journals, rfl⟩

/-- A message: sent, pending, or nothing (R101). -/
theorem sendMsix_reports (v : Nat) (s : State) : Reports s (sendMsix v s) := by
  unfold sendMsix
  split
  · rfl
  · split <;> rfl

/-- A ring's interrupt (R100). -/
theorem ringInterrupt_reports (n : Nat) (s : State) : Reports s (ringInterrupt n s) := by
  unfold ringInterrupt
  split
  · exact (sendMsix_reports _ s).trans rfl
  · rfl

/-- One ring entry (R76). -/
theorem ringWrite_reports (n : Nat) (ws : List Nat) (s : State) : Reports s (ringWrite n ws s) := by
  unfold ringWrite
  exact Reports.trans (t := (s.emit _).setRing n _) rfl (ringInterrupt_reports _ _)

/-- A waiting LOST record (R99). -/
theorem writeLost_reports (n : Nat) (s : State) : Reports s (writeLost n s) := by
  unfold writeLost
  split
  · rfl
  · refine Reports.trans (Reports.trans (t := (stamp 1 s).2.2) rfl (ringWrite_reports n _ _)) rfl

/-- A record for an event ring (R99). -/
theorem deliverEvent_reports (n : Nat) (ws : List Nat) (s : State) : Reports s (deliverEvent n ws s) := by
  unfold deliverEvent
  simp only
  split
  · exact (writeLost_reports n s).trans rfl
  · exact (writeLost_reports n s).trans (ringWrite_reports _ _ _)

/-- A routed record (R97). -/
theorem routeEvent_reports (code : Nat) (ws : List Nat) (s : State) : Reports s (routeEvent code ws s) := by
  unfold routeEvent
  simp only
  split
  · exact deliverEvent_reports _ _ _
  · rfl

/-- An event record raised (R94 to R99). -/
theorem raiseEventAs_reports (x : Bool) (src code sev : Nat) (p : List Nat) (s : State) :
    Reports s (raiseEventAs x src code sev p s) := by
  have h : Reports s (if src / 0x1000 = 3 then
      (stamp src s).2.2.journal ((stamp src s).2.2.dutyEngine (src % 32 / 4) (src % 4)) (.event src) else (stamp src s).2.2) := by
    split
    · exact Reports.trans (t := (stamp src s).2.2) rfl (journal_reports _ _ _)
    · rfl
  unfold raiseEventAs
  dsimp only
  generalize (if src / 0x1000 = 3 then _ else _ : State) = u at h ⊢
  split
  · exact h
  · split
    · exact h
    · split
      · exact h.trans rfl
      · exact h.trans (routeEvent_reports _ _ _)

/-- An event record of severity 0. -/
theorem raiseEvent_reports (src code : Nat) (p : List Nat) (s : State) : Reports s (raiseEvent src code p s) :=
  raiseEventAs_reports _ _ _ _ _ _

/-- One detection (R381 to R384). -/
theorem detectOne_reports (u k : Nat) (f p m x : Bool) (s : State) : Reports s (detectOne u k f p m x s) := by
  unfold detectOne
  split
  · rfl
  · simp only
    split
    · split
      · exact ((setFault_reports u _ s).trans (raiseEventAs_reports _ _ _ _ _ _)).trans (sendMsix_reports _ _)
      · exact (setFault_reports u _ s).trans (raiseEventAs_reports _ _ _ _ _ _)
    · rfl

/-- A note. -/
theorem detectNote_reports (u k : Nat) (s : State) : Reports s (detectNote u k s) := detectOne_reports _ _ _ _ _ _ _

/-- Clearing sticky bits (R381). -/
theorem clearSticky_reports (u b : Nat) (s : State) : Reports s (clearSticky u b s) := rfl

/-- Clearing a live bit (R381). -/
theorem clearLive_reports (u k : Nat) (s : State) : Reports s (clearLive u k s) := rfl

/-- Waiting completion entries (R72). -/
theorem drainCompletions_reports (cq : Nat) : ∀ (k : Nat) (s : State), Reports s (drainCompletions cq k s)
  | 0, _ => rfl
  | k + 1, s => by
    unfold drainCompletions
    split
    · rfl
    · split
      · rfl
      · exact (Reports.trans (t := s.modRing cq _) rfl (ringWrite_reports _ _ _)).trans (drainCompletions_reports cq k _)

/-- A completion entry (R72, R76). -/
theorem writeCompletion_reports (n slot tag op st d : Nat) (s : State) : Reports s (writeCompletion n slot tag op st d s) := by
  unfold writeCompletion
  have h := journal_reports (s.ringEngine n) (.completed n slot) s
  simp only
  split
  · exact h
  · split
    · exact h.trans rfl
    · exact h.trans (ringWrite_reports _ _ _)

/-- The end of a stop (R64). -/
theorem stopCheck_reports (n : Nat) (s : State) : Reports s (stopCheck n s) := by
  unfold stopCheck
  simp only
  split <;> rfl

/-- Reports are completions of nothing. -/
theorem Reports.completes {s t : State} (h : Reports s t) : Completes s t := by
  unfold Completes Reports at *
  rw [h]

/-- One completion after another. -/
theorem Completes.trans {s t u : State} (h : Completes s t) (k : Completes t u) : Completes s u := by
  unfold Completes Reports at *
  rw [k, h]

/-- A FENCE's check (R79). -/
theorem fenceCheck_completes (n : Nat) (s : State) : Completes s (fenceCheck n s) := by
  unfold fenceCheck
  simp only
  split
  · exact (Reports.refl s).completes
  · split
    · exact Completes.trans (t := { s with jobs := _, power.activity := true }) rfl (writeCompletion_reports _ _ _ _ _ _ _).completes
    · exact (Reports.refl s).completes

/-- The end of a command (R70, R79). -/
theorem finishJob_completes (j : Job) (st d : Nat) (s : State) : Completes s (finishJob j st d s) := by
  unfold finishJob
  exact ((Completes.trans (t := { s with jobs := _, power.activity := true }) rfl
    (writeCompletion_reports _ _ _ _ _ _ _).completes).trans (fenceCheck_completes _ _)).trans
    (stopCheck_reports _ _).completes

/-- Completion entries leave the list of commands as it was. -/
theorem writeCompletion_jobs (n slot tag op st d : Nat) (s : State) : (writeCompletion n slot tag op st d s).jobs = s.jobs := by
  rw [writeCompletion_reports n slot tag op st d s]

/-- A FENCE's check only takes commands from the list. -/
theorem fenceCheck_jobs (n : Nat) (s : State) : ∀ x ∈ (fenceCheck n s).jobs, x ∈ s.jobs := by
  unfold fenceCheck
  simp only
  split
  · exact fun _ h => h
  · split
    · intro x hx
      rw [writeCompletion_jobs] at hx
      exact (List.mem_filter.mp hx).1
    · exact fun _ h => h

/-- A finished command has left the list, and no other has joined it. -/
theorem finishJob_jobs (j : Job) (st d : Nat) (s : State) :
    ∀ x ∈ (finishJob j st d s).jobs, x ∈ s.jobs ∧ ¬(x.ring = j.ring ∧ x.slot = j.slot) := by
  unfold finishJob
  intro x hx
  rw [stopCheck_reports] at hx
  have h := fenceCheck_jobs _ _ x hx
  rw [writeCompletion_jobs] at h
  simp only [List.mem_filter, Bool.not_eq_true', Bool.and_eq_false_iff, beq_eq_false_iff_ne] at h
  exact ⟨h.1, fun e => by rcases h.2 with h2 | h2 <;> exact h2 (by first | exact e.1 | exact e.2)⟩

/-- Nothing moves a transition on while none runs. -/
theorem powerGo_none (s : State) (h : s.power.move = .none) : powerGo s = s := by
  unfold powerGo
  rw [h]

/-- A message only adds to what has left. -/
theorem sendMsix_out (v : Nat) (s : State) : s.out <+: (sendMsix v s).out := by
  unfold sendMsix
  split
  · exact List.prefix_rfl
  · split
    · exact List.prefix_rfl
    · exact List.prefix_append _ _

/-- A ring's interrupt only adds to what has left. -/
theorem ringInterrupt_out (n : Nat) (s : State) : s.out <+: (ringInterrupt n s).out := by
  unfold ringInterrupt
  split
  · exact sendMsix_out _ s
  · exact List.prefix_rfl

/-- A ring entry leaves first, before the interrupt it may raise (R76, R100). -/
theorem ringWrite_out (n : Nat) (ws : List Nat) (s : State) :
    s.out ++ [.hostWrite (s.ringBase n + (s.ring n).hw * (4 * ws.length))
      (bytesOfWords ((ws.take 1) ++ [wd ws 1 + at_ (b2n (s.ring n).phase) 31] ++ ws.drop 2))] <+: (ringWrite n ws s).out := by
  unfold ringWrite
  dsimp only
  have key : ∀ (l : List Output) (u : State), u.out = l → l <+: (ringInterrupt n u).out := fun l u h => h ▸ ringInterrupt_out n u
  exact key _ _ rfl

/-- A completion entry only adds to what has left. -/
theorem writeCompletion_out (n slot tag op st d : Nat) (s : State) : s.out <+: (writeCompletion n slot tag op st d s).out := by
  unfold writeCompletion
  obtain ⟨l, hl⟩ := journal_eq (s.ringEngine n) (.completed n slot) s
  simp only [hl]
  split
  · exact List.prefix_rfl
  · split
    · exact List.prefix_rfl
    · exact (List.prefix_append _ _).trans (ringWrite_out _ _ { s with journals := l })

/-- A FENCE's check only adds to what has left. -/
theorem fenceCheck_out (n : Nat) (s : State) : s.out <+: (fenceCheck n s).out := by
  unfold fenceCheck
  simp only
  split
  · exact List.prefix_rfl
  · split
    · have key : ∀ (a b c d e f : Nat) (u : State), u.out = s.out → s.out <+: (writeCompletion a b c d e f u).out :=
        fun a b c d e f u h => h ▸ writeCompletion_out a b c d e f u
      exact key _ _ _ _ _ _ _ rfl
    · exact List.prefix_rfl

/-- The end of a stop adds nothing to what has left. -/
theorem stopCheck_out (n : Nat) (s : State) : (stopCheck n s).out = s.out := by
  unfold stopCheck
  simp only
  split <;> rfl

/-- The entry that a completion writes where its completion ring takes one (R76). -/
theorem writeCompletion_entry (n slot tag op st d : Nat) (s : State) (h : s.CqTakes n) :
    s.out ++ [s.compOut n slot tag op st d] <+: (writeCompletion n slot tag op st d s).out := by
  obtain ⟨hn, ho, hf, hw, hx, hr⟩ := h
  obtain ⟨l, hl⟩ := journal_eq (s.ringEngine n) (.completed n slot) s
  have ho' : State.ringOn { s with journals := l } (s.ringCq n) = true := ho
  have hf' : State.ringFull { s with journals := l } (s.ringCq n) = false := hf
  have hw' : (State.ring { s with journals := l } (s.ringCq n)).waiting = [] := hw
  have hr' : State.noRecords { s with journals := l } = false := hr
  unfold writeCompletion
  simp only [hl, ho', hf', hw', hx, hr', Nat.not_le.mpr hn, decide_false, Bool.or_false, Bool.not_true, List.isEmpty_nil,
    if_false, Bool.false_eq_true]
  exact ringWrite_out (s.ringCq n) (compWords { sq := n, slot := slot, tag := tag, opcode := op, status := st, detail := d, time := s.islandTime (0x2000 + s.ringEngine n) }) { s with journals := l }

/-- A FENCE's check leaves the commands of other rings. -/
theorem fenceCheck_others (n : Nat) (s : State) : ∀ x ∈ s.jobs, x.ring ≠ n → x ∈ (fenceCheck n s).jobs := by
  intro x hx hn
  unfold fenceCheck
  simp only
  split
  · exact hx
  · rename_i j hj
    split
    · rw [writeCompletion_jobs]
      refine List.mem_filter.mpr ⟨hx, ?_⟩
      have h := List.find?_some hj
      simp only [Bool.and_eq_true, beq_iff_eq] at h
      simp only [bne_iff_ne, ne_eq]
      exact fun e => hn (e ▸ h.1)
    · exact hx

/-- The end of a command, said once (R64, R70, R76, R79). -/
theorem finishJob_ends (j : Job) (st d : Nat) (s : State) : Ends j st d s (finishJob j st d s) := by
  refine ⟨finishJob_completes j st d s, finishJob_jobs j st d s, ?_, ?_⟩
  · intro x hx hn
    unfold finishJob
    rw [stopCheck_reports]
    refine fenceCheck_others _ _ x ?_ hn
    rw [writeCompletion_jobs]
    refine List.mem_filter.mpr ⟨hx, ?_⟩
    simp [hn]
  · intro h
    unfold finishJob
    rw [stopCheck_out]
    exact List.IsPrefix.trans (writeCompletion_entry _ _ _ _ _ _
      { s with jobs := s.jobs.filter (fun x => !(x.ring == j.ring && x.slot == j.slot)), power.activity := true } h) (fenceCheck_out _ _)

/-- A command that had joined the list and ends at once. -/
theorem finishJob_ends_new (j x : Job) (st d : Nat) (s : State) (hr : x.ring = j.ring) (hs : x.slot = j.slot) :
    Ends j st d s (finishJob j st d { s with jobs := s.jobs ++ [x] }) := by
  obtain ⟨h1, h2, h3, h4⟩ := finishJob_ends j st d { s with jobs := s.jobs ++ [x] }
  refine ⟨h1, ?_, fun y hy => h3 y (List.mem_append_left _ hy), h4⟩
  intro y hy
  obtain ⟨h5, h6⟩ := h2 y hy
  refine ⟨?_, h6⟩
  rcases List.mem_append.mp h5 with h | h
  · exact h
  · rw [List.mem_singleton.mp h] at h6
    exact absurd ⟨hr, hs⟩ h6

end Sys2Proof.Machine
end

