-- ==== Sys2Proof/Laws/Access.lean ====
section
/-!
SUPPORT. What a register access does, said once: an accepted one-DW write (R39, R43, R46), a refused request (R41, R42).
-/

namespace Sys2Proof.Machine

/-- A value below 2^32 is its own low DW. -/
theorem dwLo_eq (v : Nat) (h : v < 2 ^ 32) : dwLo v = v := Nat.mod_eq_of_lt h

/-- With the core powered an access finds the host interface (R326). -/
theorem hostArrive_on (s : State) (h : s.power.coreOff = false) : hostArrive s = s := by simp [hostArrive, h]

/-- A one-DW write to a register that the map has, with no test against it: the effect, and the re-arm of a guarded
register. -/
theorem writeReg_accept (r : Reg) (v : Nat) (s : State) (hs : s.Reachable) (hl : locate (r.addr / 4 * 4) = some r) (hv : v < 2 ^ 32)
    (hk : writeKind r v s = none) :
    writeReg r v s =
      (if r.guarded then { powerGo (regWrite r v s) with glob.unlocked := false } else powerGo (regWrite r v s)) := by
  obtain ⟨hc, hd⟩ := hs
  have hr : reqReg (regReq r) = some r := hl
  have hq : widthOk r (regReq r) = true := rfl
  have hw : writeTests (regReq r) v s = powerGo (regWrite r v s) := by
    unfold writeTests
    rw [hr]
    simp only [hq, dwLo_eq v hv, hk, takeWrite]
    rfl
  unfold writeReg bar0Write
  rw [hostArrive_on s hc]
  simp only [hd, rearm, hr, hw]
  rfl

/-- The same for a register that no lock guards. -/
theorem writeReg_plain (r : Reg) (v : Nat) (s : State) (hs : s.Reachable) (hl : locate (r.addr / 4 * 4) = some r) (hv : v < 2 ^ 32)
    (hk : writeKind r v s = none) (hg : r.guarded = false) : writeReg r v s = powerGo (regWrite r v s) := by
  rw [writeReg_accept r v s hs hl hv hk, hg]
  rfl

/-- In a state that is open to accesses, the tests of a write are those of its own register (R39). -/
theorem writeKind_open (r : Reg) (v : Nat) (s : State) (hs : s.Open) (hr : r ≠ .globalUnlock) (hg : r.guarded = false)
    (hb : regBusy r v s = false) (ht : regState r v s = false) (hv : regRange r v s = false) : writeKind r v s = none := by
  obtain ⟨-, hp, hy, ho, hf, -⟩ := hs
  have hx : stateBars r v s = false := by
    unfold stateBars
    cases h : s.power.state <;> simp_all
  simp [writeKind, Reg.busyBars, hy, hr, hg, hb, ht, hv, hx]

/-- A doorbell, a ring register or any other of the map lies at its own address, which its aligned DW starts. -/
theorem reqReg_regReq (r : Reg) (h : locate (r.addr / 4 * 4) = some r) : reqReg (regReq r) = some r := h

/-- The AER report of an error changes the function's AER state and may send a message (R41). -/
theorem aerReport_changes (adv : Bool) (k : Nat) (h : ReqHdr) (s : State) :
    ∃ cor out, aerReport adv k h s =
      { s with host := { s.host with aerUncor := withBit s.host.aerUncor k true, headerLog := some h, aerCor := cor }, out := out } := by
  unfold aerReport
  simp only
  split
  · split
    · exact ⟨s.host.aerCor, s.out, rfl⟩
    · exact ⟨s.host.aerCor, _, rfl⟩
  · split
    · split
      · exact ⟨_, s.out, rfl⟩
      · exact ⟨_, _, rfl⟩
    · split
      · exact ⟨s.host.aerCor, s.out, rfl⟩
      · exact ⟨s.host.aerCor, _, rfl⟩

/-- A refused request changes the access-error log, AER state and reports, and nothing else (R41, R42). -/
theorem refuse_changes (bar : Nat) (w : Bool) (k : Nat) (q : Req) (s : State) :
    ∃ cor, Reports { s with host := { s.host with
      accErr := (accErrLog k (reqHdr w bar q) s).host.accErr, accErrCount := (accErrLog k (reqHdr w bar q) s).host.accErrCount,
      aerUncor := withBit s.host.aerUncor (if k = 1 then 20 else 15) true, headerLog := some (reqHdr w bar q), aerCor := cor } }
      (refuse bar w k q s) := by
  have hl : ∃ a c, accErrLog k (reqHdr w bar q) s = { s with host := { s.host with accErr := a, accErrCount := c } } := by
    unfold accErrLog
    split
    · exact ⟨_, s.host.accErrCount, rfl⟩
    · exact ⟨s.host.accErr, _, rfl⟩
  obtain ⟨a, c, hl⟩ := hl
  obtain ⟨cor, out, ha⟩ := aerReport_changes (!w) (if k = 1 then 20 else 15) (reqHdr w bar q) (accErrLog k (reqHdr w bar q) s)
  refine ⟨cor, ?_⟩
  unfold refuse
  simp only
  rw [ha, hl]
  cases w
  · exact Reports.trans (Reports.trans rfl (detectNote_reports _ _ _)) rfl
  · exact Reports.trans rfl (detectNote_reports _ _ _)

end Sys2Proof.Machine
end

