-- ==== Sys2Proof/Laws/Bits.lean ====
section
/-!
SUPPORT. Laws of bit fields and byte order: a bit that was set reads 1, and four little-endian bytes spell their word.
-/

namespace Sys2Proof.Machine

/-- A bit that was set reads 1, one that was cleared reads 0. -/
@[simp] theorem bit_withBit (n i : Nat) (b : Bool) : bit (withBit n i b) i = b := by
  have hp : 0 < 2 ^ i := Nat.two_pow_pos i
  unfold withBit
  by_cases h : bit n i = true
  · cases b with
    | true => simp [h]
    | false =>
      simp only [h, if_true, Bool.false_eq_true, if_false]
      have h1 : n / 2 ^ i % 2 = 1 := by simpa [bit] using h
      have h2 : (n - 2 ^ i) / 2 ^ i = n / 2 ^ i - 1 := by
        have := Nat.sub_mul_div n (2 ^ i) 1
        simpa using this
      simp only [bit, h2, beq_eq_false_iff_ne]
      omega
  · have h0 : n / 2 ^ i % 2 = 0 := by
      have : ¬ n / 2 ^ i % 2 = 1 := by simpa [bit] using h
      omega
    have hf : bit n i = false := by simpa using h
    cases b with
    | true =>
      simp only [hf, Bool.false_eq_true, if_false, if_true]
      have h2 : (n + 2 ^ i) / 2 ^ i = n / 2 ^ i + 1 := Nat.add_div_right n hp
      simp only [bit, h2, beq_iff_eq]
      omega
    | false => simp [hf]

/-- The low DW of a pair. -/
theorem leVal_leBytes : ∀ (n v : Nat), leVal (leBytes n v) = v % 256 ^ n
  | 0, v => by simp [leBytes, leVal, Nat.mod_one]
  | n + 1, v => by
    rw [leBytes, leVal, leVal_leBytes n, Nat.pow_succ, Nat.mul_comm (256 ^ n), Nat.mod_mul]
    simp

/-- A mask keeps a value below 2^32 there. -/
theorem land_lt (a b : Nat) (h : a < 2 ^ 32) : Nat.land a b < 2 ^ 32 := Nat.lt_of_le_of_lt Nat.and_le_left h

end Sys2Proof.Machine
end

