-- ==== Sys2Proof/Laws/Locate.lean ====
section
/-!
SUPPORT. Where the arrayed registers that commands write lie in the map (R450): each is found at its own DW.
-/

namespace Sys2Proof.Machine

/-- DOORBELL of ring n. -/
theorem locate_doorbell (n : Nat) (h : n < 8192) : locate ((Reg.doorbell n).addr / 4 * 4) = some (.doorbell n) := by
  have e : (Reg.doorbell n).addr / 4 * 4 = 0x1000000 + 0x40 * n := by simp only [Reg.addr]; omega
  rw [e]
  simp only [locate]
  repeat (first | rw [if_pos (by omega)] | rw [if_neg (by omega)])
  congr 2
  omega

/-- RING_CTL of ring n. -/
theorem locate_ringCtl (n : Nat) (h : n < 8192) : locate ((Reg.ringCtl n).addr / 4 * 4) = some (.ringCtl n) := by
  have e : (Reg.ringCtl n).addr / 4 * 4 = 0x200000 + 0x40 * n + 0xC := by simp only [Reg.addr]; omega
  rw [e]
  simp only [locate]
  repeat (first | rw [if_pos (by omega)] | rw [if_neg (by omega)])
  have h1 : (0x200000 + 0x40 * n + 0xC - 0x200000) / 0x40 = n := by omega
  have h2 : (0x200000 + 0x40 * n + 0xC - 0x200000) % 0x40 = 0xC := by omega
  rw [h1, h2]
  rfl

/-- PORT_CTL of port p. -/
theorem locate_portCtl : ∀ p : Fin 32, locate ((Reg.portCtl p).addr / 4 * 4) = some (.portCtl p) := by decide +kernel

/-- PORT_CNT_CLEAR of port p. -/
theorem locate_portCntClear : ∀ p : Fin 32, locate ((Reg.portCntClear p).addr / 4 * 4) = some (.portCntClear p) := by
  decide +kernel

/-- LANE_PRBS_CTL of lane l of port p. -/
theorem locate_lanePrbsCtl : ∀ (p : Fin 32) (l : Fin 4),
    locate ((Reg.lanePrbsCtl p l).addr / 4 * 4) = some (.lanePrbsCtl p l) := by decide +kernel

/-- LANE_INJECT of lane l of port p. -/
theorem locate_laneInject : ∀ (p : Fin 32) (l : Fin 4),
    locate ((Reg.laneInject p l).addr / 4 * 4) = some (.laneInject p l) := by decide +kernel

/-- FAULT_FORCE of unit u. -/
theorem locate_faultForce : ∀ u : Fin 182, locate ((Reg.faultForce u).addr / 4 * 4) = some (.faultForce u) := by
  decide +kernel

/-- FAULT_ENABLE of unit u. -/
theorem locate_faultEnable : ∀ u : Fin 182, locate ((Reg.faultEnable u).addr / 4 * 4) = some (.faultEnable u) := by
  decide +kernel

end Sys2Proof.Machine
end

