-- ==== Sys2Proof/Laws/Mem.lean ====
section
/-!
SUPPORT. Laws of device memory (R3, R30): every memory operation keeps the canonical form, a byte reads back as written,
and every other byte stays as it was.
-/

namespace Sys2Proof.Machine

/-- A byte write keeps the canonical form. -/
theorem Mem.wf_put (a v : Nat) (m : List Host.Cell) (h : Mem.wf m = true) : Mem.wf (Mem.put a v m) = true :=
  Tab.wf_put _ _ _ _ h

/-- A write of a list of bytes keeps the canonical form. -/
theorem Mem.wf_puts (l : List Nat) : ∀ (a : Nat) (m : List Host.Cell), Mem.wf m = true → Mem.wf (Mem.puts a l m) = true := by
  induction l with
  | nil => intro a m h; exact h
  | cons b l ih => intro a m h; exact ih _ _ (Mem.wf_put a b m h)

/-- Every state operation on memory keeps the canonical form. -/
theorem State.puts_memOk (a : Nat) (l : List Nat) (s : State) (h : s.MemOk) : (s.puts a l).MemOk := Mem.wf_puts l a _ h

/-- `putLe` keeps the canonical form. -/
theorem State.putLe_memOk (a n v : Nat) (s : State) (h : s.MemOk) : (s.putLe a n v).MemOk := Mem.wf_puts _ a _ h

/-- A byte reads back as written. -/
@[simp] theorem Mem.byte_put_same (a v : Nat) (m : List Host.Cell) : Mem.byte (Mem.put a v m) a = v % 256 := by
  simp [Mem.byte, Mem.put, BitVec.toNat_ofNat]

/-- A byte write leaves every other byte as it was. -/
@[simp] theorem Mem.byte_put_ne (a b v : Nat) (m : List Host.Cell) (h : b ≠ a) : Mem.byte (Mem.put a v m) b = Mem.byte m b := by
  simp [Mem.byte, Mem.put, h]

/-- Bytes outside the range of a write stay as they were. -/
theorem Mem.byte_puts_out (l : List Nat) : ∀ (a b : Nat) (m : List Host.Cell), b < a ∨ a + l.length ≤ b →
    Mem.byte (Mem.puts a l m) b = Mem.byte m b := by
  induction l with
  | nil => intros; rfl
  | cons x l ih =>
    intro a b m h
    simp only [List.length_cons] at h
    rw [Mem.puts, ih (a + 1) b _ (by omega), Mem.byte_put_ne _ _ _ _ (by omega)]

/-- Byte i of a write reads back. -/
theorem Mem.byte_puts_in (l : List Nat) : ∀ (a i : Nat) (m : List Host.Cell) (h : i < l.length),
    Mem.byte (Mem.puts a l m) (a + i) = l[i] % 256 := by
  induction l with
  | nil => intro a i m h; simp at h
  | cons x l ih =>
    intro a i m h
    rw [Mem.puts]
    cases i with
    | zero =>
      rw [Mem.byte_puts_out l (a + 1) _ _ (by omega)]
      simp
    | succ i =>
      have := ih (a + 1) i (Mem.put a x m) (by simpa using h)
      simpa [Nat.add_assoc, Nat.add_comm 1] using this

/-! ### The canonical form through the shapes that meanings have

A meaning keeps the canonical form because each part of it does: one lemma `Mem.wf s.mem = true → Mem.wf (f s).mem = true`
per function f, in the order of their definitions, closes by `unfold f` and then, as often as needed, the hypothesis, a
lemma below, the lemma of a function that f calls (all with reducible unfolding only), `extract_lets`, `split`. -/

/-- Through a choice. -/
theorem Mem.wf_ite {c : Prop} [Decidable c] {a b : State} (ha : Mem.wf a.mem = true) (hb : Mem.wf b.mem = true) :
    Mem.wf (if c then a else b).mem = true := by
  split <;> assumption

/-- Through a loop over a list. -/
theorem Mem.wf_forEach {α : Type} {f : α → State → State} (l : List α) {s : State}
    (hf : ∀ x (t : State), Mem.wf t.mem = true → Mem.wf (f x t).mem = true) (hs : Mem.wf s.mem = true) :
    Mem.wf (forEach l f s).mem = true := by
  induction l generalizing s with
  | nil => exact hs
  | cons x l ih => exact ih (hf x s hs)

/-- Through a fold over a list. -/
theorem Mem.wf_foldl {α : Type} {f : State → α → State} (l : List α) {s : State}
    (hf : ∀ (t : State) x, Mem.wf t.mem = true → Mem.wf (f t x).mem = true) (hs : Mem.wf s.mem = true) :
    Mem.wf (l.foldl f s).mem = true := by
  induction l generalizing s with
  | nil => exact hs
  | cons x l ih => exact ih (hf s x hs)

end Sys2Proof.Machine
end

