-- ==== Sys2Proof/Laws/Nvs.lean ====
section
/-!
SUPPORT. Laws of the store: CRC-32 has 32 bits, so a page whose stored CRC has more is no valid copy (R169, R356).
-/

namespace Sys2Proof.Machine

/-- Eight shifts stay within 32 bits. -/
theorem crc32Byte_lt : ∀ (k c : Nat), c < 2 ^ 32 → crc32Byte k c < 2 ^ 32
  | 0, _, h => h
  | k + 1, c, h => by
    refine crc32Byte_lt k _ ?_
    split
    · exact Nat.xor_lt_two_pow (by omega) (by decide)
    · omega

/-- A CRC-32 has 32 bits. -/
theorem crc32_lt (l : List Nat) : crc32 l < 2 ^ 32 := by
  have h : ∀ (l : List Nat) (c : Nat), c < 2 ^ 32 → crc32From c l < 2 ^ 32 := by
    intro l
    induction l with
    | nil => exact fun _ h => h
    | cons b l ih => exact fun c h => ih _ (crc32Byte_lt 8 _ (Nat.xor_lt_two_pow h (by omega)))
  exact Nat.xor_lt_two_pow (h l _ (by decide)) (by decide)

/-- A page whose stored CRC has more than 32 bits is no valid copy. -/
theorem Phys.not_valid (g : Phys) (part k : Nat) (h : 2 ^ 32 ≤ g.dcrc) : g.valid part k = false := by
  have := crc32_lt g.bytes
  simp [Phys.valid]
  omega

end Sys2Proof.Machine
end

