-- ==== Sys2Proof/Laws/PerInstr.lean ====
section
/-!
SUPPORT. Laws made command by command. Wf: a well-formed command that is a memory request carries one that a TLP can hold.
-/

namespace Sys2Proof.Laws.Wf

/-- The memory request that a command is, where it is one. -/
def request : Instr → Option Req
  | .registerWrite r _ | .poisonedTlp _ r | .bar2Access _ r _ | .msixTableWrite r _ | .bar0Read r => some r
  | _ => none

/-- A well-formed command that is a request names a whole DW below 2^36 and 1 to 1,024 DWs. -/
def Statement (i : Instr) : Prop :=
  i.wf = true → ∀ r, request i = some r → r.offset % 4 = 0 ∧ r.offset < 2 ^ 36 ∧ 1 ≤ r.lenDw ∧ r.lenDw ≤ 1024

/-- A well-formed request does. -/
theorem of_req (r : Req) (h : r.wf = true) : r.offset % 4 = 0 ∧ r.offset < 2 ^ 36 ∧ 1 ≤ r.lenDw ∧ r.lenDw ≤ 1024 := by
  simp only [Req.wf, Bool.and_eq_true, beq_iff_eq, decide_eq_true_eq] at h
  omega

/-- `registerWrite`. -/
theorem registerWrite (req : Req) (data : Nat) : Statement (.registerWrite req data) := by
  intro h r e
  simp only [request, Option.some.injEq] at e
  subst e
  simp only [Instr.wf, Bool.and_eq_true] at h
  exact of_req _ h.1
/-- `accErrLogClear`. -/
theorem accErrLogClear : Statement (.accErrLogClear) := nofun
/-- `bar2Access`. -/
theorem bar2Access (write : Bool) (req : Req) (data : List Nat) : Statement (.bar2Access write req data) := by
  intro h r e
  simp only [request, Option.some.injEq] at e
  subst e
  simp only [Instr.wf, Bool.and_eq_true] at h
  exact of_req _ h.1
/-- `poisonedTlp`. -/
theorem poisonedTlp (bar2 : Bool) (req : Req) : Statement (.poisonedTlp bar2 req) := by
  intro h r e
  simp only [request, Option.some.injEq] at e
  subst e
  simp only [Instr.wf] at h
  exact of_req _ h
/-- `globalUnlock`. -/
theorem globalUnlock (key : Nat) : Statement (.globalUnlock key) := nofun
/-- `msixTableWrite`. -/
theorem msixTableWrite (req : Req) (data : List Nat) : Statement (.msixTableWrite req data) := by
  intro h r e
  simp only [request, Option.some.injEq] at e
  subst e
  simp only [Instr.wf, Bool.and_eq_true] at h
  exact of_req _ h.1
/-- `bar2Resize`. -/
theorem bar2Resize (log : Fin 9) : Statement (.bar2Resize log) := nofun
/-- `doorbell`. -/
theorem doorbell (ring : Fin 8192) (value : Nat) : Statement (.doorbell ring value) := nofun
/-- `ringEnable`. -/
theorem ringEnable (ring : Fin 8192) (value : Nat) : Statement (.ringEnable ring value) := nofun
/-- `ringDisable`. -/
theorem ringDisable (ring : Fin 8192) (value : Nat) : Statement (.ringDisable ring value) := nofun
/-- `schedulingPoint`. -/
theorem schedulingPoint (engine : Fin 72) (check : Check) : Statement (.schedulingPoint engine check) := nofun
/-- `descriptorFetch`. -/
theorem descriptorFetch (engine : Fin 72) (words : Option (List Nat)) : Statement (.descriptorFetch engine words) := nofun
/-- `nop`. -/
theorem nop (engine : Fin 72) : Statement (.nop engine) := nofun
/-- `fence`. -/
theorem fence (engine : Fin 72) : Statement (.fence engine) := nofun
/-- `layerWrite`. -/
theorem layerWrite (engine : Fin 72) : Statement (.layerWrite engine) := nofun
/-- `layerWriteDone`. -/
theorem layerWriteDone (ring : Fin 8192) (slot : Fin 65536) (data : List Nat) (error : Bool) : Statement (.layerWriteDone ring slot data error) := nofun
/-- `layerBind`. -/
theorem layerBind (engine : Fin 72) : Statement (.layerBind engine) := nofun
/-- `surfaceRetire`. -/
theorem surfaceRetire (engine : Fin 72) : Statement (.surfaceRetire engine) := nofun
/-- `flush`. -/
theorem flush (engine : Fin 72) : Statement (.flush engine) := nofun
/-- `bistUpdate`. -/
theorem bistUpdate (engine : Fin 72) (check : Check) (bad : List (Nat × Nat)) : Statement (.bistUpdate engine check bad) := nofun
/-- `tileCmd`. -/
theorem tileCmd (engine : Fin 72) (payload : Option (List Nat)) : Statement (.tileCmd engine payload) := nofun
/-- `tileCmdTimeout`. -/
theorem tileCmdTimeout (port : Fin 32) (hop : Fin 129) (tag : Fin 256) : Statement (.tileCmdTimeout port hop tag) := nofun
/-- `stressCheckpoint`. -/
theorem stressCheckpoint (engine : Fin 72) : Statement (.stressCheckpoint engine) := nofun
/-- `stressCheckpointEnd`. -/
theorem stressCheckpointEnd (ring : Fin 8192) (slot : Fin 65536) (error : Bool) (check : Check) : Statement (.stressCheckpointEnd ring slot error check) := nofun
/-- `stressRestore`. -/
theorem stressRestore (engine : Fin 72) (file : Option (List Nat)) : Statement (.stressRestore engine file) := nofun
/-- `stressRestoreEnd`. -/
theorem stressRestoreEnd (ring : Fin 8192) (slot : Fin 65536) : Statement (.stressRestoreEnd ring slot) := nofun
/-- `powerReq`. -/
theorem powerReq (engine : Fin 72) : Statement (.powerReq engine) := nofun
/-- `nvsRead`. -/
theorem nvsRead (engine : Fin 72) : Statement (.nvsRead engine) := nofun
/-- `nvsWrite`. -/
theorem nvsWrite (engine : Fin 72) (data : Option (List Nat)) : Statement (.nvsWrite engine data) := nofun
/-- `nvsSave`. -/
theorem nvsSave (engine : Fin 72) : Statement (.nvsSave engine) := nofun
/-- `alertShow`. -/
theorem alertShow (engine : Fin 72) : Statement (.alertShow engine) := nofun
/-- `alertClear`. -/
theorem alertClear (engine : Fin 72) : Statement (.alertClear engine) := nofun
/-- `frameStart`. -/
theorem frameStart (dt : Nat) : Statement (.frameStart dt) := nofun
/-- `latchPoint`. -/
theorem latchPoint (dt : Nat) : Statement (.latchPoint dt) := nofun
/-- `genlockEdge`. -/
theorem genlockEdge (dt : Nat) (rising : Bool) : Statement (.genlockEdge dt rising) := nofun
/-- `genlockWindowExpiry`. -/
theorem genlockWindowExpiry (dt : Nat) : Statement (.genlockWindowExpiry dt) := nofun
/-- `scanStart`. -/
theorem scanStart (freerun : Bool) : Statement (.scanStart freerun) := nofun
/-- `scanStop`. -/
theorem scanStop (freerun : Bool) : Statement (.scanStop freerun) := nofun
/-- `scanCommit`. -/
theorem scanCommit : Statement (.scanCommit) := nofun
/-- `layerCommit`. -/
theorem layerCommit : Statement (.layerCommit) := nofun
/-- `resCommit`. -/
theorem resCommit : Statement (.resCommit) := nofun
/-- `commitComplete`. -/
theorem commitComplete : Statement (.commitComplete) := nofun
/-- `lineBufferFetch`. -/
theorem lineBufferFetch (pipe : Fin 40) (kib : Nat) (lane : Bool) (check : Check) : Statement (.lineBufferFetch pipe kib lane check) := nofun
/-- `pixelProcess`. -/
theorem pixelProcess (pipe : Fin 40) (check : Check) : Statement (.pixelProcess pipe check) := nofun
/-- `emitReload`. -/
theorem emitReload : Statement (.emitReload) := nofun
/-- `geomCheck`. -/
theorem geomCheck : Statement (.geomCheck) := nofun
/-- `geomCheckEnd`. -/
theorem geomCheckEnd : Statement (.geomCheckEnd) := nofun
/-- `ageClear`. -/
theorem ageClear : Statement (.ageClear) := nofun
/-- `ageClearEnd`. -/
theorem ageClearEnd : Statement (.ageClearEnd) := nofun
/-- `seedPassEnd`. -/
theorem seedPassEnd : Statement (.seedPassEnd) := nofun
/-- `knotPass`. -/
theorem knotPass (port : Fin 32) : Statement (.knotPass port) := nofun
/-- `knotStep`. -/
theorem knotStep (port : Fin 32) : Statement (.knotStep port) := nofun
/-- `checkpointDue`. -/
theorem checkpointDue : Statement (.checkpointDue) := nofun
/-- `holdAccrualPass`. -/
theorem holdAccrualPass : Statement (.holdAccrualPass) := nofun
/-- `bistInit`. -/
theorem bistInit : Statement (.bistInit) := nofun
/-- `bistInitEnd`. -/
theorem bistInitEnd : Statement (.bistInitEnd) := nofun
/-- `bistCheck`. -/
theorem bistCheck : Statement (.bistCheck) := nofun
/-- `bistCheckEnd`. -/
theorem bistCheckEnd : Statement (.bistCheckEnd) := nofun
/-- `bistRecover`. -/
theorem bistRecover : Statement (.bistRecover) := nofun
/-- `bistDiscard`. -/
theorem bistDiscard : Statement (.bistDiscard) := nofun
/-- `driveChannelTake`. -/
theorem driveChannelTake (port : Fin 32) : Statement (.driveChannelTake port) := nofun
/-- `passStart`. -/
theorem passStart (port : Fin 32) (channel : Fin 2) (check : Check) (bad : List (Nat × Nat)) : Statement (.passStart port channel check bad) := nofun
/-- `phaseDone`. -/
theorem phaseDone (port : Fin 32) : Statement (.phaseDone port) := nofun
/-- `passRecovery`. -/
theorem passRecovery (port : Fin 32) (hop : Fin 129) : Statement (.passRecovery port hop) := nofun
/-- `internalRequestStart`. -/
theorem internalRequestStart (check : Check) (bad : List (Nat × Nat)) : Statement (.internalRequestStart check bad) := nofun
/-- `resEnable`. -/
theorem resEnable (value : Nat) : Statement (.resEnable value) := nofun
/-- `resDisable`. -/
theorem resDisable (value : Nat) : Statement (.resDisable value) := nofun
/-- `governorLaneWake`. -/
theorem governorLaneWake (port : Fin 32) : Statement (.governorLaneWake port) := nofun
/-- `blockDropDeadline`. -/
theorem blockDropDeadline (port : Fin 32) : Statement (.blockDropDeadline port) := nofun
/-- `portEnable`. -/
theorem portEnable (port : Fin 32) (value : Nat) : Statement (.portEnable port value) := nofun
/-- `portDisable`. -/
theorem portDisable (port : Fin 32) (value : Nat) : Statement (.portDisable port value) := nofun
/-- `portRetrain`. -/
theorem portRetrain (port : Fin 32) (value : Nat) : Statement (.portRetrain port value) := nofun
/-- `laneAlign`. -/
theorem laneAlign (port : Fin 32) (lane : Fin 4) (groups : List Nat) : Statement (.laneAlign port lane groups) := nofun
/-- `laneLoss`. -/
theorem laneLoss (port : Fin 32) (lane : Fin 4) (cause : Fin 4) : Statement (.laneLoss port lane cause) := nofun
/-- `portTimeout`. -/
theorem portTimeout (port : Fin 32) : Statement (.portTimeout port) := nofun
/-- `almReceive`. -/
theorem almReceive (port : Fin 32) (hop mask check : Nat) : Statement (.almReceive port hop mask check) := nofun
/-- `splitTimeout`. -/
theorem splitTimeout (port : Fin 32) : Statement (.splitTimeout port) := nofun
/-- `peiReceive`. -/
theorem peiReceive (port : Fin 32) : Statement (.peiReceive port) := nofun
/-- `portIdleTimeout`. -/
theorem portIdleTimeout (port : Fin 32) : Statement (.portIdleTimeout port) := nofun
/-- `prbsGen`. -/
theorem prbsGen (port : Fin 32) (lane : Fin 4) (value : Nat) : Statement (.prbsGen port lane value) := nofun
/-- `prbsCheck`. -/
theorem prbsCheck (port : Fin 32) (lane : Fin 4) (value : Nat) : Statement (.prbsCheck port lane value) := nofun
/-- `laneInject`. -/
theorem laneInject (port : Fin 32) (lane : Fin 4) (interval : Nat) : Statement (.laneInject port lane interval) := nofun
/-- `laneInjection`. -/
theorem laneInjection (port : Fin 32) (lane : Fin 4) : Statement (.laneInjection port lane) := nofun
/-- `portCntClear`. -/
theorem portCntClear (port : Fin 32) : Statement (.portCntClear port) := nofun
/-- `linkFrameFill`. -/
theorem linkFrameFill (port : Fin 32) (lanes : Fin 16) : Statement (.linkFrameFill port lanes) := nofun
/-- `linkFrameReceive`. -/
theorem linkFrameReceive (port : Fin 32) (lane : Fin 4) (groups : List Nat) : Statement (.linkFrameReceive port lane groups) := nofun
/-- `rspReceive`. -/
theorem rspReceive (port : Fin 32) : Statement (.rspReceive port) := nofun
/-- `telReceive`. -/
theorem telReceive (port : Fin 32) : Statement (.telReceive port) := nofun
/-- `tileSilent`. -/
theorem tileSilent (port : Fin 32) (hop : Fin 129) : Statement (.tileSilent port hop) := nofun
/-- `enumStart`. -/
theorem enumStart (port : Fin 32) : Statement (.enumStart port) := nofun
/-- `configTimeout`. -/
theorem configTimeout (port : Fin 32) : Statement (.configTimeout port) := nofun
/-- `clvResend`. -/
theorem clvResend (port : Fin 32) : Statement (.clvResend port) := nofun
/-- `dscResend`. -/
theorem dscResend (port : Fin 32) : Statement (.dscResend port) := nofun
/-- `alertPoint`. -/
theorem alertPoint (pipe : Fin 40) : Statement (.alertPoint pipe) := nofun
/-- `alertSweepEnd`. -/
theorem alertSweepEnd (pipe : Fin 40) : Statement (.alertSweepEnd pipe) := nofun
/-- `powerReqWrite`. -/
theorem powerReqWrite (value : Nat) : Statement (.powerReqWrite value) := nofun
/-- `selfrefIdleReached`. -/
theorem selfrefIdleReached : Statement (.selfrefIdleReached) := nofun
/-- `holdRetention`. -/
theorem holdRetention : Statement (.holdRetention) := nofun
/-- `powerLtrWrite`. -/
theorem powerLtrWrite (value : Nat) : Statement (.powerLtrWrite value) := nofun
/-- `keepEntry`. -/
theorem keepEntry : Statement (.keepEntry) := nofun
/-- `powerFail`. -/
theorem powerFail (vhold : Nat) : Statement (.powerFail vhold) := nofun
/-- `avsAck`. -/
theorem avsAck (mv : Nat) : Statement (.avsAck mv) := nofun
/-- `avsTimeout`. -/
theorem avsTimeout : Statement (.avsTimeout) := nofun
/-- `wakeEnd`. -/
theorem wakeEnd : Statement (.wakeEnd) := nofun
/-- `servicePeriodStart`. -/
theorem servicePeriodStart : Statement (.servicePeriodStart) := nofun
/-- `servicePeriodEnd`. -/
theorem servicePeriodEnd : Statement (.servicePeriodEnd) := nofun
/-- `telemetryPoll`. -/
theorem telemetryPoll : Statement (.telemetryPoll) := nofun
/-- `telemetryPollEnd`. -/
theorem telemetryPollEnd : Statement (.telemetryPollEnd) := nofun
/-- `timeclkAbsent`. -/
theorem timeclkAbsent : Statement (.timeclkAbsent) := nofun
/-- `keepGenlockLoss`. -/
theorem keepGenlockLoss : Statement (.keepGenlockLoss) := nofun
/-- `timeAlarm`. -/
theorem timeAlarm (dt : Nat) : Statement (.timeAlarm dt) := nofun
/-- `nvsCmdRead`. -/
theorem nvsCmdRead (value : Nat) : Statement (.nvsCmdRead value) := nofun
/-- `nvsCmdWrite`. -/
theorem nvsCmdWrite (value : Nat) : Statement (.nvsCmdWrite value) := nofun
/-- `nvsCmdSave`. -/
theorem nvsCmdSave (value : Nat) : Statement (.nvsCmdSave value) := nofun
/-- `setPassword`. -/
theorem setPassword (value : Nat) : Statement (.setPassword value) := nofun
/-- `nvsReadEnd`. -/
theorem nvsReadEnd : Statement (.nvsReadEnd) := nofun
/-- `nvsPageWriteEnd`. -/
theorem nvsPageWriteEnd (firstFails secondFails : Bool) : Statement (.nvsPageWriteEnd firstFails secondFails) := nofun
/-- `nvsSaveEnd`. -/
theorem nvsSaveEnd : Statement (.nvsSaveEnd) := nofun
/-- `capMeasure`. -/
theorem capMeasure : Statement (.capMeasure) := nofun
/-- `capMeasureEnd`. -/
theorem capMeasureEnd (vhold fall : Nat) : Statement (.capMeasureEnd vhold fall) := nofun
/-- `logAppendRetry`. -/
theorem logAppendRetry : Statement (.logAppendRetry) := nofun
/-- `engineTakeoverEnd`. -/
theorem engineTakeoverEnd (engine : Fin 72) : Statement (.engineTakeoverEnd engine) := nofun
/-- `pipeTakeoverEnd`. -/
theorem pipeTakeoverEnd (span : Fin 8) : Statement (.pipeTakeoverEnd span) := nofun
/-- `channelLost`. -/
theorem channelLost (channel : Fin 16) : Statement (.channelLost channel) := nofun
/-- `engineWatchdog`. -/
theorem engineWatchdog (engine : Fin 72) : Statement (.engineWatchdog engine) := nofun
/-- `faultForce`. -/
theorem faultForce (unit : Fin 182) (bits : Nat) : Statement (.faultForce unit bits) := nofun
/-- `faultEnableWrite`. -/
theorem faultEnableWrite (unit : Fin 182) (value : Nat) : Statement (.faultEnableWrite unit value) := nofun
/-- `cloveResume`. -/
theorem cloveResume : Statement (.cloveResume) := nofun
/-- `holdSelfTestEnd`. -/
theorem holdSelfTestEnd (fails : List TestFail) : Statement (.holdSelfTestEnd fails) := nofun
/-- `class4Promotion`. -/
theorem class4Promotion (channel : Fin 16) : Statement (.class4Promotion channel) := nofun
/-- `powerOnReset`. -/
theorem powerOnReset : Statement (.powerOnReset) := nofun
/-- `powerOnResetRelease`. -/
theorem powerOnResetRelease : Statement (.powerOnResetRelease) := nofun
/-- `startupPhase`. -/
theorem startupPhase (e : PhaseEnd) : Statement (.startupPhase e) := nofun
/-- `trimStep`. -/
theorem trimStep : Statement (.trimStep) := nofun
/-- `linkTrainingStart`. -/
theorem linkTrainingStart (speed width : Nat) (reversed : Bool) : Statement (.linkTrainingStart speed width reversed) := nofun
/-- `pcieReset`. -/
theorem pcieReset : Statement (.pcieReset) := nofun
/-- `functionLevelReset`. -/
theorem functionLevelReset : Statement (.functionLevelReset) := nofun
/-- `fuseReload`. -/
theorem fuseReload : Statement (.fuseReload) := nofun
/-- `fuseReloadEnd`. -/
theorem fuseReloadEnd (reads : List (Nat × Nat)) : Statement (.fuseReloadEnd reads) := nofun
/-- `memoryInitialise`. -/
theorem memoryInitialise : Statement (.memoryInitialise) := nofun
/-- `memoryInitialiseEnd`. -/
theorem memoryInitialiseEnd : Statement (.memoryInitialiseEnd) := nofun
/-- `sysclkLoss`. -/
theorem sysclkLoss : Statement (.sysclkLoss) := nofun
/-- `jtagInstruction`. -/
theorem jtagInstruction (i : JtagInstr) : Statement (.jtagInstruction i) := nofun
/-- `bar0Read`. -/
theorem bar0Read (req : Req) : Statement (.bar0Read req) := by
  intro h r e
  simp only [request, Option.some.injEq] at e
  subst e
  simp only [Instr.wf] at h
  exact of_req _ h
/-- `configurationWrite`. -/
theorem configurationWrite (w : ConfigWrite) : Statement (.configurationWrite w) := nofun
/-- `pcieLinkDown`. -/
theorem pcieLinkDown : Statement (.pcieLinkDown) := nofun
/-- `laneAlignmentLoss`. -/
theorem laneAlignmentLoss (port : Fin 32) (lane : Fin 4) (groups : List Nat) : Statement (.laneAlignmentLoss port lane groups) := nofun
/-- `checkerSync`. -/
theorem checkerSync (port : Fin 32) (lane : Fin 4) (bits : List Bool) : Statement (.checkerSync port lane bits) := nofun
/-- `checkerSyncLoss`. -/
theorem checkerSyncLoss (port : Fin 32) (lane : Fin 4) (bits : List Bool) : Statement (.checkerSyncLoss port lane bits) := nofun
/-- `receivedElectricalIdle`. -/
theorem receivedElectricalIdle (port : Fin 32) (lane : Fin 4) : Statement (.receivedElectricalIdle port lane) := nofun
/-- `voltageRaiseRetry`. -/
theorem voltageRaiseRetry : Statement (.voltageRaiseRetry) := nofun
/-- `resumeSynRepeat`. -/
theorem resumeSynRepeat (port : Fin 32) : Statement (.resumeSynRepeat port) := nofun
/-- `memoryScrub`. -/
theorem memoryScrub (channel : Fin 16) (row : Nat) (check : Check) : Statement (.memoryScrub channel row check) := nofun
/-- `ckTransmitterFail`. -/
theorem ckTransmitterFail (port : Fin 32) : Statement (.ckTransmitterFail port) := nofun

end Sys2Proof.Laws.Wf
end

