-- ==== Sys2Proof/Laws/Reads.lean ====
section
/-!
SUPPORT. What reads back after each named update of State: the value written where it was written, and the old value
everywhere else.
-/

namespace Sys2Proof.Machine

variable (s : State)

@[simp] theorem State.rd_wr (r : Reg) (v : Nat) : (s.wr r v).rd r = v % 2 ^ 32 := by simp [State.rd, State.wr, word]
@[simp] theorem State.rd_wr_ne (r q : Reg) (v : Nat) (h : q.addr ≠ r.addr) : (s.wr r v).rd q = s.rd q := by
  simp [State.rd, State.wr, h]
@[simp] theorem State.wk_setWk (r : Reg) (v : Nat) : (State.setWk r v s).wk r = v % 2 ^ 32 := by
  simp [State.wk, State.setWk, word]
@[simp] theorem State.held_setHeld (r : Reg) (v : Nat) : (s.setHeld r v).held r = v % 2 ^ 32 := by
  simp [State.held, State.setHeld, word]
@[simp] theorem State.byte_puts_out (a b : Nat) (l : List Nat) (h : b < a ∨ a + l.length ≤ b) : (s.puts a l).byte b = s.byte b :=
  Mem.byte_puts_out l a b s.mem h
@[simp] theorem State.fault_setFault (k : Nat) (v : FaultUnit) : (s.setFault k v).fault k = v := by simp [State.fault, State.setFault]
@[simp] theorem State.fault_setFault_ne (k j : Nat) (v : FaultUnit) (h : j ≠ k) : (s.setFault k v).fault j = s.fault j := by
  simp [State.fault, State.setFault, h]
@[simp] theorem State.ring_modRing (k : Nat) (g : Ring → Ring) : (s.modRing k g).ring k = g (s.ring k) := by simp [State.ring, State.modRing, State.setRing]
@[simp] theorem State.ring_modRing_ne (k j : Nat) (g : Ring → Ring) (h : j ≠ k) : (s.modRing k g).ring j = s.ring j := by
  simp [State.ring, State.modRing, State.setRing, h]
@[simp] theorem State.engine_modEngine (k : Nat) (g : Engine → Engine) : (s.modEngine k g).engine k = g (s.engine k) := by simp [State.engine, State.modEngine, State.setEngine]
@[simp] theorem State.engine_modEngine_ne (k j : Nat) (g : Engine → Engine) (h : j ≠ k) : (s.modEngine k g).engine j = s.engine j := by
  simp [State.engine, State.modEngine, State.setEngine, h]
@[simp] theorem State.span_modSpan (k : Nat) (g : Span → Span) : (s.modSpan k g).span k = g (s.span k) := by simp [State.span, State.modSpan, State.setSpan]
@[simp] theorem State.span_modSpan_ne (k j : Nat) (g : Span → Span) (h : j ≠ k) : (s.modSpan k g).span j = s.span j := by
  simp [State.span, State.modSpan, State.setSpan, h]
@[simp] theorem State.port_modPort (k : Nat) (g : Port → Port) : (s.modPort k g).port k = g (s.port k) := by simp [State.port, State.modPort, State.setPort]
@[simp] theorem State.port_modPort_ne (k j : Nat) (g : Port → Port) (h : j ≠ k) : (s.modPort k g).port j = s.port j := by
  simp [State.port, State.modPort, State.setPort, h]
@[simp] theorem State.pipe_modPipe (k : Nat) (g : Pipe → Pipe) : (s.modPipe k g).pipe k = g (s.pipe k) := by simp [State.pipe, State.modPipe]
@[simp] theorem State.pipe_modPipe_ne (k j : Nat) (g : Pipe → Pipe) (h : j ≠ k) : (s.modPipe k g).pipe j = s.pipe j := by
  simp [State.pipe, State.modPipe, h]
@[simp] theorem State.codec_modCodec (k : Nat) (g : Codec → Codec) : (s.modCodec k g).codec k = g (s.codec k) := by simp [State.codec, State.modCodec]
@[simp] theorem State.codec_modCodec_ne (k j : Nat) (g : Codec → Codec) (h : j ≠ k) : (s.modCodec k g).codec j = s.codec j := by
  simp [State.codec, State.modCodec, h]
@[simp] theorem State.drive_modDrive (k : Nat) (g : Drive → Drive) : (s.modDrive k g).drive k = g (s.drive k) := by simp [State.drive, State.modDrive]
@[simp] theorem State.drive_modDrive_ne (k j : Nat) (g : Drive → Drive) (h : j ≠ k) : (s.modDrive k g).drive j = s.drive j := by
  simp [State.drive, State.modDrive, h]
@[simp] theorem State.cell_modCell (k : Nat) (g : ResCell → ResCell) : (s.modCell k g).cell k = g (s.cell k) := by simp [State.cell, State.modCell]
@[simp] theorem State.cell_modCell_ne (k j : Nat) (g : ResCell → ResCell) (h : j ≠ k) : (s.modCell k g).cell j = s.cell j := by
  simp [State.cell, State.modCell, h]
@[simp] theorem State.update_setUpdate (k : Nat) (v : Option Update) : (s.setUpdate k v).update k = v := by simp [State.update, State.setUpdate]
@[simp] theorem State.update_setUpdate_ne (k j : Nat) (v : Option Update) (h : j ≠ k) : (s.setUpdate k v).update j = s.update j := by
  simp [State.update, State.setUpdate, h]
@[simp] theorem State.flight_setFlight (k : Nat) (v : Option Internal) : (s.setFlight k v).flight k = v := by simp [State.flight, State.setFlight]
@[simp] theorem State.flight_setFlight_ne (k j : Nat) (v : Option Internal) (h : j ≠ k) : (s.setFlight k v).flight j = s.flight j := by
  simp [State.flight, State.setFlight, h]
@[simp] theorem State.hop_modHop (p h : Nat) (g : Hop → Hop) : (s.modHop p h g).hop p h = g (s.hop p h) := by
  simp [State.hop, State.modHop]
@[simp] theorem State.lane_modLane (p l : Nat) (g : Lane → Lane) : (s.modLane p l g).lane p l = g (s.lane p l) := by
  simp [State.lane, State.modLane]

end Sys2Proof.Machine
end

