-- ==== Sys2Proof/Laws/StartUp.lean ====
section
/-!
SUPPORT. Laws of the fuse trims: a field that has taken its fused code holds it, and when every one has, no step is left.
-/

namespace Sys2Proof.Machine

/-- Every selection and trim in its fused state. -/
def settleTrims (s : State) : State := forEach s.trims (fun t st => applyCode t.1 t.2.1 t.2.2.1 st) s

/-- The fuse words, and so the list of trims, do not depend on what has been applied. -/
theorem applyCodes_words (l : List (Nat × Nat × Nat × Bool)) (s : State) :
    (forEach l (fun t st => applyCode t.1 t.2.1 t.2.2.1 st) s).fuse.words = s.fuse.words := by
  induction l generalizing s with
  | nil => rfl
  | cons a r ih => exact (ih _).trans rfl

/-- A field whose number is not in the list keeps its code. -/
theorem applyCodes_other (l : List (Nat × Nat × Nat × Bool)) (s : State) (k reset : Nat) (h : k ∉ l.map (·.1)) :
    (forEach l (fun t st => applyCode t.1 t.2.1 t.2.2.1 st) s).appliedCode k reset = s.appliedCode k reset := by
  induction l generalizing s with
  | nil => rfl
  | cons a r ih =>
    simp only [List.map_cons, List.mem_cons, not_or] at h
    exact (ih _ h.2).trans (Tab.get_put_ne _ _ _ _ _ _ h.1)

/-- Every field of the list holds its fused code. -/
theorem applyCodes_same (l : List (Nat × Nat × Nat × Bool)) (s : State) (h : (l.map (·.1)).Nodup) :
    ∀ x ∈ l, (forEach l (fun t st => applyCode t.1 t.2.1 t.2.2.1 st) s).appliedCode x.1 x.2.1 = x.2.2.1 := by
  induction l generalizing s with
  | nil => simp
  | cons a r ih =>
    simp only [List.map_cons, List.nodup_cons] at h
    intro x hx
    rcases List.mem_cons.1 hx with rfl | hr
    · exact (applyCodes_other r _ _ _ h.1).trans (Tab.get_put_same _ _ _ _)
    · exact ih _ h.2 x hr

/-- The field numbers of the trims are all different. -/
theorem trims_nodup (s : State) : (s.trims.map (·.1)).Nodup := by
  simp only [State.trims, List.map_map]
  have e : ∀ l : List (Nat × Nat × Bool),
      l.zipIdx.map ((fun x => x.1) ∘ fun x : (Nat × Nat × Bool) × Nat => (x.2, x.1.1, x.1.2.1, x.1.2.2)) =
        List.range l.length := by
    intro l
    rw [List.range_eq_range']
    exact List.zipIdx_map_snd 0 l
  rw [e]
  exact List.nodup_range

/-- Applying codes leaves the phase. -/
theorem settleTrims_glob (s : State) : (settleTrims s).glob = s.glob := by
  have h : ∀ (l : List (Nat × Nat × Nat × Bool)) (u : State),
      (forEach l (fun t st => applyCode t.1 t.2.1 t.2.2.1 st) u).glob = u.glob := by
    intro l
    induction l with
    | nil => exact fun _ => rfl
    | cons a r ih => exact fun u => (ih _).trans rfl
  exact h s.trims s

/-- With every field in its fused state no step is left. -/
theorem settleTrims_steps (s : State) : (settleTrims s).trimSteps = 0 := by
  have hw : (settleTrims s).trims = s.trims := by
    have e : ∀ u : State, u.trims = State.trims { fuse := { words := u.fuse.words } } := fun _ => rfl
    rw [e, e s]
    exact congrArg (fun w => State.trims { fuse := { words := w } }) (applyCodes_words s.trims s)
  have hc := applyCodes_same s.trims s (trims_nodup s)
  have z : ∀ (l : List (Nat × Nat × Nat × Bool)) (a : Nat), (∀ x ∈ l, (settleTrims s).appliedCode x.1 x.2.1 = x.2.2.1) →
      l.foldl (fun a t =>
        a + if t.2.2.2 then max ((settleTrims s).appliedCode t.1 t.2.1) t.2.2.1 - min ((settleTrims s).appliedCode t.1 t.2.1) t.2.2.1
          else b2n ((settleTrims s).appliedCode t.1 t.2.1 != t.2.2.1)) a = a := by
    intro l
    induction l with
    | nil => intros; rfl
    | cons x r ih =>
      intro a h
      have hx := h x (List.mem_cons_self ..)
      simp only [List.foldl_cons, hx]
      rw [ih _ fun y hy => h y (List.mem_cons_of_mem _ hy)]
      simp [b2n]
  simpa only [State.trimSteps, hw] using z s.trims 0 hc

end Sys2Proof.Machine
end

