-- ==== Sys2Proof/Tests/Slice0.lean ====
section
/-!
SUPPORT. Tests: ill-formed commands are refused; results that the spec's worked examples state; and, for every statement with
hypotheses, states and operands that meet them (met_<statement>, one part for each of its clauses).
-/

set_option maxRecDepth 4000

namespace Sys2Proof.Tests

open Sys2Proof.Machine

/-! ### States -/

/-- Start-up complete, in Run, with 16 GiB trained and the voltage at its run value. -/
def up : State :=
  { glob := { phase := 8, ready := true }, time := { running := true },
    host := { perstHigh := true, training := true, linkUp := true }, faultg := { alive := true }, nvs := { scanned := true },
    power := { confirmedMv := 800, rampTo := 800 }, fuse := { readDone := true, trimsDone := true, runMv := 800, retMv := 600 },
    memc := { fittedGiB := 16, trained := true, channelsOk := 0xFFFF, initDone := true } }

/-- `up` with submission ring 0 of class c, span 0, and its completion ring 1, of 16 entries each. -/
def ringUp (c : Nat) : State :=
  (((up.wr (.ringCfg 0) (4 * c + 64 + 65536)).wr (.ringCtl 0) 1).wr (.ringCfg 1) 65).wr (.ringCtl 1) 1
    |>.setRing 0 { armed := true } |>.setRing 1 { phase := true, armed := true }

/-- A descriptor of opcode op and TAG 7 whose later words are l. -/
def desc (op : Nat) (l : List Nat) : List Nat := [op + 7 * 65536, 0] ++ (l ++ List.replicate 16 0).take 14

/-- The command of slot 0 of ring 0, with a descriptor, as fetched and as started. -/
def jobOf (d : List Nat) : Job := { ring := 0, slot := 0, engine := 4, desc := d, stage := .fetched }
def runOf (d : List Nat) : Job := { jobOf d with stage := .running }

/-- `s` with that command fetched by its engine; started. -/
def holding (d : List Nat) (s : State) : State := s.modEngine 4 fun g => { g with running := true, job := some (jobOf d) }
def started (d : List Nat) (s : State) : State := { s with jobs := s.jobs ++ [runOf d] }

/-- A LAYER_WRITE of two rows of 4 bytes to 0x1000 and 0x1010, the same with NO_PARK, a LAYER_BIND of a surface of 4 × 2 pixels
at 0x1000 to layer 3, and a SURFACE_RETIRE of 32 bytes there. -/
def writeDesc : List Nat := desc 2 [0x2000, 0, 0x1000, 0, 4, 2, 4, 16]
def noParkDesc : List Nat := (2 + 256) :: writeDesc.tail
def bindDesc : List Nat := desc 3 [3, 0, 0x1000, 0, 0x20004, 16]
def retireDesc : List Nat := desc 4 [0, 0, 0x1000, 0, 32, 0]

/-- `s` with layer 3 shown, so that scan-out references 0x1000 to 0x101F. -/
def refer (s : State) : State :=
  State.setWk (.layerCtl 3) 1
    { s with layers := Tab.put {} 3 { addr := 0x1000, w := 4, h := 2, pitch := 16, format := 0, bound := true } s.layers }

/-- Port 0 UP as a FEED port with one enumerated hop. -/
def feedPort : Port :=
  { state := 2, role := 1, partFrom := 1, partLen := 1, depth := 1, found := 1, done := true,
    lanes := [(0, { state := 2 }), (1, { state := 2 }), (3, { state := 2, aligned := true })] }

/-- `ringUp c` with an accepted geometry of one bistable tile of 4 × 4 pixels, the first of port 0's chain, which is UP; its
engines of duties 0 to 7 of span 0 run; its
state map lies at 0x10000, its parities at 0x20000, its stress map at 0x80000, its knots at 0x60000, their targets at 0x40000. -/
def wall (c : Nat) : State :=
  { ((((((((ringUp c).wr .bistStateBaseLo 0x10000).wr .bistParityBaseLo 0x20000).wr .scanWallSize 0x40004).wr
      .ageStressBaseLo 0x80000).wr .bistCtl 1).wr .ageTargetBaseLo 0x40000).wr .emitKnotBaseLo 0x60000).wr .scanGeomRate 6000 with
    geom := { valid := true, copied := true, width := 4, height := 4, tiles := [(0, { seed := 1, matrix := 2 })],
              families := [(0, { valid := true, bistable := true, tileW := 4, tileH := 4 })], chains := [(0, { tiles := 1 })],
              familyBase := 0x30000, tileBase := 0x31000 }
    ports := [(0, feedPort)]
    hops := [(1, { present := true, configured := true, telValid := true, temp := 25 })]
    engines := (List.range 8).map fun k => (k, { running := true })
    age.mapReady := true
    bist := { tablesValid := true, stateReady := true,
              fams := [(0, { params := List.replicate 11 0 ++ [0x03020100, 0x07060504, 0x03020100, 0x07060504, 0x03020100, 0x07060504],
                             vops := List.replicate 16 3000, schedules := List.replicate 16 [1, 2, 0] })] } }

/-- A load of a pipe. -/
def aLoad : Load :=
  { mem := [], capacity := up.capacity, matrixBase := 0x90000, knotBase := 0xA0000, deltaBase := 0xB0000, emitCtl := 0, peak := 1000 }

/-- `wall` with scan-out RUNNING and pipe 0's window open. -/
def window (c : Nat) : State :=
  { wall c with
    scan := { state := .running, locked := true, windowOpen := true, frame := 3, show_ := 2 }
    spans := [(0, { running := true })]
    pipes := [(0, { load := some aLoad, opened := true, todo := [(0, 0), (0, 1)], frame := 3, fill := 100 })] }

/-- `window` with an idle spare in span 0. -/
def engines : State := window 1

/-- `wall` with port 0 changed. -/
def portIs (g : Port → Port) : State := (wall 1).modPort 0 g

/-- The wall's chain looped to port 1, a RETURN port that is UP and has lost its clock. -/
def looped : State :=
  { wall 1 with
    geom := { (wall 1).geom with chains := [(0, { tiles := 1, looped := true })] }
    ports := [(0, feedPort), (1, { state := 2, role := 2, ckLost := true, depth := 1, lanes := [(0, { state := 2, aligned := true })] })] }

/-- A packet in the receive queue of port 0. -/
def arrived (x : Packet) (s : State) : State := s.modPort 0 fun q => { q with rx := [x] }
/-- `s` once port 0 has taken its packet of a type. -/
def takenRx (type : Nat) (s : State) : State := (takeRx 0 type s).elim {} (·.2)

/-- `wall` in Hold, and in Keep. -/
def held : State := { wall 1 with power.state := .hold, scan.state := .held }
def kept : State := { wall 1 with power.state := .keep, power.coreOff := true, time.running := false }

/-- After reset, with start-up in phase k. -/
def phaseAt (k : Nat) : State := { State.reset with glob.phase := k }

/-! ### A state for every statement's hypotheses -/

def wPending : State := { up with pending := [.nop 0, .accErrLogClear] }
def wBusyLog : State :=
  { up with glob.busy := true
            host.accErr := some { kind := 1, hdr := { write := true, bar := 0, offset := 0, lenDw := 1, fbe := 15, lbe := 0 } } }
def wLogCleared : State := { wBusyLog with host := { wBusyLog.host with accErr := none, accErrCount := 0 } }
def wUnlocked : State := { up with glob.unlocked := true }
def aReq : Req := { offset := 8, lenDw := 2, fbe := 14, lbe := 7 }
def wByte : State := { up with mem := [(9, 5)] }
def wMemInit : State := { up with glob.busy := true, glob.op := 5, memc.initialising := true }
def wMemLost : State := { up with memLost := true, faultg.fatal := true }
def wVectorWaits : State := { up with host.msixEnable := true, host.pba := [(2047, true)] }
def wAgeClear : State := { up.wr .ageCtl (60 * 65536 + 2) with geom.valid := true }
def wRecord : State := { wall 1 with bist.recUpdates := [{ slot := 0, cx := 0, cy := 0, cw := 1, ch := 1, addr := 0, pitch := 3 }] }
def wDownPort : State := { wall 1 with ports := [] }
def wEventRing : State := (ringUp 1).setRing 1 { hw := 14, sw := 2, phase := true }
def wRing8191 : State := up.wr (.ringCfg 8191) 65
def wDisable : State :=
  { ringUp 1 with jobs := [runOf writeDesc, { jobOf bindDesc with stage := .binding, slot := 1 },
                           { jobOf (desc 1 []) with stage := .fence false, slot := 2 }] }
def wDisableCq : State := (ringUp 1).wr (.ringCtl 0) 0
def wTail : State := ((ringUp 0).modRing 0 fun r => { r with seen := 3 }).modEngine 4 fun g => { g with running := true }
def wFetch : State := (ringUp 1).modEngine 4 fun g => { g with running := true, fetch := some (0, 0) }
def wFetched : State :=
  ((wFetch.modEngine 4 fun g => { g with fetch := none }).journal 4
    (.fetched 0 0 (wFetch.engine 4).last0 (wFetch.engine 4).last (wFetch.engine 4).grants)).modRing 0 fun r =>
    { r with hw := (0 + 1) % wFetch.ringSize 0, rung := r.rung.filter fun b => b.1 != 0 }
def farDesc : List Nat := desc 2 [0, 0, 0, 4, 16, 1, 16, 16]
def wFence : State := holding (desc 1 []) { ringUp 1 with jobs := [{ runOf (desc 0 []) with slot := 9 }] }
def wParked : State :=
  holding writeDesc { refer (ringUp 1) with
    jobs := (List.range 64).map fun i => { jobOf writeDesc with slot := i + 1, stage := .parked } }
def aBind : Job := { jobOf bindDesc with stage := .binding, slot := 9 }
def wBinding : State := holding bindDesc { ringUp 1 with scan.state := .running, jobs := [aBind] }
/-- A LAYER_WRITE parked for a surface that is still shown, and a SURFACE_RETIRE of bytes that are not. -/
def farRetire : List Nat := desc 4 [0, 0, 0x5000, 0, 32, 0]
def wRetireParked : State :=
  holding farRetire { refer (ringUp 1) with jobs := [{ jobOf writeDesc with slot := 1, stage := .parked }] }
def wFetchOff : State := wFetch.wr (.ringCtl 0) 0
def latchDesc : List Nat := (1 + 256) :: (desc 1 []).tail
def wFenceLatch : State := holding latchDesc { ringUp 1 with scan.state := .running }
def flushDesc : List Nat := desc 5 [0xFFFFFFFF]
def wFlush : State :=
  (holding flushDesc (wall 1)).modCodec 0 fun c =>
    { c with open_ := some { hop := 1, tile := 0, width := 4, row := 0, col := 0, depth := 0, frame := 1, codes := [1, 2, 3], prev := [0, 0, 0] } }
def cmdDesc (hop : Nat) : List Nat := desc 7 [hop * 256, 4 + 8 * 65536, 0x3000, 0, 0x4000]
def aCmd : Cmd := { hop := 1, tag := 3, payload := [1], owner := .tile 0 0, sent := true }
def wAsked : State := started (cmdDesc 1) (portIs fun q => { q with cmds := [aCmd] })
def ownAsk : Cmd := { hop := 1, tag := 200, payload := [3, 0, 1, 0, 0, 0, 0], owner := .spare, sent := true }
def wAskedOwn : State := portIs fun q => { q with cmds := [ownAsk] }
def updDesc (w h : Nat) : List Nat := desc 6 [0, w + h * 65536, 0x50000, 0, 3 * w]
def wSlotsFull : State :=
  { holding (updDesc 1 1) (wall 2) with
    bist.updates := (List.range 64).map fun k => (k, some { ring := 5, slot := k, cx := 0, cy := 0, cw := 1, ch := 1, addr := 0, pitch := 3 }) }
def wUpdate : State := holding (updDesc 1 1) { wall 2 with mem := [(0x50001, 200)] }
def ckptDesc : List Nat := desc 8 [0x9000, 0, 4096]
def restoreDesc : List Nat := desc 9 [0x9000, 0, 4096]
def aFile : List Nat := checkpointBytes { wall 1 with mem := [(0x80000, 3)] } 5
def wRestored : State := (started restoreDesc (wall 1)).wr .ageCtl 2
def powerDesc (t : Nat) : List Nat := desc 10 [t]
def wRunning : State := { wall 1 with scan.state := .running }
def store : State :=
  (({ ringUp 1 with nvs := { (ringUp 1).nvs with capUf := 10000, vhold := 5000 } } : State).wr .nvsRange (8 * 65536)).wr (.nvsBuf 0) 0x04030201
def nvsDesc (op part pass : Nat) : List Nat := desc op [part, 8 * 65536, pass, 0, 0x7000]
def storeOpen : State := { store with glob.unlocked := true }
def wReading : State := { store with nvs.current := some (.regRead 1 0 4 8) }
def wUnreadable : State := { wReading with nvs.pages := [(16, { part := 1, lpage := 0, seq := 1, dcrc := 2 ^ 32 })] }
def wWriting : State := { store with nvs.current := some (.regWrite 1 0 0 8) }
def wSaving : State := { store with nvs.current := some .regSave, nvs.keepCopy := some (saveValues store) }
def wRetry : State := { store with nvs.queue := [.append 3 77 [1, 2, 3]], nvs.retry := true }
def wMeasuring : State := { up with nvs.measuring := true }
def showDesc : List Nat := desc 16 [128 * 256, 1 + 65536, 0x70000, 0, 0x20002, 16]
def anAlert : AlertSurf := { surf := descSurface showDesc 2, alpha := 128, x := 1, y := 1 }
def clearDesc : List Nat := desc 17 []
def wShow : State := holding showDesc (wall 0)
def wShowRunning : State := holding showDesc (window 0)
def wNoAlert : State := holding clearDesc (wall 0)
def wAlert : State := holding clearDesc { wall 0 with alert.work := some anAlert }
def wAlertPoint : State :=
  { window 0 with
    alert := { work := some anAlert, cmd := some { ring := 0, slot := 0, since := 0 } }
    pipes := [(0, { load := some aLoad, opened := true, todo := [(0, 1)], frame := 3, waiting := some [⟨1, 1, 2, 2⟩] })] }
def wMidSegment : State := wAlertPoint.modPipe 0 fun q => { q with col := 2 }
def wShowHeld : State := holding showDesc { wall 0 with scan.state := .held }
def anOldShow : Job := { runOf showDesc with slot := 5 }
def wReplacing : State :=
  holding showDesc { window 0 with alert := { work := some anAlert, cmd := some { ring := 0, slot := 5, since := 0 } }, jobs := [anOldShow] }
def wSweep : State :=
  { started showDesc (window 0) with
    alert := { work := some anAlert, cmd := some { ring := 0, slot := 0, since := 0 }, await := [0] }
    pipes := [(0, { load := some aLoad, opened := true, frame := 3, sweep := some [⟨1, 1, 2, 2⟩], yielded := true })] }
def wSweepQueue : State := wSweep.modPort 0 fun q => { q with txAlr := [[1, 2]] }
def wLocked : State := { wall 1 with scan.locked := true }
def wAcquiring : State := { wall 1 with scan.state := .acquiring }
def wResOn : State := (wall 1).wr .resCtl 1
def wScanSet : State := (wall 1).wr .scanBackground 5
def wLatch : State :=
  { (window 1).wr .layerCommit 1 with
    scan := { (window 1).scan with next := .latch, commitLayer := true }
    jobs := [{ jobOf bindDesc with stage := .binding }], emitter.pending := true }
def wStopping : State := { window 1 with scan := { (window 1).scan with next := .latch, state := .stopping } }
def wClosed (x : ScanState) : State := { window 1 with scan := { (window 1).scan with next := .frameStart, state := x, closed := true, windowOpen := false } }
def wGenlock (r : Option Nat) (n : Nat) : State :=
  { wall 1 with scan := { state := .acquiring, reference := r, inRange := n, windowFrom := 333433 }, time := { running := true, count := 20000000 } }
def wGenlockHeld (n : Nat) : State :=
  { window 1 with scan := { (window 1).scan with outRange := n, slips := 255 }, time := { running := true, count := 20000000 } }
def wGenlockLocked (r n : Nat) (again : Bool) : State :=
  let s := wGenlock (some r) 4
  { s with scan := { s.scan with state := .running, locked := true, outRange := n, rephase := again } }
def stoppedClock : State := { wall 1 with time.running := false }
def geomSet : State :=
  { ((((up.wr .scanWallSize 0x400040).wr .scanFamilyBaseLo 0x10000).wr .scanTileTableBaseLo 0x20000).wr (.scanChain 0) 1).wr
      .scanGeomRate 6000 with
    mem := [(0x10000, 1), (0x10004, 64), (0x10006, 64)]
    geom.busy := true, geom.versions := [[(0x10000, 1), (0x10004, 64), (0x10006, 64)]] }
def geomBad : State := { geomSet with mem := [], geom.versions := [[]] }
def gathered : CheckAcc := { tiles := [(0, {})], rects := [⟨0, 0, 64, 64⟩] }
def wClearing : State := { wall 1 with age.clearing := true, mem := [(0x80000, 3), (0x90000, 1)] }
def wKnots : State := engines.wr .ageCtl 2
def wSeeding : State := { wKnots with age.seeding := true, age.seedRestore := true }
def wCheckpoint : State := ((window 1).wr .ageCtl 1).wr .agePeriods 0x10003C
def wAccrual : State := { held with power := { held.power with move := .wake 1 } }
def wAccrualGap : State := { wAccrual.wr .ageCtl 1 with age.heldGap := true }
def wInit : State := { wall 1 with bist.initialising := true, mem := [(0x10000, 3), (0x90000, 4)] }
def wInitPast : State := (wInit.wr .bistParityBaseLo 0xFFFF0000).wr .bistParityBaseHi 3
def wChecking : State := { wall 1 with bist.checking := true }
def anInternal : Internal := { kind := .rerun, cx := 0, cy := 0, cw := 1, ch := 1, addr := 0x50000, pitch := 3 }
def wQueued : State := { wall 1 with bist.queue := [anInternal], bist.flights := [(0, some anInternal)] }
def wFlights : State := { wQueued with bist.flights := (List.range 64).map fun k => (k, some anInternal) }
def wCells : State := { wall 2 with mem := [(0x10003, 2)] }
def wDriving : State := { wall 2 with bist.drives := [(0, { tile := some 0 })] }
def wDrivingCells : State := { wCells with bist.drives := [(0, { tile := some 0 })] }
/-- `wall` where the engine of port 0 does not run. -/
def wStoppedEngine : State := { wall 1 with engines := [] }
def aPass : Pass :=
  { tile := 0, common := 0, alternation := false, parity := false, band := 0, vop := 3000, sent := 2,
    phases := [⟨1, true, 2, [1, 2]⟩, ⟨1, false, 2, [1, 2]⟩, ⟨1, false, 2, [1, 2]⟩], seq0 := 5, segs := [0, 0, 0, 0, 0, 0],
    cells := [{ cx := 0, cy := 0, target := 7, int := true, slot := 0, run := true }], ledgers := [0, 0, 0, 0, 0, 0] }
def phaseEnd (x : List Nat) : Packet := { type := 3, hop := 1, body := x }
def wPass (x : List Nat) : State := arrived (phaseEnd x) { wCells with bist.drives := [(0, { tile := some 0, next := 1, pass := some aPass })] }
def wInterrupted : State := { wCells with bist.interrupted := [aPass] }
def wEnabled : State := (wall 1).wr (.portCtl 0) 1
def wTraining : State := portIs fun q => { q with state := 1, lanes := [], enumAgain := true }
def wHeldPort : State := (portIs fun q => { q with state := 3, lanes := [] }).wr (.portCtl 0) 1
def wSplit : State :=
  (((looped.modPort 0 fun q => { q with split := true, splitHop := 1 }).modPort 1 fun q => { q with split := true, splitHop := 1 }).wr
    (.portCtl 0) 1)
def wPeerIdle : State := looped.modPort 1 fun q => { q with peerIdle := true }
/-- Eight commas with D10.2 between them, as a burst sends them. -/
def commas : List Nat := (encodeGroups false ((burst 20).take 15)).1
def wIdling : State := portIs fun q => { q with state := 6, afterIdle := .held }
def wSynced : State := ((wall 1).wr (.lanePrbsCtl 0 3) 2).modLane 0 3 fun x => { x with sync := true }
def wTest : State := (portIs fun q => { q with state := 4, lanes := [] }).wr (.lanePrbsCtl 0 3) 2
def wChecker : State :=
  (wTest.modLane 0 3 fun x => { x with checker := { got := 7, right := 63 } })
def wPattern : State := ((portIs fun q => { q with state := 4, lanes := [(0, { state := 4, gen := 5 })] }).wr (.lanePrbsCtl 0 0) 1).wr (.laneInject 0 0) 5
def wTestQuiet : State := portIs fun q => { q with state := 4, lanes := [] }
def wInject : State := (wall 1).wr (.laneInject 0 0) 5
def wNvsBusy : State := { wall 1 with nvs.current := some .regSave }
def aFrame : List Nat := frameSymbols 7 { packets := [], fptr := 0xFF, cap := 0 }
def wNextFrame : State := portIs fun q => { q with rxSeq := some 7 }
def wSkipped : State := portIs fun q => { q with rxSeq := some 5 }
def wIdleLane : State := (portIs fun q => { q with idle := 1 }).modCodec 0 fun c => { c with gov := 0x880 }
def rspOf (tag : Nat) : Packet := { type := 5, hop := 1, body := [tag, 9, 8] }
def telOf (hop : Nat) : Packet := { type := 6, hop := hop, body := [0x90, 1, 5, 0, 2, 0x11] }
def wSilent : State := { wall 1 with hops := [(1, { present := true, silent := true })] }
def wResend : State := portIs fun q => { q with clove := true, dsc := true, resumeLeft := 15 }
def wSettled (d : Nat) : State := { portIs (fun q => { q with enum := .settle true, depth := d }) with hops := [(129, { silent := true })] }
def wConfig (n : Nat) : State :=
  portIs fun q => { q with enum := .config 1 n, cmds := [{ hop := 1, tag := 0x80, payload := [], owner := .config, sent := true }] }
def wIdleCount (n : Nat) : State := { (window 1).wr .powerSelfref 0x00020001 with power.idleCount := n }
def wRetention : State :=
  { portIs (fun q => { q with state := 3 }) with power := { (wall 1).power with move := .entry 5 false, confirmedMv := 600, goal := .hold } }
def wKeepEntry : State := { held with power := { held.power with move := .keepEntry, goal := .keep, confirmedMv := 600 } }
def wWake : State := { held with power := { held.power with move := .wake 3, resume := .run } }
def wRamp (mv n : Nat) : State := { wall 1 with power := { (wall 1).power with confirmedMv := mv - 1, avsStep := some mv, avsTries := n } }
def wVoltage : State := { phaseAt 3 with fuse.runMv := 800, power.confirmedMv := 780 }
def wServing : State := { held with power.serving := true, power.confirmedMv := 600 }
def wLow : State := ({ held with power.confirmedMv := 600 } : State).wr .powerWakeEn 4
def wPolled : State := { held with power.poll := some [] }
def keptLost : State := { kept with time.timeclk := false, power.keepLost := true }
def keptEdges (n : Nat) : State := { keptLost with power := { keptLost.power with keepEdges := n } }
def wAlarm (a : Nat) : State := { wall 1 with time := { (wall 1).time with arm := true, alarm := a } }
def wDry : State := wUnlocked.wr .faultgInject 2
def wClove : State := { window 1 with faultg := { (window 1).faultg with clove := true, firstValid := true, firstSource := 3, firstSeverity := 2, firstTime := 9 } }
def wCloveStopped : State := { wall 1 with faultg := wClove.faultg }
def wSelfTest : State := { held with power.selfTest := true }
def aMemReq : MemReq := { channel := 0, cls := 4, group := 8, who := 16 }
def wWaiting : State := { wall 1 with memc.waiting := [{ channel := 0, cls := 3, group := 8, who := 0 }, aMemReq] }
def wLost : State := { wall 1 with memc.channels := [(15, { lost := true })] }
def wTakeover : State :=
  { engines with nvs.current := some .regSave, engines := [(4, { failed := true, takeover := true, fetch := some (0, 3) })],
                 jobs := [runOf (desc 0 [])] }
def wPipeTakeover : State :=
  { engines with nvs.current := some .regSave, spans := [(0, { running := true, pipeTakeover := some 0, pipeFailed := 1 })] }
def wReload : State := { up with fuse.reloading := true, glob.busy := true, glob.op := 4 }
def wReloaded : State := { wReload with fuse.reloading := false }
def wSave : State := { engines with nvs.current := some .powerSave }
def wStored : State := { started (desc 0 []) engines with mem := [(4, 3)] }
def wInitEnd : State := { wMemInit with pending := [.memoryInitialiseEnd], mem := [(4, 3)] }

/-! ### Well-formedness: a good term and, for each check, an ill-formed one that it refuses -/

theorem test_request_wf : Req.wf { offset := 8, lenDw := 1, fbe := 15, lbe := 0 } = true := by decide
theorem test_request_offset : Req.wf { offset := 6, lenDw := 1, fbe := 15, lbe := 0 } = false := by decide
theorem test_request_high : Req.wf { offset := 2 ^ 36, lenDw := 1, fbe := 15, lbe := 0 } = false := by decide
theorem test_request_length : Req.wf { offset := 8, lenDw := 0, fbe := 15, lbe := 0 } = false ∧
    Req.wf { offset := 8, lenDw := 1025, fbe := 15, lbe := 0 } = false := by decide
theorem test_request_enables : Req.wf { offset := 8, lenDw := 2, fbe := 16, lbe := 0 } = false ∧
    Req.wf { offset := 8, lenDw := 2, fbe := 0, lbe := 16 } = false := by decide
theorem test_bytes : bytesOk [0, 255] = true ∧ bytesOk [256] = false := by decide
theorem test_words : wordsOk [2 ^ 32 - 1] = true ∧ wordsOk [2 ^ 32] = false := by decide
theorem test_carries : aReq.carries (List.replicate 8 1) = true ∧ aReq.carries [1] = false ∧
    aReq.carries (List.replicate 8 300) = false := by decide
theorem test_check : (Check.dramCe 0 (2 ^ 24 - 1)).wf = true ∧ (Check.dramCe 0 (2 ^ 24)).wf = false ∧
    (Check.dramUe 0 (2 ^ 24)).wf = false := by decide
theorem test_configuration : (ConfigWrite.aerMask 0x2000).wf = true ∧ (ConfigWrite.aerMask (2 ^ 32)).wf = false ∧
    (ConfigWrite.aerSeverity (2 ^ 32)).wf = false ∧ (ConfigWrite.aerCorMask (2 ^ 32)).wf = false ∧
    (ConfigWrite.aerClear (2 ^ 32)).wf = false ∧ (ConfigWrite.aerCorClear (2 ^ 32)).wf = false := by decide
theorem test_fuses : fuseOk [(255, 7)] = true ∧ fuseOk [(256, 7)] = false ∧ fuseOk [(0, 2 ^ 32)] = false := by decide
theorem test_phase_end : (PhaseEnd.store 5000 2).wf = true ∧ (PhaseEnd.store 65536 2).wf = false ∧
    (PhaseEnd.fuses [(256, 0)]).wf = false ∧ (PhaseEnd.memory 4 0).wf = false ∧ (PhaseEnd.memory 0 65536).wf = false := by
  decide
theorem test_commands_wf : Instr.scanCommit.wf = true ∧ (Instr.registerWrite aReq 5).wf = true ∧
    (Instr.nop 71).wf = true := by decide
/-- Commands whose request, value, words or bytes are out of range. -/
theorem test_commands_refused :
    [Instr.registerWrite { offset := 8, lenDw := 1, fbe := 15, lbe := 0 } (2 ^ 32), .registerWrite { aReq with offset := 2 } 0,
     .poisonedTlp true { aReq with offset := 2 }, .bar2Access true aReq [1], .bar2Access false aReq [1], .globalUnlock (2 ^ 32),
     .msixTableWrite aReq [], .doorbell 0 (2 ^ 32), .ringEnable 0 (2 ^ 32), .ringDisable 0 (2 ^ 32),
     .descriptorFetch 0 (some [1]), .layerWriteDone 0 0 [256] false, .tileCmd 0 (some [256]), .tileCmd 0 (some (List.replicate 257 0)),
     .stressRestore 0 (some [256]), .nvsWrite 0 (some [256]), .resEnable (2 ^ 32), .resDisable (2 ^ 32), .portEnable 0 (2 ^ 32),
     .portDisable 0 (2 ^ 32), .portRetrain 0 (2 ^ 32), .almReceive 0 512 0 0].all (fun c => !c.wf) = true := by decide
theorem test_more_refused :
    [Instr.almReceive 0 0 512 0, .almReceive 0 0 0 512, .laneAlign 0 0 [1024], .laneAlignmentLoss 0 0 [1024], .prbsGen 0 0 (2 ^ 32), .prbsCheck 0 0 (2 ^ 32), .laneInject 0 0 (2 ^ 32),
     .linkFrameReceive 0 0 [1024], .lineBufferFetch 0 0 false (.dramUe 0 (2 ^ 24)), .pixelProcess 0 (.dramUe 0 (2 ^ 24)),
     .memoryScrub 0 (2 ^ 24) .ok, .powerReqWrite (2 ^ 32), .powerLtrWrite (2 ^ 32), .powerFail 65536, .nvsCmdRead (2 ^ 32),
     .nvsCmdWrite (2 ^ 32), .nvsCmdSave (2 ^ 32), .setPassword (2 ^ 32), .capMeasureEnd 65536 0, .faultForce 0 (2 ^ 32),
     .faultEnableWrite 0 (2 ^ 32), .startupPhase (.memory 4 0), .fuseReloadEnd [(256, 0)], .bar0Read { aReq with lenDw := 0 },
     .configurationWrite (.aerClear (2 ^ 32))].all (fun c => !c.wf) = true := by decide

/-- No row of the table has bits, so no word spells a command. -/
theorem test_no_word (nbits w : Nat) : decodeTableWord nbits w = none := rfl

/-! ### The spec's worked examples -/

/-- What `exec` leaves, for looking at one value. -/
def after (c : Instr) (s : State) : State :=
  match exec c s with
  | .next t => t
  | _ => {}

/-- 02, reading the log: a 16-bit store to SCAN_WALL_SIZE at 0x0080102 is a write with enables 0b1100, of kind 2. -/
def wHalfStore : State := after (.registerWrite { offset := 0x80100, lenDw := 1, fbe := 12, lbe := 0 } 0x04800000) up
theorem test_half_store_logged :
    regValue .hostifAccErrInfo wHalfStore = 0x80010C12 ∧ regValue .hostifAccErrAddrLo wHalfStore = 0x00080100 ∧
      wHalfStore.rd .scanWallSize = 0 := by decide +kernel
/-- The same: a read of 0x1F00000 is reserved; the log keeps its record and COUNT becomes 1. -/
def wReadReserved : State := after (.bar0Read { offset := 0x1F00000, lenDw := 1, fbe := 15, lbe := 0 }) wHalfStore
theorem test_reserved_read :
    wReadReserved.out.getLast? = some (.readUnsupported 0 0x1F00000) ∧ regValue .hostifAccErrCount wReadReserved = 1 ∧
      regValue .hostifAccErrInfo wReadReserved = 0x80010C12 := by decide +kernel
/-- 18, finding registers for a lane fault. -/
theorem test_lane_fault_registers :
    (Reg.lanePrbsErr 21 2).addr = 0x654194 ∧ (Reg.faultFirst (portUnit 21)).addr = 0x6543F0 ∧
      sourceIndex (portUnit 21) 0 = 892 ∧ (Reg.faultgVector 892).addr = 0x61DF0 ∧ (Reg.faultgPending 27).addr = 0x6016C := by
  decide
/-- 14, hold-up for the entrance wall: the energies of 22 and 14 pages and of 968 µF at 4.87 V, and pages of a record. -/
theorem test_hold_up :
    energyNeed 22 = 4250 ∧ energyNeed 14 = 2750 ∧ energyAt 968 4870 = 7950 ∧
      recordPages (List.replicate 5616 0) = 3 := by decide +kernel
/-- 13, a night in Keep: the alarm's edge and TIME at the edge that ends the wake's first step. -/
theorem test_keep_time :
    keepTime 1000000000050 1002700803 = 31600000091600 ∧
      keepTime 1000000000050 1002700800 < 1000000000050 + 30600000000020 ∧
      1000000000050 + 30600000000020 ≤ keepTime 1000000000050 1002700801 := by decide
/-- 11, a cable cut: C1 of R244 at 120 Hz. -/
theorem test_one_lane : oneLane 833333 = 49804667 := by decide
/-- 08: TH at 60 Hz with the default of 30 s. -/
theorem test_static_frames : framesIn 30 1666667 = 1800 := by decide
/-- 07, one cell: the band of 27.25 °C, and the contrast voltage that the ramp limits. -/
def aFam : BistFam :=
  { params := [20000 + 40000 * 65536], vops := [320 + 30000 * 65536, 640 + 27000 * 65536] ++ List.replicate 14 0 }
theorem test_contrast : bandOf 436 = 8 ∧ vopOf aFam 436 28990 = 28940 ∧ vopOf aFam 436 0 = 28912 := by decide +kernel
/-- 05, one pixel: the red base gain of four knots, the gain with its delta, and the gain applied. -/
theorem test_pixel_gain :
    knotInterp (fun i j => if j = 2 then (if i = 2 then 30000 else 30400) else (if i = 2 then 29800 else 30200)) 40 33 = 30188 ∧
      gainOf 30188 0xF4 = 29834 ∧ gainOf 31000 0x05 = 31151 := by decide +kernel
/-- 05: composing an opaque layer of the largest samples over nothing. -/
theorem test_compose : composeOver 255 { r := 65535, g := 65535, b := 0, a := 65535 } [0, 0, 0] = [65534, 65534, 0] := by decide
/-- 09, one row: the pixel tokens of columns 100 and 101, of 13 and 15 bits, the match that ends before them, and their
residual codes. -/
def aRow : Block :=
  { hop := 5, tile := 260, width := 256, row := 33, col := 0, depth := 12, frame := 0
    codes := (List.range 256).flatMap fun i => if i = 100 then [2050, 1024, 510] else if i = 101 then [2053, 1025, 509] else [2048, 1024, 512]
    prev := (List.range 256).flatMap fun _ => [2048, 1024, 512] }
theorem test_row_tokens :
    (pixelToken aRow 100).map (fun w => (w.width, w.value)) = [(6, 0b010001), (2, 0), (5, 0b10000)] ∧
      tokenBits (pixelToken aRow 101) = 15 ∧ matchRun aRow 64 64 64 = 36 := by decide +kernel
theorem test_residuals :
    residual 2050 2048 12 = 4 ∧ residual 510 512 12 = 3 ∧ residualCode 4 12 = (5, 0b10001) ∧ residualCode 8 12 = (6, 0b101001) := by
  decide

/-! ### A page no copy of which can be read -/

theorem page_first : (wUnreadable.phys (wUnreadable.serving 16)).valid 1 0 = false := Phys.not_valid _ _ _ (by decide)
theorem page_second : (wUnreadable.phys (wUnreadable.serving 17)).valid 1 0 = false := by
  rw [Phys.valid, show (wUnreadable.phys (wUnreadable.serving 17)).names 1 0 = false by decide]
  rfl
theorem page_none : wUnreadable.bestCopy 1 0 = none := by
  rw [State.bestCopy, show physAssigned 1 0 = [16, 17] by decide]
  simp only [List.map_cons, List.map_nil, List.foldl_cons, List.foldl_nil, page_first, page_second, Bool.false_and]
  rfl
theorem page_unreadable : wUnreadable.readPage 1 0 = none := by
  rw [State.readPage, page_none]
  decide

/-! ### Every statement's hypotheses are met -/

theorem met_step_runs_the_front_command :
    wPending.pending = [Instr.nop 0, Instr.accErrLogClear] := by
  decide

theorem met_idle_step_counts_time :
    up.pending = [] ∧ up.time.running = true := by
  decide

theorem met_plain_register_write_stores :
    (Reg.spanRingSched 7).plain = true ∧ (Reg.spanRingSched 7).inMap = true ∧ up.Reachable ∧ up.power.move = .none ∧
      writeKind (Reg.spanRingSched 7) 4294967295 up = none := by
  decide

theorem met_wide_pair_applies :
    (Reg.resTargetBaseLo, Reg.resTargetBaseHi) ∈ [(Reg.emitMatrixBaseLo, Reg.emitMatrixBaseHi), (Reg.emitKnotBaseLo,
        Reg.emitKnotBaseHi), (Reg.emitDeltaBaseLo, Reg.emitDeltaBaseHi), (Reg.ageStressBaseLo, Reg.ageStressBaseHi),
        (Reg.ageTargetBaseLo, Reg.ageTargetBaseHi), (Reg.bistStateBaseLo, Reg.bistStateBaseHi), (Reg.bistParityBaseLo,
        Reg.bistParityBaseHi), (Reg.resTargetBaseLo, Reg.resTargetBaseHi)] ∧
      up.Reachable ∧ up.power.move = .none ∧ writeKind Reg.resTargetBaseLo 4294967295 up = none ∧
      writeKind Reg.resTargetBaseHi 4294967295 up = none := by
  decide

theorem met_refused_write_is_logged :
    (Reg.globalUnlock.inMap = true ∧ wUnlocked.Reachable ∧ writeKind Reg.globalUnlock 5 wUnlocked = some 3) ∧
    (Reg.globalScratch.inMap = true ∧ wBusyLog.Reachable ∧ writeKind Reg.globalScratch 5 wBusyLog = some 5) :=
  ⟨by decide, by decide⟩

theorem met_write_tests_in_order :
    (wBusyLog.glob.busy = true ∧ Reg.globalScratch.busyExempt = false ∧ Reg.globalScratch ≠ Reg.hostifBar2Window) ∧
    (wReload.glob.busy = true ∧ Reg.hostifBar2Window.busyExempt = false ∧ wReload.glob.op ≠ 5) ∧
    (up.glob.busy = false ∧ Reg.powerAvsCfg.guarded = true ∧ up.glob.unlocked = false) ∧
    (wUnlocked.Open ∧ Reg.powerAvsCfg ≠ Reg.globalUnlock ∧
      (Reg.powerAvsCfg.guarded = true → wUnlocked.glob.unlocked = true)) :=
  ⟨by decide, by decide, by decide, by decide⟩

theorem met_reads_return_or_are_unsupported :
    (Reg.powerVolt.inMap = true ∧ up.Reachable) ∧
    (1048572 % 4 = 0 ∧ locate 1048572 = none ∧ up.host.accErr = none) :=
  ⟨by decide, by decide⟩

theorem met_bar2_write_stores :
    bytesOk [1, 2, 3, 4, 5, 6, 7, 8] = true ∧ wByte.Reachable ∧ wByte.memoryGone = false ∧
      bar2Kind aReq wByte = none ∧ wByte.MemOk := by
  decide

theorem met_bar2_reads_and_refusals :
    (wByte.Reachable ∧ wByte.memoryGone = false ∧ bar2Kind aReq wByte = none) ∧
    (wMemInit.Reachable ∧ bar2Kind aReq wMemInit = some 5) ∧
    (wMemLost.Reachable ∧ wMemLost.memoryGone = true ∧ wMemLost.memc.trained = true) :=
  ⟨by decide, by decide, by decide⟩

theorem met_acc_err_log_clears :
    (wBusyLog.Reachable ∧ wBusyLog.power.state ≠ .off ∧ wBusyLog.power.move = .none) ∧
    (Reg.globalScratch.inMap = true ∧ writeKind Reg.globalScratch 5 wLogCleared = some 5) :=
  ⟨by decide, by decide⟩

theorem met_unlock_table :
    up.Open ∧
    up.host.accErr = none :=
  ⟨by decide, by decide⟩

theorem met_msix_table_write_takes :
    wVectorWaits.Reachable ∧ wVectorWaits.power.move = .none ∧ Tab.get false (8191 / 4) wVectorWaits.host.pba = true ∧
      wVectorWaits.host.msixEnable = true ∧ wVectorWaits.host.funcMask = false ∧
      ((wVectorWaits.msixEntry (8191 / 4)).set (8191 % 4) 0).mask = false := by
  decide

theorem met_start_bits :
    (up.Open ∧ up.bist.initialising = false ∧ up.bist.checking = false ∧ up.bist.recovering = false ∧
      (∀ k, k < 64 → (up.drive k).pass = none) ∧ up.scan.state = .stopped ∧ up.geom.busy = false ∧
      up.age.clearing = false ∧ up.b Reg.ageCtl 0 = false ∧ (∀ p, p < 32 → (up.port p).state = 0) ∧
      up.memcInitBarred = false ∧ up.memc.initialising = false) ∧
    (wAgeClear.Open ∧ wAgeClear.scan.state = .stopped ∧ wAgeClear.age.clearing = false ∧
      wAgeClear.b Reg.ageCtl 0 = false ∧ wAgeClear.geom.valid = true ∧ 60 ≤ wAgeClear.f Reg.ageCtl 26 16 ∧
      wAgeClear.f Reg.ageCtl 26 16 ≤ 1920) ∧
    (wRecord.Open ∧ wRecord.bist.initialising = false ∧ wRecord.bist.checking = false ∧
      wRecord.bist.recovering = false ∧ wRecord.recordHeld = true) ∧
    (wDownPort.Open ∧ wDownPort.scan.state = .stopped ∧ (∀ p, p < 32 → (wDownPort.port p).state = 0)) :=
  ⟨by decide, by decide, by decide, by decide⟩

theorem met_doorbell_moves_tail :
    ((ringUp 0).Open ∧ ((ringUp 0).power.state = .run ∨ (ringUp 0).power.state = .trim) ∧ (ringUp 0).ringOn 0 = true ∧
      doorbellBad 0 15 (ringUp 0) = false ∧ (ringUp 0).ringKind 0 = 0 ∧ (ringUp 0).ringClass 0 = 0) ∧
    ((ringUp 1).Open ∧ ((ringUp 1).power.state = .run ∨ (ringUp 1).power.state = .trim) ∧ (ringUp 1).ringOn 0 = true ∧
      doorbellBad 0 15 (ringUp 1) = false ∧ (ringUp 1).ringKind 0 = 0 ∧ (ringUp 1).ringClass 0 ≠ 0) ∧
    (wEventRing.Open ∧ (wEventRing.power.state = .run ∨ wEventRing.power.state = .trim) ∧ wEventRing.ringOn 1 = true ∧
      doorbellBad 1 14 wEventRing = false ∧ wEventRing.ringKind 1 ≠ 0 ∧ (wEventRing.ring 1).waiting = [] ∧
      (wEventRing.ring 1).lost = 0 ∧ (wEventRing.ring 1).hw = fld 14 15 0) :=
  ⟨by decide, by decide, by decide⟩

theorem met_ring_enable_starts_afresh :
    wRing8191.Open ∧ wRing8191.ringOn 8191 = false ∧ (wRing8191.ring 8191).stopping = false ∧
      ringCtlState 8191 (withBit 0 0 true) wRing8191 = false := by
  decide

theorem met_ring_disable_stops :
    (wDisable.Open ∧ wDisable.ringOn 0 = true ∧ ringCtlState 0 (withBit 1 0 false) wDisable = false ∧
      wDisable.ringKind 0 = 0) ∧
    (wDisableCq.Open ∧ wDisableCq.ringOn 1 = true ∧ ringCtlState 1 (withBit 0 0 false) wDisableCq = false ∧
      wDisableCq.ringKind 1 ≠ 0) :=
  ⟨by decide, by decide⟩

theorem met_scheduling_point_fetches :
    ((wTail.engine 4).running = true ∧ (wTail.engine 4).takeover = false ∧ (wTail.engine 4).fetch = none ∧
      (wTail.engine 4).job = none ∧ wTail.fetchHeld = false ∧ wTail.faultg.fatal = false ∧
      0 < wTail.f (.spanRingSched (4 / 9)) 7 0 ∧ 0 < wTail.f (.spanRingSched (4 / 9)) 15 8 ∧
      0 < wTail.f (.spanRingSched (4 / 9)) 23 16 ∧
      (∃ n, n ∈ (deliverBells 4 wTail).boundRings 4 ∧ (deliverBells 4 wTail).eligible n = true ∧
      wTail.ringClass n = 0)) ∧
    ((engines.engine 4).running = true ∧ (engines.engine 4).takeover = false ∧ (engines.engine 4).fetch = none ∧
      (engines.engine 4).job = none ∧ engines.fetchHeld = false ∧ engines.faultg.fatal = false ∧
      (∀ n, n ∈ (deliverBells 4 engines).boundRings 4 → (deliverBells 4 engines).eligible n = false)) ∧
    (up.engine 4).running = false :=
  ⟨by decide, by decide, by decide⟩

theorem met_descriptor_fetch_checks :
    ((wFetch.engine 4).fetch = some (0, 0) ∧ wFetch.ringOn 0 = true ∧ checkDescriptor 0 (desc 0 []) wFetched = none) ∧
    wFetched.CqTakes 0 ∧
    checkDescriptor 0 (desc 99 []) wFetched = some (4, 0) ∧
    (checkDescriptor 0 farDesc wFetched = some (1, 16) ∧ (wFetched.span (wFetched.ringSpan 0)).bounds = none) ∧
    ((wFetchOff.engine 4).fetch = some (0, 0) ∧ wFetchOff.ringOn 0 = false) :=
  ⟨by decide, by decide, by decide, by decide, by decide⟩

theorem met_nop_and_fence_complete :
    Starts 4 0 (jobOf (desc 0 [])) (holding (desc 0 []) (ringUp 1)) ∧
    (Starts 4 1 (jobOf (desc 1 [])) (holding (desc 1 []) (ringUp 1)) ∧
      (∀ (x : Job), x ∈ (holding (desc 1 []) (ringUp 1)).jobs → x.ring ≠ (jobOf (desc 1 [])).ring) ∧
      bit (fld (wd (jobOf (desc 1 [])).desc 0) 15 8) 0 = false ∧
      (State.took 4 (holding (desc 1 []) (ringUp 1))).CqTakes (jobOf (desc 1 [])).ring) ∧
    (Starts 4 1 (jobOf (desc 1 [])) wFence ∧ (∃ x, x ∈ wFence.jobs ∧ x.ring = (jobOf (desc 1 [])).ring ∧
      x.stage = .running) ∧
      (∀ (x : Job), x ∈ wFence.jobs → x.ring = (jobOf (desc 1 [])).ring → ∀ (b : Bool), x.stage ≠ .fence b)) ∧
    (Starts 4 1 (jobOf latchDesc) wFenceLatch ∧ (∀ (x : Job), x ∈ wFenceLatch.jobs → x.ring ≠ (jobOf latchDesc).ring) ∧
      bit (fld (wd (jobOf latchDesc).desc 0) 15 8) 0 = true ∧ wFenceLatch.scan.state ≠ .stopped) :=
  ⟨by decide, by decide, by decide, by decide⟩

theorem met_layer_write_starts :
    (Starts 4 2 (jobOf (desc 2 [])) (holding (desc 2 []) (ringUp 1)) ∧ (jobOf (desc 2 [])).dst.snd = 0) ∧
    (Starts 4 2 (jobOf writeDesc) (holding writeDesc (ringUp 1)) ∧ (jobOf writeDesc).dst.snd ≠ 0 ∧
      (holding writeDesc (ringUp 1)).references (jobOf writeDesc).dst.fst (jobOf writeDesc).dst.snd = false) ∧
    (Starts 4 2 (jobOf noParkDesc) (holding noParkDesc (refer (ringUp 1))) ∧ (jobOf noParkDesc).dst.snd ≠ 0 ∧
      (holding noParkDesc (refer (ringUp 1))).references (jobOf noParkDesc).dst.fst (jobOf noParkDesc).dst.snd = true
          ∧
      bit (fld (wd (jobOf noParkDesc).desc 0) 15 8) 0 = true) ∧
    (Starts 4 2 (jobOf writeDesc) (holding writeDesc (refer (ringUp 1))) ∧
      (holding writeDesc (refer (ringUp 1))).references (jobOf writeDesc).dst.fst (jobOf writeDesc).dst.snd = true ∧
      bit (fld (wd (jobOf writeDesc).desc 0) 15 8) 0 = false ∧
      (holding writeDesc (refer (ringUp 1))).parked ((holding writeDesc (refer (ringUp 1))).ringSpan (jobOf
          writeDesc).ring) < 64) ∧
    (Starts 4 2 (jobOf writeDesc) wParked ∧
      wParked.references (jobOf writeDesc).dst.fst (jobOf writeDesc).dst.snd = true ∧
      64 ≤ wParked.parked (wParked.ringSpan (jobOf writeDesc).ring)) :=
  ⟨by decide, by decide, by decide, by decide, by decide⟩

theorem met_layer_write_stores :
    ((started writeDesc (ringUp 1)).jobOf 2 0 0 = some (runOf writeDesc) ∧ (started writeDesc (ringUp 1)).power.move = .none ∧
      bytesOk [1, 2, 3, 4, 5, 6, 7, 8] = true ∧ 0 < wd (runOf writeDesc).desc 6 ∧
      (wd (runOf writeDesc).desc 7 ≤ 1 ∨ wd (runOf writeDesc).desc 6 ≤ wd (runOf writeDesc).desc 9) ∧
      (false = true ∨ wd (runOf writeDesc).desc 7 * wd (runOf writeDesc).desc 6 ≤ [1, 2, 3, 4, 5, 6, 7, 8].length) ∧
      (started writeDesc (ringUp 1)).MemOk ∧ (started writeDesc (ringUp 1)).CqTakes (runOf writeDesc).ring) ∧
    (bytesOk [1, 2, 3, 4, 5] = true ∧
      (true = true ∨ wd (runOf writeDesc).desc 7 * wd (runOf writeDesc).desc 6 ≤ [1, 2, 3, 4, 5].length)) :=
  ⟨by decide, by decide⟩

theorem met_layer_bind_binds :
    (Starts 4 3 (jobOf bindDesc) (holding bindDesc (ringUp 1)) ∧ (holding bindDesc (ringUp 1)).scan.state = .stopped ∧
      (∀ (x : Job), x ∈ (holding bindDesc (ringUp 1)).jobs → x.stage ≠ .binding ∧ x.stage ≠ .retiring) ∧
      (State.took 4 (holding bindDesc (ringUp 1))).CqTakes (jobOf bindDesc).ring) ∧
    (Starts 4 3 (jobOf bindDesc) wBinding ∧ wBinding.scan.state ≠ .stopped ∧
      wBinding.jobs.filter (fun x => x.stage == .binding && wd x.desc 2 == wd (jobOf bindDesc).desc 2) = [aBind] ∧
      aBind ∈ wBinding.jobs ∧ aBind.stage = .binding ∧ wd aBind.desc 2 = wd (jobOf bindDesc).desc 2 ∧
      (State.took 4 wBinding).CqTakes aBind.ring) :=
  ⟨by decide, by decide⟩

theorem met_surface_retire_waits :
    (Starts 4 4 (jobOf retireDesc) (holding retireDesc (refer (ringUp 1))) ∧
      (holding retireDesc (refer (ringUp 1))).references (wd64 (jobOf retireDesc).desc 4) (wd64 (jobOf
          retireDesc).desc 6) = true) ∧
    (Starts 4 4 (jobOf retireDesc) (holding retireDesc (ringUp 1)) ∧
      (holding retireDesc (ringUp 1)).references (wd64 (jobOf retireDesc).desc 4) (wd64 (jobOf retireDesc).desc 6) =
          false ∧
      (∀ (x : Job), x ∈ (holding retireDesc (ringUp 1)).jobs → x.stage ≠ .parked) ∧
      (State.took 4 (holding retireDesc (ringUp 1))).CqTakes (jobOf retireDesc).ring) ∧
    (Starts 4 4 (jobOf farRetire) wRetireParked ∧
      wRetireParked.references (wd64 (jobOf farRetire).desc 4) (wd64 (jobOf farRetire).desc 6) = false ∧
      (∃ x, x ∈ wRetireParked.jobs ∧ x.stage = .parked)) :=
  ⟨by decide, by decide, by decide⟩

theorem met_flush_closes_blocks :
    (Starts 4 5 (jobOf flushDesc) wFlush ∧ (wFlush.port 0).state = 2) ∧
    (Starts 4 5 (jobOf flushDesc) (holding flushDesc (wall 1)) ∧
      (∀ p, p < 32 → ((holding flushDesc (wall 1)).codec ((holding flushDesc (wall 1)).pipeOf p)).open_ = none)) :=
  ⟨by decide, by decide⟩

theorem met_tile_commands_send_and_time_out :
    (Starts 4 7 (jobOf (cmdDesc 0)) (holding (cmdDesc 0) (wall 1)) ∧ 0 = fld (wd (jobOf (cmdDesc 0)).desc 2) 4 0 ∧
      0 = fld (wd (jobOf (cmdDesc 0)).desc 2) 15 8 ∧ 0 = ((holding (cmdDesc 0) (wall 1)).port 0).tagTile % 128 ∧
      hostBytes (fld (wd (jobOf (cmdDesc 0)).desc 3) 15 0) (some [1, 2, 3, 4]) = some [1, 2, 3, 4]) ∧
    (Starts 4 7 (jobOf (cmdDesc 1)) (holding (cmdDesc 1) (wall 1)) ∧ 0 = fld (wd (jobOf (cmdDesc 1)).desc 2) 4 0 ∧
      1 = fld (wd (jobOf (cmdDesc 1)).desc 2) 15 8 ∧ 0 = ((holding (cmdDesc 1) (wall 1)).port 0).tagTile % 128 ∧
      hostBytes (fld (wd (jobOf (cmdDesc 1)).desc 3) 15 0) (some [1, 2, 3, 4]) = some [1, 2, 3, 4] ∧
      (∀ (c : Cmd), c ∈ ((holding (cmdDesc 1) (wall 1)).port 0).cmds → c.sent = true ∧ c.hop ≠ 1)) ∧
    hostBytes (fld (wd (jobOf (cmdDesc 1)).desc 3) 15 0) none = none ∧
    (wAsked.power.move = .none ∧
      (wAsked.port 0).cmds.find? (fun c => c.sent && c.hop == 1 && c.tag == 3 && c.owner != .config) = some aCmd ∧
      aCmd.owner = CmdOwner.tile (runOf (cmdDesc 1)).ring (runOf (cmdDesc 1)).slot ∧
      wAsked.jobAt (runOf (cmdDesc 1)).ring (runOf (cmdDesc 1)).slot = some (runOf (cmdDesc 1))) ∧
    ((wAskedOwn.port 0).cmds.find? (fun c => c.sent && c.hop == 1 && c.tag == 200 && c.owner != .config) = some ownAsk ∧
      ownAsk.owner = .spare) ∧
    (wAsked.port 0).cmds.find? (fun c => c.sent && c.hop == 1 && c.tag == 4 && c.owner != .config) = none :=
  ⟨by decide, by decide, by decide, by decide, by decide, by decide⟩

theorem met_bist_update_writes_targets :
    (Starts 4 6 (jobOf (updDesc 0 1)) (holding (updDesc 0 1) (wall 2)) ∧ fld (wd (updDesc 0 1) 3) 15 0 = 0) ∧
    (Starts 4 6 (jobOf (updDesc 1 1)) wSlotsFull ∧ fld (wd (updDesc 1 1) 3) 15 0 ≠ 0 ∧
      fld (wd (updDesc 1 1) 3) 31 16 ≠ 0 ∧
      (∀ k, k < 8 → wSlotsFull.update (8 * wSlotsFull.ringSpan (jobOf (updDesc 1 1)).ring + k) ≠ none)) ∧
    (Starts 4 6 (jobOf (updDesc 2 2)) (holding (updDesc 2 2) (wall 2)) ∧ fld (wd (updDesc 2 2) 3) 15 0 ≠ 0 ∧
      fld (wd (updDesc 2 2) 3) 31 16 ≠ 0 ∧
      (holding (updDesc 2 2) (wall 2)).update (8 * (holding (updDesc 2 2) (wall 2)).ringSpan (jobOf (updDesc 2 2)).ring + 0) = none) ∧
    (Starts 4 6 (jobOf (updDesc 1 1)) wUpdate ∧ 0 = fld (wd (updDesc 1 1) 2) 15 0 ∧
      0 = fld (wd (updDesc 1 1) 2) 31 16 ∧ fld (wd (updDesc 1 1) 3) 15 0 = 1 ∧ fld (wd (updDesc 1 1) 3) 31 16 = 1 ∧
      wd64 (updDesc 1 1) 4 + 3 ≤ wUpdate.capacity ∧ wUpdate.tileAt 0 0 = some 0 ∧ wUpdate.update 0 = none ∧
      bit (wUpdate.targetWord 0 0) 9 = false ∧ bit (wUpdate.stateWord 0 0) 9 = false ∧
      0 = 8 * wUpdate.ringSpan (jobOf (updDesc 1 1)).ring + 0 ∧ wUpdate.MemOk) :=
  ⟨by decide, by decide, by decide, by decide +kernel⟩

theorem met_stress_commands_run :
    Starts 4 8 (jobOf ckptDesc) (holding ckptDesc (wall 1)) ∧
    ((started ckptDesc (wall 1)).jobOf 8 0 0 = some (runOf ckptDesc) ∧ (started ckptDesc (wall 1)).power.move = .none ∧
      (∀ i, i ∈ (started ckptDesc (wall 1)).allTiles → (started ckptDesc (wall 1)).countersPast i = false)) ∧
    (Starts 4 9 (jobOf (desc 9 [])) (holding (desc 9 []) (wall 1)) ∧ wd (jobOf (desc 9 [])).desc 4 = 0) ∧
    (Starts 4 9 (jobOf restoreDesc) (holding restoreDesc (wall 1)) ∧ wd (jobOf restoreDesc).desc 4 ≠ 0 ∧
      restoreHeaderOk (holding restoreDesc (wall 1)) (wd (jobOf restoreDesc).desc 4) (List.take (wd (jobOf
          restoreDesc).desc 4) []) = false) ∧
    (restoreHeaderOk (holding restoreDesc (wall 1)) 4096 (aFile.take 4096) = true ∧
      (holding restoreDesc (wall 1)).MemOk) ∧
    (wRestored.jobOf 9 0 0 = some (runOf restoreDesc) ∧ wRestored.power.move = .none ∧ wRestored.knotsOn = true ∧
      logEngagements wRestored = [] ∧ fld (runOf restoreDesc).aux 63 32 = wRestored.age.epoch ∧
      wRestored.CqTakes (runOf restoreDesc).ring) :=
  ⟨by decide, by decide, by decide, by decide, by decide +kernel, by decide⟩

theorem met_power_requests_move :
    (Starts 4 10 (jobOf (powerDesc 0)) (holding (powerDesc 0) (wall 1)) ∧
      PowerState.ofCode (wd (jobOf (powerDesc 0)).desc 2) = some PowerState.run ∧
      PowerState.run = (holding (powerDesc 0) (wall 1)).power.state ∧
      (holding (powerDesc 0) (wall 1)).power.state = .run) ∧
    (Starts 4 10 (jobOf (powerDesc 1)) (holding (powerDesc 1) (wall 1)) ∧
      PowerState.ofCode (wd (jobOf (powerDesc 1)).desc 2) = some PowerState.trim ∧
      (holding (powerDesc 1) (wall 1)).power.state = .run ∧ (holding (powerDesc 1) (wall 1)).scan.state = .stopped) ∧
    (Starts 4 10 (jobOf (powerDesc 1)) (holding (powerDesc 1) wRunning) ∧
      (holding (powerDesc 1) wRunning).power.state = .run ∧ (holding (powerDesc 1) wRunning).scan.state = .running) ∧
    (Starts 4 10 (jobOf (powerDesc 2)) (holding (powerDesc 2) (wall 1)) ∧
      PowerState.ofCode (wd (jobOf (powerDesc 2)).desc 2) = some PowerState.hold ∧
      (holding (powerDesc 2) (wall 1)).power.state = .run) ∧
    ((wall 1).Open ∧ PowerState.ofCode (0 % 8) = some PowerState.run ∧ powerRefused PowerState.run (wall 1) = false ∧
      PowerState.run = (wall 1).power.state ∧ (wall 1).power.state = .run) ∧
    (PowerState.ofCode (1 % 8) = some PowerState.trim ∧ powerRefused PowerState.trim (wall 1) = false ∧
      (wall 1).scan.state = .stopped) ∧
    (wRunning.Open ∧ powerRefused PowerState.trim wRunning = false ∧ wRunning.power.state = .run ∧
      wRunning.scan.state = .running) :=
  ⟨by decide, by decide, by decide, by decide, by decide, by decide, by decide⟩

theorem met_store_commands_start :
    (Starts 4 11 (jobOf (nvsDesc 11 1 0)) (holding (nvsDesc 11 1 0) store) ∧
      1 = wd (jobOf (nvsDesc 11 1 0)).desc 2 % 4 ∧ (holding (nvsDesc 11 1 0) store).nvs.current = none ∧
      (holding (nvsDesc 11 1 0) store).nvs.scanned = true ∧ (holding (nvsDesc 11 1 0) store).nvs.queue = [] ∧
      bit (holding (nvsDesc 11 1 0) store).nvs.locked 1 = false ∧
      passwordOf (holding (nvsDesc 11 1 0) store) 1 false = some (wd64 (jobOf (nvsDesc 11 1 0)).desc 4) ∧
      0 < fld (wd (jobOf (nvsDesc 11 1 0)).desc 3) 31 16) ∧
    (Starts 4 11 (jobOf (desc 11 [1])) (holding (desc 11 [1]) store) ∧ fld (wd (jobOf (desc 11 [1])).desc 3) 31 16 = 0) ∧
    (Starts 4 12 (jobOf (desc 12 [1])) (holding (desc 12 [1]) store) ∧ fld (wd (jobOf (desc 12 [1])).desc 3) 31 16 = 0) ∧
    (Starts 4 12 (jobOf (nvsDesc 12 2 1)) (holding (nvsDesc 12 2 1) store) ∧
      passwordOf (holding (nvsDesc 12 2 1) store) 2 true ≠ some (wd64 (jobOf (nvsDesc 12 2 1)).desc 4) ∧
      wd (holding (nvsDesc 12 2 1) store).nvs.fails 2 < 2) ∧
    (Starts 4 13 (jobOf (nvsDesc 13 3 1)) (holding (nvsDesc 13 3 1) store) ∧
      passwordOf (holding (nvsDesc 13 3 1) store) 3 true ≠ some (wd64 (jobOf (nvsDesc 13 3 1)).desc 4)) ∧
    (Starts 4 11 (jobOf (nvsDesc 11 1 1)) (holding (nvsDesc 11 1 1) store) ∧
      1 = wd (jobOf (nvsDesc 11 1 1)).desc 2 % 4 ∧ (holding (nvsDesc 11 1 1) store).nvs.current = none ∧
      (holding (nvsDesc 11 1 1) store).nvs.scanned = true ∧ (holding (nvsDesc 11 1 1) store).nvs.queue = [] ∧
      bit (holding (nvsDesc 11 1 1) store).nvs.locked 1 = false ∧
      passwordOf (holding (nvsDesc 11 1 1) store) 1 false ≠ some (wd64 (jobOf (nvsDesc 11 1 1)).desc 4) ∧
      wd (holding (nvsDesc 11 1 1) store).nvs.fails 1 < 2) ∧
    (Starts 4 12 (jobOf (nvsDesc 12 0 0)) (holding (nvsDesc 12 0 0) store) ∧
      0 = wd (jobOf (nvsDesc 12 0 0)).desc 2 % 4 ∧ (holding (nvsDesc 12 0 0) store).nvs.current = none ∧
      (holding (nvsDesc 12 0 0) store).nvs.scanned = true ∧ (holding (nvsDesc 12 0 0) store).nvs.queue = [] ∧
      bit (holding (nvsDesc 12 0 0) store).nvs.locked 0 = false ∧ (0 = 0 ∨ 0 = 3)) ∧
    (Starts 4 12 (jobOf (nvsDesc 12 2 0)) (holding (nvsDesc 12 2 0) store) ∧
      2 = wd (jobOf (nvsDesc 12 2 0)).desc 2 % 4 ∧ (holding (nvsDesc 12 2 0) store).nvs.current = none ∧
      (holding (nvsDesc 12 2 0) store).nvs.scanned = true ∧ (holding (nvsDesc 12 2 0) store).nvs.queue = [] ∧
      bit (holding (nvsDesc 12 2 0) store).nvs.locked 2 = false ∧
      passwordOf (holding (nvsDesc 12 2 0) store) 2 true = some (wd64 (jobOf (nvsDesc 12 2 0)).desc 4) ∧
      0 < fld (wd (jobOf (nvsDesc 12 2 0)).desc 3) 31 16 ∧ maceReason (holding (nvsDesc 12 2 0) store) = 0 ∧
      hostBytes (fld (wd (jobOf (nvsDesc 12 2 0)).desc 3) 31 16) (some [1, 2, 3, 4, 5, 6, 7, 8]) = some [1, 2, 3, 4, 5, 6, 7, 8] ∧
      hostBytes (fld (wd (jobOf (nvsDesc 12 2 0)).desc 3) 31 16) none = none) ∧
    (Starts 4 13 (jobOf (nvsDesc 13 3 0)) (holding (nvsDesc 13 3 0) store) ∧
      3 = wd (jobOf (nvsDesc 13 3 0)).desc 2 % 4 ∧ (holding (nvsDesc 13 3 0) store).nvs.current = none ∧
      (holding (nvsDesc 13 3 0) store).nvs.scanned = true ∧ (holding (nvsDesc 13 3 0) store).nvs.queue = [] ∧
      bit (holding (nvsDesc 13 3 0) store).nvs.locked 3 = false ∧
      passwordOf (holding (nvsDesc 13 3 0) store) 3 true = some (wd64 (jobOf (nvsDesc 13 3 0)).desc 4) ∧
      (holding (nvsDesc 13 3 0) store).nvs.pwrfailHigh = true ∧ (holding (nvsDesc 13 3 0) store).nvs.supplyOk = true ∧
      energyNeed (recordPages (recordBytes (holding (nvsDesc 13 3 0) store)) + 10) ≤ energyAt (holding (nvsDesc 13 3
          0) store).nvs.capUf (holding (nvsDesc 13 3 0) store).nvs.vhold) ∧
    (store.Open ∧ 1 = fld 16 5 4 ∧ fld 16 13 8 < partPages 1 ∧ store.nvs.reading = false ∧ store.ringNvs = false ∧
      store.nvs.current = none ∧ store.nvs.scanned = true ∧ store.nvs.queue = [] ∧ bit store.nvs.locked 1 = false ∧
      passwordOf store 1 false = some store.nvs.pass ∧ passwordOf store 1 true = some store.nvs.pass ∧
      0 < store.f Reg.nvsRange 27 16 ∧ maceReason store = 0) ∧
    (3 = fld 48 5 4 ∧ fld 48 13 8 < partPages 3 ∧ bit store.nvs.locked 3 = false ∧
      passwordOf store 3 false = some store.nvs.pass ∧ (3 = 0 ∨ 3 = 3) ∧
      passwordOf store 3 true = some store.nvs.pass ∧ store.nvs.pwrfailHigh = true ∧ store.nvs.supplyOk = true ∧
      energyNeed (recordPages (recordBytes store) + 10) ≤ energyAt store.nvs.capUf store.nvs.vhold) ∧
    (0 = fld 0 5 4 ∧ fld 0 13 8 < partPages 0 ∧ bit store.nvs.locked 0 = false ∧
      passwordOf store 0 false = some store.nvs.pass) ∧
    (storeOpen.Open ∧ storeOpen.glob.unlocked = true ∧ storeOpen.ringNvs = false ∧ storeOpen.nvs.current = none ∧
      storeOpen.nvs.scanned = true ∧ storeOpen.nvs.queue = [] ∧ bit storeOpen.nvs.locked (1 % 4) = false ∧ 1 % 4 ≠ 0 ∧
      passwordOf storeOpen (1 % 4) true = some storeOpen.nvs.pass ∧ maceReason storeOpen = 0) :=
  ⟨by decide, by decide, by decide, by decide, by decide, by decide, by decide, by decide, by decide, by decide, by decide,
    by decide, by decide⟩

theorem met_store_operations_end :
    (wReading.power.move = .none ∧ wReading.nvs.current = some (NvsOp.regRead 1 0 4 8) ∧ wReading.nvs.queue = [] ∧
      wReading.readPage 1 0 = some []) ∧
    (wUnreadable.power.move = .none ∧ wUnreadable.nvs.current = some (NvsOp.regRead 1 0 4 8) ∧
      wUnreadable.nvs.queue = [] ∧ wUnreadable.readPage 1 0 = none) ∧
    (wWriting.power.move = .none ∧ wWriting.nvs.current = some (NvsOp.regWrite 1 0 0 8) ∧ wWriting.nvs.queue = [] ∧
      16 = writeTarget wWriting 1 0 ∧ (wWriting.phys 16).wear < 1000000) ∧
    (wSaving.nvs.current = some NvsOp.regSave ∧ wSaving.nvs.keepCopy = some (saveValues store) ∧
      wSaving.nvs.queue = []) ∧
    (wRetry.nvs.current = none ∧ wRetry.nvs.scanned = true ∧ wRetry.nvs.queue = [NvsOp.append 3 77 [1, 2, 3]] ∧
      maceReason wRetry = 0) ∧
    (up.nvs.measuring = false ∧ up.nvs.current = none ∧ (up.power.state = .run ∨ up.power.state = .trim)) ∧
    wMeasuring.nvs.measuring = true :=
  ⟨by decide, ⟨rfl, rfl, rfl, page_unreadable⟩, by decide, by decide, by decide, by decide, by decide⟩

theorem met_alerts_show_and_sweep :
    (Starts 4 16 (jobOf showDesc) wShow ∧
      anAlert = ⟨descSurface (jobOf showDesc).desc 2, fld (wd (jobOf showDesc).desc 2) 15 8, fld (wd (jobOf
          showDesc).desc 3) 15 0, fld (wd (jobOf showDesc).desc 3) 31 16⟩ ∧
      wShow.scan.state ≠ .running ∧ wShow.scan.state ≠ .held) ∧
    (Starts 4 16 (jobOf showDesc) wShowHeld ∧ wShowHeld.scan.state = .held ∧ wShowHeld.alert.cmd = none) ∧
    (Starts 4 16 (jobOf showDesc) wShowRunning ∧ wShowRunning.scan.state = .running ∧ wShowRunning.alert.cmd = none ∧
      (0, 0) ∈ wShowRunning.servingPipes ∧ (∀ x, x ∈ wShowRunning.servingPipes → (wShowRunning.pipe x.1).sweep = none) ∧
      wShowRunning.servingPipes.any (fun y => wShowRunning.healthy y.2) = true ∧ wShowRunning.healthy 0 = true) ∧
    (Starts 4 16 (jobOf showDesc) wReplacing ∧ wReplacing.scan.state = .running ∧
      wReplacing.alert.cmd = some { ring := 0, slot := 5, since := 0 } ∧ wReplacing.jobAt 0 5 = some anOldShow ∧
      (∀ x, x ∈ wReplacing.servingPipes → (wReplacing.pipe x.1).sweep = none) ∧
      (State.took 4 wReplacing).CqTakes anOldShow.ring) ∧
    (Starts 4 17 (jobOf clearDesc) wNoAlert ∧ wNoAlert.alert.work = none ∧ wNoAlert.scan.state ≠ .running) ∧
    (Starts 4 17 (jobOf clearDesc) wAlert ∧ wAlert.alert.work ≠ none ∧ wAlert.scan.state ≠ .running ∧
      wAlert.scan.state ≠ .held) ∧
    (wAlertPoint.power.move = .none ∧ (wAlertPoint.pipe 0).waiting = some [{ x := 1, y := 1, w := 2, h := 2 }] ∧
      wAlertPoint.portOf 0 = some 0 ∧ wAlertPoint.atAlertPoint 0 = true ∧
      wAlertPoint.pipeBad 0 = false ∧ (wAlertPoint.span (pipeSpan 0)).running = true ∧
      wAlertPoint.scan.windowOpen = true ∧ (wAlertPoint.pipe 0).yielded = false) ∧
    (wMidSegment.power.move = .none ∧ (wMidSegment.pipe 0).waiting = some [{ x := 1, y := 1, w := 2, h := 2 }] ∧
      wMidSegment.portOf 0 = some 0 ∧ wMidSegment.atAlertPoint 0 = false ∧ wMidSegment.pipeBad 0 = false ∧
      (wMidSegment.span (pipeSpan 0)).running = true) ∧
    (wSweep.power.move = .none ∧ (wSweep.pipe 0).sweep = some [{ x := 1, y := 1, w := 2, h := 2 }] ∧
      wSweep.portOf 0 = some 0 ∧ (wSweep.port 0).txAlr = [] ∧ wSweep.alert.cmd = some { ring := 0, slot := 0, since := 0 } ∧
      wSweep.jobAt 0 0 = some (runOf showDesc) ∧ wSweep.alert.waiting = false ∧ wSweep.alert.await = [0] ∧
      (∀ x, x ∈ wSweep.servingPipes → (wSweep.pipe x.1).waiting = none)) ∧
    (wSweepQueue.power.move = .none ∧ (wSweepQueue.pipe 0).sweep = some [{ x := 1, y := 1, w := 2, h := 2 }] ∧
      wSweepQueue.portOf 0 = some 0 ∧ (wSweepQueue.port 0).txAlr ≠ []) :=
  ⟨by decide, by decide, by decide, by decide, by decide, by decide, by decide, by decide, by decide, by decide⟩

theorem met_scan_out_starts_and_stops :
    (wLocked.Open ∧ wLocked.startAllowed = true ∧ wLocked.scan.locked = true) ∧
    ((wall 1).Open ∧ (wall 1).startAllowed = true ∧ (wall 1).scan.locked = false) ∧
    ((window 1).Open ∧ (window 1).scan.state = .running) ∧
    (wAcquiring.Open ∧ wAcquiring.scan.state = .acquiring) ∧
    (window 1).scan.state ≠ .stopped ∧
    (up.Open ∧ up.scan.state = .stopped) ∧
    ((wall 1).Open ∧ (wall 1).b Reg.resCtl 0 = false ∧ (wall 1).bistReady = true) ∧
    (wResOn.Open ∧ wResOn.b Reg.resCtl 0 = true) :=
  ⟨by decide, by decide, by decide, by decide, by decide, by decide, by decide, by decide⟩

theorem met_commits_apply :
    ((Instr.layerCommit, Group.layer) ∈ [(Instr.scanCommit, Group.scan), (Instr.layerCommit, Group.layer),
        (Instr.resCommit, Group.res)] ∧
      (window 1).Open ∧ (window 1).b (commitReg Group.layer) 0 = false ∧
      (∀ n, n < 64 → (window 1).layerBreaks n = false) ∧ (window 1).scan.state ≠ .stopped) ∧
    ((Instr.scanCommit, Group.scan) ∈ [(Instr.scanCommit, Group.scan), (Instr.layerCommit, Group.layer),
        (Instr.resCommit, Group.res)] ∧
      wScanSet.Open ∧ wScanSet.b (commitReg Group.scan) 0 = false ∧ (∀ n, n < 64 → wScanSet.layerBreaks n = false) ∧
      wScanSet.scan.state = .stopped ∧ (∀ (j : Job), j ∈ wScanSet.jobs → j.stage ≠ .retiring)) ∧
    wLatch.scan.state ≠ .stopped ∧
    (up.scan.state = .stopped ∧ (∀ g, up.b (commitReg g) 0 = false)) :=
  ⟨by decide, by decide, by decide, by decide, fun g => by cases g <;> decide⟩

theorem met_frame_starts_and_latch_points :
    ((advance 100 (window 1)).scan.next = Mark.frameStart ∧ (advance 100 (window 1)).scan.state = .running ∧
      (advance 100 (window 1)).scan.closed = false ∧ (advance 100 (window 1)).power.move = .none) ∧
    ((advance 100 wLatch).scan.next = Mark.latch ∧ (advance 100 wLatch).scan.state = .running ∧
      (advance 100 wLatch).scan.handover = false ∧ (advance 100 wLatch).power.move = .none ∧
      (advance 100 wLatch).scan.windowOpen = true) ∧
    ((advance 100 wStopping).scan.next = Mark.latch ∧ (advance 100 wStopping).scan.state = .stopping ∧
      (advance 100 wStopping).power.move = .none) ∧
    ((advance 100 (wClosed .stopping)).scan.next = Mark.frameStart ∧ (advance 100 (wClosed .stopping)).scan.closed = true ∧
      (advance 100 (wClosed .stopping)).power.move = .none ∧ (advance 100 (wClosed .stopping)).scan.state = .stopping) ∧
    ((advance 100 (wClosed .running)).scan.next = Mark.frameStart ∧ (advance 100 (wClosed .running)).scan.closed = true ∧
      (advance 100 (wClosed .running)).power.move = .none ∧ (advance 100 (wClosed .running)).scan.state = .running) :=
  ⟨by decide, by decide, by decide, by decide, by decide⟩

theorem met_genlock_measures_and_locks :
    false = (advance 100 (wGenlock none 0)).b Reg.scanGenlockOffset 31 ∧
    ((advance 100 (wGenlock none 0)).time.running = true ∧ (advance 100 (wGenlock none 0)).power.state ≠ .keep ∧
      (advance 100 (wGenlock none 0)).scan.returning = false ∧
      (advance 100 (wGenlock none 0)).cycles ≤ (advance 100 (wGenlock none 0)).scan.windowFrom + (advance 100
          (wGenlock none 0)).nominal + (advance 100 (wGenlock none 0)).lockRange ∧
      true = !(advance 100 (wGenlock none 0)).b Reg.scanGenlockOffset 31 ∧
      (advance 100 (wGenlock none 0)).scan.reference = none) ∧
    ((advance 100 (wGenlock (some 333433) 2)).time.running = true ∧
      (advance 100 (wGenlock (some 333433) 2)).power.state ≠ .keep ∧
      (advance 100 (wGenlock (some 333433) 2)).scan.returning = false ∧
      (advance 100 (wGenlock (some 333433) 2)).cycles ≤ (advance 100 (wGenlock (some 333433) 2)).scan.windowFrom +
          (advance 100 (wGenlock (some 333433) 2)).nominal + (advance 100 (wGenlock (some 333433) 2)).lockRange ∧
      (advance 100 (wGenlock (some 333433) 2)).scan.reference = some 333433 ∧
      (advance 100 (wGenlock (some 333433) 2)).nominal ≤ (advance 100 (wGenlock (some 333433) 2)).cycles - 333433 +
          (advance 100 (wGenlock (some 333433) 2)).lockRange ∧
      (advance 100 (wGenlock (some 333433) 2)).scan.locked = false ∧
      (advance 100 (wGenlock (some 333433) 2)).scan.inRange < 3) ∧
    ((advance 100 (wGenlock (some 333433) 3)).time.running = true ∧
      (advance 100 (wGenlock (some 333433) 3)).power.state ≠ .keep ∧
      (advance 100 (wGenlock (some 333433) 3)).scan.returning = false ∧
      (advance 100 (wGenlock (some 333433) 3)).cycles ≤ (advance 100 (wGenlock (some 333433) 3)).scan.windowFrom +
          (advance 100 (wGenlock (some 333433) 3)).nominal + (advance 100 (wGenlock (some 333433) 3)).lockRange ∧
      (advance 100 (wGenlock (some 333433) 3)).scan.reference = some 333433 ∧
      (advance 100 (wGenlock (some 333433) 3)).nominal ≤ (advance 100 (wGenlock (some 333433) 3)).cycles - 333433 +
          (advance 100 (wGenlock (some 333433) 3)).lockRange ∧
      (advance 100 (wGenlock (some 333433) 3)).scan.locked = false ∧
      (advance 100 (wGenlock (some 333433) 3)).scan.inRange = 3 ∧
      (advance 100 (wGenlock (some 333433) 3)).power.state ≠ .hold) ∧
    ((advance 100 (wGenlock (some 1000000) 2)).time.running = true ∧
      (advance 100 (wGenlock (some 1000000) 2)).power.state ≠ .keep ∧
      (advance 100 (wGenlock (some 1000000) 2)).scan.returning = false ∧
      (advance 100 (wGenlock (some 1000000) 2)).cycles ≤ (advance 100 (wGenlock (some 1000000) 2)).scan.windowFrom +
          (advance 100 (wGenlock (some 1000000) 2)).nominal + (advance 100 (wGenlock (some 1000000) 2)).lockRange ∧
      (advance 100 (wGenlock (some 1000000) 2)).scan.reference = some 1000000 ∧
      (advance 100 (wGenlock (some 1000000) 2)).cycles - 1000000 + (advance 100 (wGenlock (some 1000000) 2)).lockRange
          < (advance 100 (wGenlock (some 1000000) 2)).nominal ∧
      (advance 100 (wGenlock (some 1000000) 2)).scan.locked = false) ∧
    (true = !(advance 100 (wGenlockLocked 333433 0 false)).b Reg.scanGenlockOffset 31 ∧
      (advance 100 (wGenlockLocked 333433 0 false)).time.running = true ∧
      (advance 100 (wGenlockLocked 333433 0 false)).scan.returning = false ∧
      (advance 100 (wGenlockLocked 333433 0 false)).scan.reference = some 333433 ∧
      (advance 100 (wGenlockLocked 333433 0 false)).nominal ≤ (advance 100 (wGenlockLocked 333433 0 false)).cycles - 333433 +
          (advance 100 (wGenlockLocked 333433 0 false)).lockRange ∧
      (advance 100 (wGenlockLocked 333433 0 false)).scan.locked = true ∧
      (advance 100 (wGenlockLocked 333433 0 false)).scan.rephase = false) ∧
    (∀ n, n = 1 ∨ n = 2 → (advance 100 (wGenlockLocked 1000000 n false)).scan.reference = some 1000000 ∧
      (advance 100 (wGenlockLocked 1000000 n false)).cycles - 1000000 + (advance 100 (wGenlockLocked 1000000 n false)).lockRange
          < (advance 100 (wGenlockLocked 1000000 n false)).nominal ∧
      (advance 100 (wGenlockLocked 1000000 n false)).scan.locked = true ∧
      (advance 100 (wGenlockLocked 1000000 n false)).scan.outRange = n) ∧
    ((advance 100 stoppedClock).time.running = false ∧ (advance 100 stoppedClock).power.state ≠ .keep) ∧
    ((advance 100 kept).time.running = false ∧ (advance 100 kept).power.state = .keep ∧
      (advance 100 kept).power.keepLost = false) ∧
    ((advance 100 (keptEdges 2)).power.state = .keep ∧ (advance 100 (keptEdges 2)).power.keepLost = true ∧
      (advance 100 (keptEdges 2)).power.keepEdges < 3) ∧
    ((advance 100 (keptEdges 3)).time.running = false ∧ 3 ≤ (advance 100 (keptEdges 3)).power.keepEdges ∧
      (advance 100 (keptEdges 3)).b Reg.powerWakeEn 4 = false) ∧
    (advance 100 (wGenlock none 0)).scan.locked = false ∧
    ((advance 100 (wGenlockHeld 1)).time.running = true ∧ (advance 100 (wGenlockHeld 1)).scan.locked = true ∧
      (advance 100 (wGenlockHeld 1)).scan.outRange < 2) ∧
    ((advance 100 (wGenlockHeld 2)).time.running = true ∧ (advance 100 (wGenlockHeld 2)).scan.locked = true ∧
      (advance 100 (wGenlockHeld 2)).scan.outRange = 2 ∧ (advance 100 (wGenlockHeld 2)).power.state ≠ .hold) :=
  ⟨by decide, by decide, by decide, by decide, by decide, by decide, fun n h => by rcases h with rfl | rfl <;> decide, by decide,
    by decide, by decide, by decide, by decide, by decide, by decide⟩

theorem met_geometry_check_ends :
    (geomSet.geom.busy = true ∧ (geomCheck geomSet).toOption = some gathered) ∧
    (geomBad.geom.busy = true ∧ (match geomCheck geomBad with | .ok _ => none | .error e => some e) = some (3, 0, 1)) :=
  ⟨by decide +kernel, by decide +kernel⟩

theorem met_pixel_pairs_flow :
    ((window 1).power.move = .none ∧ ((window 1).span (pipeSpan 0)).running = true ∧ (window 1).pipeBad 0 = false) ∧
    (((window 1).pipe 0).todo = (0, 0) :: [(0, 1)] ∧ ((window 1).pipe 0).load = some aLoad ∧
      (window 1).pipeStalled 0 = false ∧ ((window 1).pipe 0).sweep = none ∧ (window 1).atAlertPoint 0 = false ∧
      (window 1).starved 0 0 0 aLoad = false ∧ ((window 1).pipe 0).skipping = false) ∧
    ((wAlertPoint.pipe 0).todo = (0, 1) :: [] ∧ (wAlertPoint.pipe 0).load = some aLoad ∧ wAlertPoint.atAlertPoint 0 = true) :=
  ⟨by decide, by decide, by decide⟩

theorem met_age_clear_end_zeroes :
    wClearing.age.clearing = true ∧ wClearing.MemOk := by
  decide

theorem met_knot_and_accrual_passes_run :
    (wKnots.knotsOn = true ∧ wKnots.scan.state = .running ∧ wKnots.portEngineOn 0 = true ∧
      wKnots.b Reg.ageCtl 2 = false ∧ wKnots.age.unlogged = [] ∧ wKnots.MemOk) ∧
    (wKnots.age.seeding = false ∧ wKnots.scan.windowOpen = true ∧ wKnots.power.state = .run ∧
      Tab.get 0 0 wKnots.age.stepped ≠ wKnots.scan.frame + 1) ∧
    (wSeeding.age.seeding = true ∧ wSeeding.knotsOn = true ∧ wSeeding.b Reg.ageCtl 2 = false ∧
      wSeeding.age.unlogged = [] ∧ wSeeding.MemOk) ∧
    (wCheckpoint.anise = true ∧ wCheckpoint.f Reg.agePeriods 31 16 ≠ 0) ∧
    (up.anise = false ∨ up.f Reg.agePeriods 31 16 = 0) ∧
    (wAccrual.power.move = .wake 1 ∧ wAccrual.anise = false ∧ wAccrual.MemOk) ∧
    (wAccrualGap.power.move = .wake 1 ∧ wAccrualGap.anise = true ∧ wAccrualGap.scan.state = .held ∧
      wAccrualGap.age.heldGap = true ∧ wAccrualGap.MemOk) :=
  ⟨by decide, by decide, by decide, by decide, by decide, by decide, by decide⟩

theorem met_bist_operations_end :
    (wInit.bist.initialising = true ∧ wInit.power.move = .none ∧
      wInit.stateBase + wInit.geom.width / 2 * (wInit.geom.height / 2) * 10 ≤ wInit.capacity ∧
      wInit.parityBase + 131072 ≤ wInit.capacity ∧ wInit.MemOk) ∧
    (wInitPast.bist.initialising = true ∧ wInitPast.power.move = .none ∧
      wInitPast.stateBase + wInitPast.geom.width / 2 * (wInitPast.geom.height / 2) * 10 ≤ wInitPast.capacity ∧
      wInitPast.capacity < wInitPast.parityBase + 131072) ∧
    (wChecking.bist.checking = true ∧ wChecking.power.move = .none ∧ bistCheckError wChecking ≠ 0) ∧
    (wRecord.Open ∧ wRecord.bist.initialising = false ∧ wRecord.bist.checking = false ∧
      wRecord.bist.recovering = false ∧ wRecord.bistReady = true ∧ wRecord.bist.recUpdates ≠ [] ∧
      wRecord.bist.recPasses = []) ∧
    ((∀ k, k < 64 → wFlights.flight k ≠ none)) ∧
    (wQueued.bist.queue = anInternal :: [] ∧ 1 < 64 ∧ wQueued.flight 1 = none ∧ (∀ m, m < 1 → wQueued.flight m ≠ none) ∧
      wQueued.MemOk) ∧
    (wall 1).bist.queue = [] :=
  ⟨by decide, by decide, by decide, by decide, by decide, by decide, by decide⟩

theorem met_passes_run :
    ((wCells.drive (2 * 0)).tile = none ∧ 0 ∈ wCells.driveTiles 0 ∧ wCells.drivable 0 = true ∧
      wCells.awaitsRecovery 0 = false ∧ wCells.tilePending 0 = true ∧ (wCells.drive (2 * 0 + 1)).tile ≠ some 0 ∧
      (∀ k, k ∈ wCells.driveTiles 0 → k ≠ 0 → wCells.tilePending k = false)) ∧
    (0 = 2 * 0 + 0 ∧ wDriving.power.move = .none ∧ (wDriving.drive 0).tile = some 0 ∧
      (wDriving.drive 0).pass = none ∧ (∀ m, (wDriving.drive 0).next ≤ m → m < (wDriving.rectOf 0).h / 2 →
        wDriving.commonPending 0 m = false)) ∧
    (∀ k, k ∈ (wall 1).driveTiles 0 → (wall 1).tilePending k = false) ∧
    (wDrivingCells.power.move = .none ∧ (wDrivingCells.drive 0).tile = some 0 ∧ (wDrivingCells.drive 0).pass = none ∧
      wDrivingCells.drivable 0 = true ∧ wDrivingCells.awaitsRecovery 0 = false ∧ (wDrivingCells.drive 0).next ≤ 0 ∧ 0 < (wDrivingCells.rectOf 0).h / 2 ∧
      wDrivingCells.commonPending 0 0 = true ∧ wDrivingCells.MemOk) ∧
    ((wStoppedEngine.power.move = .none ∧ wStoppedEngine.portEngineOn 0 = false)) ∧
    ((wPass [5, 0, 0, 0]).power.move = .none ∧ (wPass [5, 0, 0, 0]).portEngineOn 0 = true ∧
      takeRx 0 3 (wPass [5, 0, 0, 0]) = some (phaseEnd [5, 0, 0, 0], takenRx 3 (wPass [5, 0, 0, 0])) ∧
      0 = (wPass [5, 0, 0, 0]).chainOf 0 * 128 + ((phaseEnd [5, 0, 0, 0]).hop - 1) ∧
      (wPass [5, 0, 0, 0]).passOf 0 = some 0 ∧ ((wPass [5, 0, 0, 0]).drive 0).pass = some aPass ∧
      wd (phaseEnd [5, 0, 0, 0]).body 2 ≠ 1 ∧
      leVal (List.take 2 (phaseEnd [5, 0, 0, 0]).body) = (aPass.seq0 + aPass.done) % 65536 ∧ aPass.done < aPass.sent ∧
      aPass.done + 1 < aPass.phases.length) ∧
    ((wPass [9, 0, 1, 0]).power.move = .none ∧ (wPass [9, 0, 1, 0]).portEngineOn 0 = true ∧
      takeRx 0 3 (wPass [9, 0, 1, 0]) = some (phaseEnd [9, 0, 1, 0], takenRx 3 (wPass [9, 0, 1, 0])) ∧
      0 = (wPass [9, 0, 1, 0]).chainOf 0 * 128 + ((phaseEnd [9, 0, 1, 0]).hop - 1) ∧
      (wPass [9, 0, 1, 0]).passOf 0 = some 0 ∧ ((wPass [9, 0, 1, 0]).drive 0).pass = some aPass ∧
      wd (phaseEnd [9, 0, 1, 0]).body 2 = 1) ∧
    (wInterrupted.power.move = .none ∧ 0 = wInterrupted.chainOf 0 * 128 + (1 - 1) ∧
      wInterrupted.bist.interrupted.find? (fun x => x.tile == 0) = some aPass ∧ 0 = 2 * wInterrupted.tileFeeder 0 ∧
      (wInterrupted.drive 0).tile = none ∧ (wInterrupted.drive 0).pass = none ∧ (wInterrupted.drive 1).tile ≠ some 0 ∧
      wInterrupted.drivable 0 = true ∧ wInterrupted.MemOk) :=
  ⟨by decide, by decide, by decide, by decide, by decide, by decide, by decide, by decide⟩

theorem met_ports_come_up_and_idle :
    (wDownPort.Open ∧ fld 1 3 1 = 0 ∧ wDownPort.b (Reg.portCtl 0) 0 = false ∧ roleOf wDownPort 0 ≠ 0 ∧
      (wDownPort.port 0).state = 0) ∧
    (wEnabled.Open ∧ wEnabled.b (Reg.portCtl 0) 0 = true ∧ wEnabled.f (Reg.portCtl 0) 2 1 = 0 ∧
      (wEnabled.port 0).state = 2 ∧ (wEnabled.port 0).split = false) ∧
    (wHeldPort.Open ∧ wHeldPort.b (Reg.portCtl 0) 0 = true ∧ wHeldPort.f (Reg.portCtl 0) 2 1 = 0 ∧
      (wHeldPort.port 0).state = 3) ∧
    (wSplit.Open ∧ wSplit.b (Reg.portCtl 0) 0 = true ∧ wSplit.f (Reg.portCtl 0) 2 1 = 0 ∧ (wSplit.port 0).state = 2 ∧
      (wSplit.port 0).role = 1 ∧ (wSplit.port 0).split = true ∧ (wSplit.port (partner 0)).state = 2) ∧
    (wTraining.hears 0 3 = true ∧ aligns commas = true ∧ 3 = wTraining.upLane 0 ∧ (wTraining.port 0).state = 1 ∧
      wTraining.faultg.clove = false ∧ (wTraining.port 0).dsc = false ∧ (wTraining.port 0).enumAgain = true ∧
      (wTraining.port 0).role = 1) ∧
    (wHeldPort.hears 0 3 = true ∧ 3 = wHeldPort.upLane 0 ∧ wHeldPort.portsRun = true ∧ (wHeldPort.port 0).dsc = false) ∧
    (wTraining.hears 0 0 = false ∧ aligns [] = false) ∧
    (wTraining.port 0).noPartner = false ∧
    (wEnabled.port 0).state ≠ 1 ∧
    (wIdling.power.move = .none ∧ (wIdling.port 0).state = 6 ∧ (wIdling.port 0).afterIdle = .held) ∧
    (looped.power.move = .none ∧ (looped.port 1).state = 2 ∧ (looped.port 1).role = 2 ∧ (looped.port 1).peerIdle = false) ∧
    (wPeerIdle.power.move = .none ∧ (wPeerIdle.port 1).state = 2 ∧ (wPeerIdle.port 1).role = 2 ∧
      (wPeerIdle.port 1).peerIdle = true) ∧
    (wEnabled.power.move = .none ∧ (wEnabled.port 0).state ≠ 6 ∧ (wEnabled.port 0).role ≠ 2) :=
  ⟨by decide, by decide, by decide, by decide, by decide, by decide, by decide, by decide, by decide, by decide, by decide,
    by decide, by decide⟩

theorem met_lanes_follow_their_events :
    ((wall 1).power.move = .none ∧ (wall 1).losable 0 3 0 = true ∧ ((wall 1).port 0).state = 2 ∧ ((wall 1).port 0).role = 1 ∧
      ((wall 1).chain 0).looped = false ∧ ((wall 1).port 0).uLost = false) ∧
    (wall 1).losable 0 3 1 = false ∧
    ((wall 1).hears 0 3 = true ∧ (wall 1).checks 0 3 = false ∧ ((wall 1).lane 0 3).aligned = true ∧
      ((wall 1).lane 0 3).errs = [] ∧ ((wall 1).lane 0 3).frame = [] ∧ ((wall 1).lane 0 3).alarm = none ∧
      ((wall 1).lane 0 3).since + 4 < 512 ∧ [0, 0, 0, 1023].length = 4 ∧
      (∀ g, g ∈ [0, 0, 0, 1023] → decodeIn false g = none ∧ decodeIn true g = none)) ∧
    (wall 1).hears 0 0 = false ∧
    (wChecker.hears 0 3 = true ∧ wChecker.checks 0 3 = true ∧ (wChecker.lane 0 3).sync = false ∧
      prbsDegree (wChecker.pattern 0 3) ≤ (wChecker.lane 0 3).checker.got ∧ (wChecker.lane 0 3).checker.right = 63 ∧
      (false != prbsInverts (wChecker.pattern 0 3)) = prbsNext (wChecker.pattern 0 3) (wChecker.lane 0 3).checker.reg) ∧
    (wSynced.hears 0 3 = true ∧ wSynced.checks 0 3 = true ∧ (wSynced.lane 0 3).sync = true) ∧
    (wTest.hears 0 3 = true ∧ (wTest.port 0).state ≠ 6 ∧ (wTest.lane 0 3).state ≠ 7) ∧
    (wIdling.port 0).state = 6 ∧
    (wInject.rd (Reg.laneInject 0 0) ≠ 0 ∧ (wInject.port 0).receives 0 = false ∧ (wInject.lane 0 0).state = 2 ∧
      wInject.generates 0 0 = false) ∧
    (wPattern.rd (Reg.laneInject 0 0) ≠ 0 ∧ wPattern.generates 0 0 = true ∧ wPattern.loops 0 = false ∧
      (prbsBits (wPattern.pattern 0 0) 10 (wPattern.lane 0 0).gen).1.length = 10) ∧
    (wTestQuiet.Open ∧ (wTestQuiet.port 0).state = 4 ∧ wTestQuiet.rd (Reg.lanePrbsCtl 0 0) = 0 ∧
      (wTestQuiet.port 0).receives 0 = false ∧ bit 13 0 = true ∧ bit 13 1 = false) ∧
    (wTestQuiet.rd (Reg.lanePrbsCtl 0 3) = 0 ∧ (wTestQuiet.port 0).receives 3 = true ∧ bit 2 0 = false ∧
      bit 2 1 = true) ∧
    (wPattern.Open ∧ wPattern.rd (Reg.lanePrbsCtl 0 0) = 1) :=
  ⟨by decide, by decide, by decide, by decide, by decide, by decide, by decide, by decide, by decide, by decide, by decide,
    by decide, by decide⟩

theorem met_alarms_and_splits :
    (wNvsBusy.power.move = .none ∧ (wNvsBusy.port 0).state = 2 ∧ (wNvsBusy.port 0).role = 1 ∧
      (wNvsBusy.port 0).inService = 3 ∧ (wNvsBusy.port 0).retired = 0 ∧ wNvsBusy.nvs.current ≠ none ∧
      wNvsBusy.b (Reg.lanePrbsCtl 0 2) 0 = false ∧ 0x83 = Nat.xor (Nat.xor 0x7D 1) 0xFF ∧ (wNvsBusy.port 0).dsSweep = false) ∧
    (looped.power.move = .none ∧ (looped.port 1).state ≠ 0 ∧ (looped.port 1).role = 2 ∧ 0 = Nat.xor (Nat.xor 255 0) 0xFF ∧
      1 ≠ Nat.xor (Nat.xor 255 0) 0xFF) ∧
    ((looped.port 1).role = 2 ∧ (looped.port 1).ckLost = true ∧ (looped.port 1).split = false ∧
      (looped.port (partner 1)).split = false ∧ (looped.chain (partner 1)).looped = true ∧ (looped.port 1).role ≠ 1) ∧
    ((wall 1).power.move = .none ∧ ((wall 1).port 0).ckLost = false ∧ ((wall 1).port 0).role = 1 ∧
      ((wall 1).chain 0).looped = false ∧ (wall 1).faultg.fatal = false ∧ (wall 1).faultg.clove = false) :=
  ⟨by decide, by decide, by decide, by decide⟩

theorem met_link_frames_flow :
    ((wall 1).power.move = .none ∧ (∀ l, l < 4 → (wall 1).generates 0 l = false) ∧ ((wall 1).port 0).state = 2 ∧
      ((wall 1).port 0).role = 1 ∧
      [0, 1] = (List.range 4).filter (fun l => bit 3 l && ((wall 1).port 0).carries l)) ∧
    (looped.power.move = .none ∧ (∀ l, l < 4 → looped.generates 1 l = false) ∧ (looped.port 1).state = 2 ∧
      (looped.port 1).role = 2 ∧ (looped.port 1).split = false ∧ bit 8 3 = true) ∧
    (wTraining.power.move = .none ∧ (∀ l, l < 4 → wTraining.generates 0 l = false) ∧ (wTraining.port 0).state ≠ 2) ∧
    (wPattern.power.move = .none ∧ wPattern.generates 0 0 = true ∧ wPattern.loops 0 = false) ∧
    (wNextFrame.power.move = .none ∧ (wNextFrame.port 0).state = 2 ∧ wNextFrame.hears 0 3 = true ∧ wNextFrame.checks 0 3 = false ∧
      (wNextFrame.lane 0 3).aligned = true ∧ wNextFrame.frameLanes 0 = [3] ∧ (wNextFrame.lane 0 3).errs = [] ∧
      (wNextFrame.lane 0 3).frame = [] ∧ (wNextFrame.lane 0 3).alarm = none ∧ (wNextFrame.port 0).rxHeld = [] ∧
      (wNextFrame.port 0).rxSeq = some 7) ∧
    (aFrame.length = 256 ∧ wd aFrame 0 = symLfs ∧ (∀ x, x ∈ aFrame.drop 1 → x < 256) ∧ frameGood aFrame = true ∧
      symByte (wd aFrame 1) = 7 ∧ (aFrame.set 1 8).length = 256 ∧ wd (aFrame.set 1 8) 0 = symLfs ∧
      (∀ x, x ∈ (aFrame.set 1 8).drop 1 → x < 256) ∧ frameGood (aFrame.set 1 8) = false) ∧
    (((wall 1).port 0).rxSeq = none ∧ (wall 1).frameLanes 0 = [3]) ∧
    (wSkipped.port 0).rxSeq = some 5 ∧
    (window 1).power.move = .none ∧
    ((wIdleLane.port 0).idle ≠ 0 ∧
      8192 * fld (wIdleLane.codec (wIdleLane.pipeOf 0)).gov 20 16 ≤ backlogBits wIdleLane 0) ∧
    ((wall 1).port 0).idle = 0 :=
  ⟨by decide, by decide, by decide, by decide, by decide, by decide +kernel, by decide, by decide, by decide, by decide, by decide⟩

theorem met_packets_are_acted_on :
    ((arrived (rspOf 3) wAsked).power.move = .none ∧ (arrived (rspOf 3) wAsked).portEngineOn 0 = true ∧
      takeRx 0 5 (arrived (rspOf 3) wAsked) = some (rspOf 3, takenRx 5 (arrived (rspOf 3) wAsked)) ∧
      ((takenRx 5 (arrived (rspOf 3) wAsked)).port 0).cmds.find? (fun c => c.sent && c.hop == (rspOf 3).hop && c.tag
          == wd (rspOf 3).body 0) = some aCmd ∧
      aCmd.owner = CmdOwner.tile 0 0 ∧ (arrived (rspOf 3) wAsked).jobAt 0 0 = some (runOf (cmdDesc 1)) ∧
      0 < fld (wd (runOf (cmdDesc 1)).desc 3) 31 16 ∧ 1 < (rspOf 3).body.length) ∧
    ((arrived (rspOf 4) wAsked).power.move = .none ∧ (arrived (rspOf 4) wAsked).portEngineOn 0 = true ∧
      takeRx 0 5 (arrived (rspOf 4) wAsked) = some (rspOf 4, takenRx 5 (arrived (rspOf 4) wAsked)) ∧
      ((takenRx 5 (arrived (rspOf 4) wAsked)).port 0).cmds.find? (fun c => c.sent && c.hop == (rspOf 4).hop && c.tag
          == wd (rspOf 4).body 0) = none) ∧
    (wStoppedEngine.power.move = .none ∧ wStoppedEngine.portEngineOn 0 = false) ∧
    ((arrived (telOf 1) (wall 1)).portEngineOn 0 = true ∧ takeRx 0 6 (arrived (telOf 1) (wall 1)) = some (telOf 1, takenRx 6 (arrived (telOf 1) (wall 1))) ∧
      ((arrived (telOf 1) (wall 1)).hop ((arrived (telOf 1) (wall 1)).chainOf 0) (telOf 1).hop).present = true) ∧
    ((arrived (telOf 9) (wall 1)).portEngineOn 0 = true ∧ takeRx 0 6 (arrived (telOf 9) (wall 1)) = some (telOf 9, takenRx 6 (arrived (telOf 9) (wall 1))) ∧
      ((arrived (telOf 9) (wall 1)).hop ((arrived (telOf 9) (wall 1)).chainOf 0) (telOf 9).hop).present = false) ∧
    (((wall 1).port 1).state ≠ 2 ∧ (wall 1).portEngineOn 0 = true ∧ ((wall 1).port 0).state = 2 ∧
      ((wall 1).hop ((wall 1).chainOf 0) 1).present = true ∧
      ((wall 1).hop ((wall 1).chainOf 0) 1).silent = false ∧ (wall 1).feeder ((wall 1).chainOf 0) 1 = 0) ∧
    ((wSilent.hop (wSilent.chainOf 0) 1).silent = true ∧ (wSilent.port 0).state = 2 ∧
      (wSilent.hop (wSilent.chainOf 0) 1).present = true) ∧
    ((wResend.port 0).state = 2 ∧ (wResend.port 0).sends = true ∧ (wResend.port 0).clove = true ∧
      (wResend.port 0).dsc = true ∧ (wResend.port 0).resumeLeft ≠ 0) :=
  ⟨by decide, by decide, by decide, by decide, by decide, by decide, by decide, by decide⟩

theorem met_enumeration_runs :
    (((wSettled 255).port 0).enum = EnumStage.settle true ∧ (wSettled 255).portEngineOn 0 = true ∧ ((wSettled 255).port 0).state = 2 ∧
      ((wSettled 255).port 0).role = 1 ∧ ((wSettled 255).port 0).split = false ∧ (wSettled 255).isFeed 0 = true ∧
      ((wSettled 255).port 0).depth = 255) ∧
    ((wConfig 2).power.move = .none ∧ (wConfig 2).portEngineOn 0 = true ∧ ((wConfig 2).port 0).enum = EnumStage.config 1 2) ∧
    ((wConfig 3).power.move = .none ∧ (wConfig 3).portEngineOn 0 = true ∧ ((wConfig 3).port 0).enum = EnumStage.config 1 3) ∧
    (wStoppedEngine.power.move = .none ∧ wStoppedEngine.portEngineOn 0 = false) :=
  ⟨by decide, by decide, by decide, by decide⟩

theorem met_power_transitions_advance :
    ((wIdleCount 2).b Reg.powerSelfref 0 = true ∧
      (wIdleCount 2).f Reg.powerSelfref 31 16 ≤ (wIdleCount 2).power.idleCount ∧ (wIdleCount 2).power.move = .none ∧
      (wIdleCount 2).power.state = .run ∧ (wIdleCount 2).scan.state = .running) ∧
    ((wIdleCount 1).b Reg.powerSelfref 0 = true ∧
      (wIdleCount 1).power.idleCount < (wIdleCount 1).f Reg.powerSelfref 31 16) ∧
    (wRetention.power.move = .entry 5 false ∧ wRetention.power.selfTest = false ∧
      (∀ p, p < 32 → (wRetention.port p).state ≠ 6) ∧ wRetention.power.fromRing = none ∧
      wRetention.power.heldWake = 0 ∧ wRetention.fuse.retMv = wRetention.power.confirmedMv) ∧
    (wKeepEntry.power.move = .keepEntry ∧ wKeepEntry.power.heldWake = 0) ∧
    (wAccrualGap.power.move = .wake 1 ∧ wAccrualGap.alert.waiting = false ∧ wAccrualGap.anise = true ∧
      wAccrualGap.scan.state = .held) ∧
    (wWake.power.move = .wake 3 ∧ wWake.alert.waiting = false ∧ wWake.scan.state = .held ∧
      (3 = 1 → wWake.anise = false ∨ wWake.scan.state ≠ .held)) ∧
    (engines.power.state = .run ∧ engines.glob.phase = 8 ∧ engines.nvs.current = none) :=
  ⟨by decide, by decide, by decide, by decide, by decide, by decide, by decide⟩

theorem met_voltage_steps_and_ltr :
    ((wRamp 701 1).power.avsStep = some 701 ∧ 701 < (wRamp 701 1).power.rampTo ∧ (wRamp 701 1).power.avsTries < 3) ∧
    ((wRamp 800 3).power.avsStep = some 800 ∧ 800 = (wRamp 800 3).power.rampTo ∧ (wRamp 800 3).power.move = .none ∧
      (wRamp 800 3).power.poll = none ∧ 3 ≤ (wRamp 800 3).power.avsTries ∧ (wRamp 800 3).power.confirmedMv < 800 ∧
      (wRamp 800 3).faultg.fatal = false) ∧
    (wVoltage.power.avsStep = none ∧ wVoltage.glob.phase = 3 ∧ wVoltage.power.confirmedMv < wVoltage.fuse.runMv) ∧
    (up.power.avsStep = none ∧ up.glob.phase ≠ 3) ∧
    ((wall 1).Open ∧ 0 < fld 65537 9 0 ∧ 0 < fld 65537 25 16 ∧ (wall 1).power.state = .run) ∧
    (held.Open ∧ 0 < fld 67044351 9 0 ∧ 0 < fld 67044351 25 16 ∧ held.power.state = .hold) :=
  ⟨by decide, by decide, by decide, by decide, by decide, by decide⟩

theorem met_service_and_time_events :
    (held.power.state = .hold ∧ held.power.move = .none ∧ held.power.serving = false ∧ held.power.heldEvents = [] ∧
      held.fuse.runMv = held.power.confirmedMv ∧ held.b Reg.powerWakeEn 2 = false) ∧
    (wServing.power.state = .hold ∧ wServing.power.move = .none ∧ wServing.power.serving = true ∧
      wServing.fuse.retMv = wServing.power.confirmedMv ∧ wServing.b Reg.powerWakeEn 2 = false) ∧
    (wLow.power.state = .hold ∧ wLow.power.move = .none ∧ wLow.power.serving = false ∧ wLow.power.heldEvents = [] ∧
      wLow.b Reg.powerWakeEn 2 = true ∧ wLow.power.poll = none ∧ wLow.power.confirmedMv < wLow.fuse.runMv) ∧
    (wPolled.power.state = .hold ∧ wPolled.power.move = .none ∧ wPolled.power.serving = false ∧
      wPolled.power.heldEvents = [] ∧ wPolled.fuse.runMv = wPolled.power.confirmedMv ∧
      wPolled.b Reg.powerWakeEn 2 = false ∧ wPolled.power.poll = some [] ∧ wPolled.power.pollEvent = false) ∧
    up.power.poll = none ∧
    (kept.power.state = .keep ∧ kept.time.running = false ∧ kept.time.timeclk = true ∧ kept.power.keepLost = false ∧
      kept.b Reg.powerWakeEn 3 = false) ∧
    (keptLost.power.state = .keep ∧ keptLost.time.running = false ∧ keptLost.time.timeclk = false ∧
      keptLost.power.keepLost = true) ∧
    ((advance 10 (wAlarm 100)).time.arm = true ∧ (advance 10 (wAlarm 100)).power.state = .run ∧
      (advance 10 (wAlarm 100)).power.move = .none ∧
      (advance 10 (wAlarm 100)).time.alarm ≤ (advance 10 (wAlarm 100)).time.count) ∧
    ((advance 10 (wAlarm 101)).time.arm = true ∧ (advance 10 (wAlarm 101)).power.state = .run ∧
      (advance 10 (wAlarm 101)).power.move = .none ∧
      (advance 10 (wAlarm 101)).time.count < (advance 10 (wAlarm 101)).time.alarm) ∧
    (advance 10 (wall 1)).time.arm = false :=
  ⟨by decide, by decide, by decide, by decide, by decide, by decide, by decide, by decide, by decide, by decide⟩

theorem met_fault_logic_acts :
    (wDry.Open ∧ wDry.dry = true ∧ (forcesHalt 2 3 = true → wDry.b Reg.faultgInject 0 = true) ∧
      recordUnit wDry 2 = (2, false)) ∧
    (wall 1).Open ∧
    (wClove.Open ∧ wClove.resumeAllowed = true ∧ wClove.scan.state = .running) ∧
    (wCloveStopped.Open ∧ wCloveStopped.resumeAllowed = true ∧ wCloveStopped.scan.state ≠ .running) ∧
    (wSelfTest.power.move = .none ∧ wSelfTest.power.selfTest = true) ∧
    (wWaiting.memc.waiting = [{ channel := 0, cls := 3, group := 8, who := 0 }] ++ aMemReq :: [] ∧
      (∀ x ∈ [({ channel := 0, cls := 3, group := 8, who := 0 } : MemReq)], ¬(x.channel = 0 ∧ x.cls = 4)) ∧
      aMemReq.channel = 0 ∧ aMemReq.cls = 4) ∧
    ((∀ (r : MemReq), r ∈ (wall 1).memc.waiting → ¬(r.channel = 0 ∧ r.cls = 4))) ∧
    ((wall 1).power.move = .none ∧ (wall 1).memc.trained = true ∧ (wall 1).power.selfRefresh = false ∧
      (wall 1).power.coreOff = false ∧ ((wall 1).channel 15).lost = false) ∧
    (wLost.power.move = .none ∧ (wLost.channel 15).lost = true) ∧
    ((JtagInstr.highz = JtagInstr.extest ∨ JtagInstr.highz = JtagInstr.clamp ∨ JtagInstr.highz = JtagInstr.highz) ∧
      engines.faultg.fatal = false) ∧
    (JtagInstr.samplePreload = JtagInstr.bypass ∨ JtagInstr.samplePreload = JtagInstr.samplePreload) :=
  ⟨by decide, by decide, by decide, by decide, by decide, by decide, by decide, by decide, by decide, by decide, by decide⟩

theorem met_spares_take_over :
    (engines.power.move = .none ∧ (engines.engine 7).running = true ∧ (engines.engine 7).failed = false ∧ 7 % 9 ≠ 8 ∧
      engines.spareEngine (7 / 9) = true) ∧
    (engines.engine 9).running = false ∧
    (wTakeover.power.move = .none ∧ (wTakeover.engine 4).takeover = true ∧
      4 % 9 ≠ 8 ∧ wTakeover.nvs.current ≠ none ∧ (wTakeover.engine (9 * (4 / 9) + 8)).failed = false ∧
      wTakeover.faultg.fatal = false) ∧
    (engines.engine 1).takeover = false ∧
    (wPipeTakeover.power.move = .none ∧ (wPipeTakeover.span 0).pipeTakeover = some 0 ∧
      bit (wPipeTakeover.span 0).pipeFailed 4 = false ∧ 0 / 4 = 0 ∧ (wPipeTakeover.span 0).slots.length = 4 ∧
      wPipeTakeover.nvs.current ≠ none ∧ (wPipeTakeover.pipe (wPipeTakeover.pipeOf 0)).sweep = none) ∧
    (engines.span 0).pipeTakeover = none ∧
    ((engines.channel 3).lost = false ∧ engines.faultg.fatal = false ∧ engines.scan.state ≠ .stopped) ∧
    (((wall 1).channel 3).lost = false ∧ (wall 1).faultg.fatal = false ∧ (wall 1).scan.state = .stopped) ∧
    (wLost.power.move = .none ∧ (wLost.channel 15).lost = true) ∧
    (engines.power.state ≠ .keep ∧ engines.power.state = .run ∧ engines.glob.phase = 8 ∧ engines.nvs.current = none) ∧
    kept.power.state = .keep :=
  ⟨by decide, by decide, by decide, by decide, by decide, by decide, by decide, by decide, by decide, by decide, by decide⟩

theorem met_start_up_phases_end :
    (phaseAt 0).glob.phase = 0 ∧
    ((phaseAt 1).glob.phase = 1 ∧ (takeFuses [(0, 5), (255, 7)] (phaseAt 1)).fuse.ue = false) ∧
    ((settleTrims (phaseAt 2)).glob.phase = 2 ∧ (settleTrims (phaseAt 2)).trimSteps = 0) ∧
    ((phaseAt 3).glob.phase = 3 ∧ (phaseAt 3).power.avsStep = none ∧
      (phaseAt 3).fuse.runMv ≤ (phaseAt 3).power.confirmedMv) ∧
    ((phaseAt 4).glob.phase = 4 ∧ (phaseAt 4).nvs.scanned = false ∧ (phaseAt 4).faultg.fatal = false) ∧
    (phaseAt 5).glob.phase = 5 ∧
    ((phaseAt 6).glob.phase = 6 ∧ (∀ m, m < 16 → ((phaseAt 6).channel m).repairs = [] ∧ bit 65535 m = true)) ∧
    ((phaseAt 7).glob.phase = 7 ∧ (phaseAt 7).faultg.clove = false ∧ (phaseAt 7).faultg.fatal = false) ∧
    (phaseAt 3).glob.phase < 4 ∧
    4 ≤ (phaseAt 4).glob.phase ∧
    (wReload.fuse.reloading = true ∧ (takeFuses [(0, 1)] wReloaded).fuse.ue = false) ∧
    (wMemInit.memc.initialising = true ∧ wMemInit.memLost = false) :=
  ⟨by decide, by decide, ⟨by rw [settleTrims_glob]; rfl, settleTrims_steps _⟩, by decide, by decide, by decide, by
    decide, by decide, by decide, by decide, by decide, by decide⟩

theorem met_resets_take_effect :
    engines.nvs.current ≠ some NvsOp.powerSave ∧
    wSave.nvs.current = some NvsOp.powerSave ∧
    ((Instr.pcieReset, 2) ∈ [(Instr.pcieReset, 2), (Instr.functionLevelReset, 3)] ∧ wStored.power.move = .none ∧
      (∀ (j : Job), j ∈ wStored.jobs → ¬(j.opcode = 2 ∧ j.stage = .running)) ∧ wStored.MemOk) ∧
    (Instr.functionLevelReset, 3) ∈ [(Instr.pcieReset, 2), (Instr.functionLevelReset, 3)] :=
  ⟨by decide, by decide, by decide, by decide⟩

theorem met_steps_keep_memory_canonical :
    wInitEnd.MemOk ∧ step wInitEnd = exec Instr.memoryInitialiseEnd { wInitEnd with pending := [] } := ⟨by decide, rfl⟩

end Sys2Proof.Tests
end

/-! ## The register map round trip (O4)

One lemma per range of the map in each direction: `_sound` from what is found to its address, `locate_` from an address of
the range to what is found there. -/

namespace Sys2Proof.Machine

/-- A register that a fault set holds lies in it. -/
theorem locateFault_sound {u o : Nat} {r : Reg} (h : locateFault u o = some r) :
    r.addr = faultBase u + o ∧ r.inMap = decide (u < 182) := by
  unfold locateFault at h
  split at h <;> cases h <;> exact ⟨rfl, rfl⟩

/-- A register that layer n's block holds lies in it (R126). -/
theorem locateLayer_sound {n o : Nat} {r : Reg} (h : locateLayer n o = some r) :
    r.addr = o + 0xA1000 + 0x40 * n ∧ r.inMap = decide (n < 64) := by
  unfold locateLayer at h
  split at h <;> cases h <;> exact ⟨rfl, rfl⟩

/-- A register that ring n's context holds lies in it (R62). -/
theorem locateRing_sound {n o : Nat} {r : Reg} (h : locateRing n o = some r) :
    r.addr = 0x200000 + 0x40 * n + o ∧ r.inMap = decide (n < 8192) := by
  unfold locateRing at h
  split at h <;> cases h <;> exact ⟨rfl, rfl⟩

/-- A register that a lane's block holds lies in it (R280). -/
theorem locateLane_sound {p l o : Nat} {r : Reg} (h : locateLane p l o = some r) :
    r.addr = 0x600000 + 0x4000 * p + 0x40 * l + (o + 0x100) ∧ r.inMap = decide (p < 32 ∧ l < 4) := by
  unfold locateLane at h
  split at h <;> cases h <;> exact ⟨rfl, rfl⟩

/-- Span s's fault set lies at the end of its block (R404). -/
theorem faultBase_span {s : Nat} (h : s < 8) : faultBase (14 + s) = 0x400000 + 0x20000 * s + 0x3E0 := by
  unfold faultBase
  rw [if_neg (by omega), if_pos (by omega)]
  omega

/-- Engine e's fault set lies in its block (R404). -/
theorem faultBase_engine {e : Nat} (h : e < 72) : faultBase (22 + e) = 0x500000 + 0x1000 * e + 0x3E0 := by
  unfold faultBase
  rw [if_neg (by omega), if_neg (by omega), if_pos (by omega)]
  omega

/-- Port p's fault set lies in its block (R404). -/
theorem faultBase_port {p : Nat} (h : p < 32) : faultBase (94 + p) = 0x600000 + 0x4000 * p + 0x3E0 := by
  unfold faultBase
  iterate 3 rw [if_neg (by omega)]
  rw [if_pos (by omega)]
  omega

/-- Codec context i's fault set lies in its block (R404). -/
theorem faultBase_codec {i : Nat} (h : i < 40) : faultBase (126 + i) = 0x700000 + 0x400 * i + 0x3E0 := by
  unfold faultBase
  iterate 4 rw [if_neg (by omega)]
  rw [if_pos (by omega)]
  omega

/-- Memory channel m's fault set lies in its own page of the MEMC block (R404). -/
theorem faultBase_channel (m : Nat) : faultBase (166 + m) = 0x101000 + 0x1000 * m + 0x3E0 := by
  unfold faultBase
  iterate 5 rw [if_neg (by omega)]
  omega

/-- A register that span s's block holds lies in it, its fault set included. -/
theorem locateSpan_sound {s o : Nat} {r : Reg} (hs : s < 8) (h : locateSpan s o = some r) :
    r.addr = 0x400000 + 0x20000 * s + o ∧ r.inMap = true := by
  unfold locateSpan at h
  split at h
  case h_15 =>
    split at h
    · obtain ⟨ha, hm⟩ := locateFault_sound h
      rw [ha, hm, faultBase_span hs, decide_eq_true_eq]
      omega
    · cases h
  all_goals cases h; simp [Reg.addr, Reg.inMap, hs, Nat.add_assoc]

/-- A register that engine e's block holds lies in it, its fault set included. -/
theorem locateEngine_sound {e o : Nat} {r : Reg} (he : e < 72) (h : locateEngine e o = some r) :
    r.addr = 0x500000 + 0x1000 * e + o ∧ r.inMap = true := by
  unfold locateEngine at h
  split at h
  case h_3 =>
    split at h
    · obtain ⟨ha, hm⟩ := locateFault_sound h
      rw [ha, hm, faultBase_engine he, decide_eq_true_eq]
      omega
    · cases h
  all_goals cases h; exact ⟨rfl, decide_eq_true he⟩

/-- A register that port p's block holds lies in it, its lanes and its fault set included. -/
theorem locatePort_sound {p o : Nat} {r : Reg} (hp : p < 32) (h : locatePort p o = some r) :
    r.addr = 0x600000 + 0x4000 * p + o ∧ r.inMap = true := by
  unfold locatePort at h
  split at h
  case h_14 =>
    split at h
    · obtain ⟨ha, hm⟩ := locateLane_sound h
      rw [ha, hm, decide_eq_true_eq]
      omega
    · split at h
      · obtain ⟨ha, hm⟩ := locateFault_sound h
        rw [ha, hm, faultBase_port hp, decide_eq_true_eq]
        omega
      · cases h
  all_goals cases h; exact ⟨rfl, decide_eq_true hp⟩

/-- A register that codec context i's block holds lies in it, its fault set included. -/
theorem locateCodec_sound {i o : Nat} {r : Reg} (hi : i < 40) (h : locateCodec i o = some r) :
    r.addr = 0x700000 + 0x400 * i + o ∧ r.inMap = true := by
  unfold locateCodec at h
  split at h
  case h_10 =>
    split at h
    · obtain ⟨ha, hm⟩ := locateFault_sound h
      rw [ha, hm, faultBase_codec hi, decide_eq_true_eq]
      omega
    · cases h
  all_goals cases h; exact ⟨rfl, decide_eq_true hi⟩

/-- A register that a device block's fault set holds lies in it. -/
theorem locateDevFault_sound {a : Nat} {r : Reg} (h : locateDevFault a = some r) : r.addr = a ∧ r.inMap = true := by
  obtain ⟨b, hb, h⟩ := List.exists_of_findSome?_eq_some h
  split at h
  · obtain ⟨ha, hm⟩ := locateFault_sound h
    rw [ha, hm, decide_eq_true_eq]
    rw [List.mem_range] at hb
    omega
  · cases h

/-- A register that stands alone has no unit number that the map could bound. -/
theorem fixedRegs_inMap : ∀ r ∈ fixedRegs, r.inMap = true := by decide +kernel

/-- A register found alone, or in a device block's fault set, lies where it was looked for. -/
theorem locateFixed_sound {a : Nat} {r : Reg}
    (h : (fixedRegs.find? (fun r => r.addr == a)).or (locateDevFault a) = some r) : r.addr = a ∧ r.inMap = true := by
  rcases Option.or_eq_some_iff.mp h with h | ⟨-, h⟩
  · exact ⟨by simpa using List.find?_some h, fixedRegs_inMap r (List.mem_of_find?_eq_some h)⟩
  · exact locateDevFault_sound h

/-- What the map holds at an aligned address lies at that address, its unit numbers within the map (R450, R451). -/
theorem locate_sound {a : Nat} {r : Reg} (ha : a % 4 = 0) (h : locate a = some r) : r.addr = a ∧ r.inMap = true := by
  unfold locate at h
  rcases ite_eq_iff.mp h with ⟨-, h⟩ | ⟨_, h⟩
  · -- the arrays of single words
    iterate 7
      rcases ite_eq_iff.mp h with ⟨_, h⟩ | ⟨-, h⟩
      · cases h
        simp only [Reg.addr, Reg.inMap, decide_eq_true_eq]
        omega
    rcases ite_eq_iff.mp h with ⟨_, h⟩ | ⟨-, h⟩
    · obtain ⟨hr, hm⟩ := locateLayer_sound h
      rw [hr, hm, decide_eq_true_eq]
      omega
    rcases ite_eq_iff.mp h with ⟨_, h⟩ | ⟨-, h⟩
    · -- the residency regions
      split at h <;> cases h <;> simp only [Reg.addr, Reg.inMap, decide_eq_true_eq] <;> omega
    rcases ite_eq_iff.mp h with ⟨_, h⟩ | ⟨-, h⟩
    · rcases ite_eq_iff.mp h with ⟨_, h⟩ | ⟨-, h⟩
      · obtain ⟨hr, hm⟩ := locateFault_sound h
        rw [hr, hm, faultBase_channel, decide_eq_true_eq]
        omega
      · cases h
    · exact locateFixed_sound h
  · rcases ite_eq_iff.mp h with ⟨_, h⟩ | ⟨-, h⟩
    · obtain ⟨hr, hm⟩ := locateRing_sound h
      rw [hr, hm, decide_eq_true_eq]
      omega
    rcases ite_eq_iff.mp h with ⟨_, h⟩ | ⟨-, h⟩
    · obtain ⟨hr, hm⟩ := locateSpan_sound (by omega) h
      exact ⟨by omega, hm⟩
    rcases ite_eq_iff.mp h with ⟨_, h⟩ | ⟨-, h⟩
    · obtain ⟨hr, hm⟩ := locateEngine_sound (by omega) h
      exact ⟨by omega, hm⟩
    rcases ite_eq_iff.mp h with ⟨_, h⟩ | ⟨-, h⟩
    · obtain ⟨hr, hm⟩ := locatePort_sound (by omega) h
      exact ⟨by omega, hm⟩
    rcases ite_eq_iff.mp h with ⟨_, h⟩ | ⟨-, h⟩
    · obtain ⟨hr, hm⟩ := locateCodec_sound (by omega) h
      exact ⟨by omega, hm⟩
    rcases ite_eq_iff.mp h with ⟨_, h⟩ | ⟨-, h⟩
    · rcases ite_eq_iff.mp h with ⟨_, h⟩ | ⟨-, h⟩
      · cases h
        simp only [Reg.addr, Reg.inMap, decide_eq_true_eq]
        omega
      · cases h
    · cases h

/-! ### Each range of the map, by its instances and their offsets -/

/-- DW i of the pending-bit array. -/
theorem locate_msixPba {i : Nat} (h : i < 64) : locate (0x17F00 + 4 * i) = some (.msixPba i) := by
  unfold locate
  rw [if_pos (by omega), if_pos (by omega), Nat.add_sub_cancel_left, Nat.mul_div_cancel_left _ (by decide)]

/-- DW i of the MSI-X table. -/
theorem locate_msixTable {i : Nat} (h : i < 8192) : locate (0x18000 + 4 * i) = some (.msixTable i) := by
  unfold locate
  rw [if_pos (by omega), if_neg (by omega), if_pos (by omega),
    Nat.add_sub_cancel_left, Nat.mul_div_cancel_left _ (by decide)]

/-- HOSTIF_EVENT_ROUTE of code c. -/
theorem locate_eventRoute {c : Nat} (h : c < 16) : locate (0x10400 + 4 * c) = some (.hostifEventRoute c) := by
  unfold locate
  rw [if_pos (by omega), if_neg (by omega), if_neg (by omega), if_pos (by omega),
    Nat.add_sub_cancel_left, Nat.mul_div_cancel_left _ (by decide)]

/-- DW i of the NVS buffer. -/
theorem locate_nvsBuf {i : Nat} (h : i < 512) : locate (0x41000 + 4 * i) = some (.nvsBuf i) := by
  unfold locate
  rw [if_pos (by omega)]
  iterate 3 rw [if_neg (by omega)]
  rw [if_pos (by omega), Nat.add_sub_cancel_left, Nat.mul_div_cancel_left _ (by decide)]

/-- FAULTG_PENDING w. -/
theorem locate_faultgPending {w : Nat} (h : w < 36) : locate (0x60100 + 4 * w) = some (.faultgPending w) := by
  unfold locate
  rw [if_pos (by omega)]
  iterate 4 rw [if_neg (by omega)]
  rw [if_pos (by omega), Nat.add_sub_cancel_left, Nat.mul_div_cancel_left _ (by decide)]

/-- FAULTG_VECTOR of source i. -/
theorem locate_faultgVector {i : Nat} (h : i < 1152) : locate (0x61000 + 4 * i) = some (.faultgVector i) := by
  unfold locate
  rw [if_pos (by omega)]
  iterate 5 rw [if_neg (by omega)]
  rw [if_pos (by omega), Nat.add_sub_cancel_left, Nat.mul_div_cancel_left _ (by decide)]

/-- SCAN_CHAIN of port p. -/
theorem locate_scanChain {p : Nat} (h : p < 32) : locate (0x80200 + 4 * p) = some (.scanChain p) := by
  unfold locate
  rw [if_pos (by omega)]
  iterate 6 rw [if_neg (by omega)]
  rw [if_pos (by omega), Nat.add_sub_cancel_left, Nat.mul_div_cancel_left _ (by decide)]

/-- RES_REGION_POS of region n. -/
theorem locate_resRegionPos {n : Nat} (h : n < 16) : locate (0xF0100 + 0x10 * n) = some (.resRegionPos n) := by
  have hq : (0xF0100 + 0x10 * n - 0xF0100) / 0x10 = n := by omega
  have hr : (0xF0100 + 0x10 * n - 0xF0100) % 0x10 = 0 := by omega
  unfold locate
  rw [if_pos (by omega)]
  iterate 8 rw [if_neg (by omega)]
  rw [if_pos (by omega), hq, hr]
  rfl

/-- RES_REGION_SIZE of region n. -/
theorem locate_resRegionSize {n : Nat} (h : n < 16) : locate (0xF0104 + 0x10 * n) = some (.resRegionSize n) := by
  have hq : (0xF0104 + 0x10 * n - 0xF0100) / 0x10 = n := by omega
  have hr : (0xF0104 + 0x10 * n - 0xF0100) % 0x10 = 4 := by omega
  unfold locate
  rw [if_pos (by omega)]
  iterate 8 rw [if_neg (by omega)]
  rw [if_pos (by omega), hq, hr]
  rfl

/-- RES_REGION_CTL of region n. -/
theorem locate_resRegionCtl {n : Nat} (h : n < 16) : locate (0xF0108 + 0x10 * n) = some (.resRegionCtl n) := by
  have hq : (0xF0108 + 0x10 * n - 0xF0100) / 0x10 = n := by omega
  have hr : (0xF0108 + 0x10 * n - 0xF0100) % 0x10 = 8 := by omega
  unfold locate
  rw [if_pos (by omega)]
  iterate 8 rw [if_neg (by omega)]
  rw [if_pos (by omega), hq, hr]
  rfl

/-- DOORBELL of ring n, at its address as written in the map. -/
theorem locate_doorbellWord {n : Nat} (h : n < 8192) : locate (0x1000000 + 0x40 * n) = some (.doorbell n) := by
  have haddr : (Reg.doorbell n).addr / 4 * 4 = 0x1000000 + 0x40 * n := by
    simp only [Reg.addr]
    omega
  rw [← haddr, locate_doorbell n h]

/-- Offset o of layer n. -/
theorem locate_layer {n o : Nat} (hn : n < 64) (ho : o < 0x40) : locate (o + 0xA1000 + 0x40 * n) = locateLayer n o := by
  have hq : (o + 0xA1000 + 0x40 * n - 0xA1000) / 0x40 = n := by omega
  have hr : (o + 0xA1000 + 0x40 * n - 0xA1000) % 0x40 = o := by omega
  unfold locate
  rw [if_pos (by omega)]
  iterate 7 rw [if_neg (by omega)]
  rw [if_pos (by omega), hq, hr]

/-- Offset o of ring n's context. -/
theorem locate_ring {n o : Nat} (hn : n < 8192) (ho : o < 0x40) : locate (0x200000 + 0x40 * n + o) = locateRing n o := by
  have hq : (0x200000 + 0x40 * n + o - 0x200000) / 0x40 = n := by omega
  have hr : (0x200000 + 0x40 * n + o - 0x200000) % 0x40 = o := by omega
  unfold locate
  rw [if_neg (by omega), if_pos (by omega), hq, hr]

/-- Offset o of span s's block. -/
theorem locate_span {s o : Nat} (hs : s < 8) (ho : o < 0x20000) : locate (0x400000 + 0x20000 * s + o) = locateSpan s o := by
  have hq : (0x400000 + 0x20000 * s + o - 0x400000) / 0x20000 = s := by omega
  have hr : (0x400000 + 0x20000 * s + o - 0x400000) % 0x20000 = o := by omega
  unfold locate
  rw [if_neg (by omega), if_neg (by omega), if_pos (by omega), hq, hr]

/-- SPAN_LB_STATUS of pipe j of span s. -/
theorem locate_lbStatus {s j : Nat} (hs : s < 8) (hj : j < 5) :
    locate (0x400000 + 0x20000 * s + 4 * j + 0x210) = some (.spanLbStatus s j) := by
  rw [Nat.add_assoc, locate_span hs (by omega)]
  interval_cases j <;> rfl

/-- Offset o of engine e's block. -/
theorem locate_engine {e o : Nat} (he : e < 72) (ho : o < 0x1000) :
    locate (0x500000 + 0x1000 * e + o) = locateEngine e o := by
  have hq : (0x500000 + 0x1000 * e + o - 0x500000) / 0x1000 = e := by omega
  have hr : (0x500000 + 0x1000 * e + o - 0x500000) % 0x1000 = o := by omega
  unfold locate
  iterate 3 rw [if_neg (by omega)]
  rw [if_pos (by omega), hq, hr]

/-- Offset o of port p's block. -/
theorem locate_port {p o : Nat} (hp : p < 32) (ho : o < 0x4000) : locate (0x600000 + 0x4000 * p + o) = locatePort p o := by
  have hq : (0x600000 + 0x4000 * p + o - 0x600000) / 0x4000 = p := by omega
  have hr : (0x600000 + 0x4000 * p + o - 0x600000) % 0x4000 = o := by omega
  unfold locate
  iterate 4 rw [if_neg (by omega)]
  rw [if_pos (by omega), hq, hr]

/-- Offset o of lane l in port p's block. -/
theorem locate_lane {p l o : Nat} (hp : p < 32) (hl : l < 4) (ho : o < 0x40) :
    locate (0x600000 + 0x4000 * p + 0x40 * l + (o + 0x100)) = locatePort p (0x40 * l + (o + 0x100)) := by
  rw [Nat.add_assoc, locate_port hp (by omega)]

/-- Offset o of codec context i's block. -/
theorem locate_codec {i o : Nat} (hi : i < 40) (ho : o < 0x400) : locate (0x700000 + 0x400 * i + o) = locateCodec i o := by
  have hq : (0x700000 + 0x400 * i + o - 0x700000) / 0x400 = i := by omega
  have hr : (0x700000 + 0x400 * i + o - 0x700000) % 0x400 = o := by omega
  unfold locate
  iterate 5 rw [if_neg (by omega)]
  rw [if_pos (by omega), hq, hr]

/-- Offset o of memory channel m's fault set. -/
theorem locate_channelFault {m o : Nat} (hm : m < 16) (ho : o < 0x20) :
    locate (0x101000 + 0x1000 * m + 0x3E0 + o) = locateFault (166 + m) o := by
  have hq : (0x101000 + 0x1000 * m + 0x3E0 + o - 0x101000) / 0x1000 = m := by omega
  have hr : (0x101000 + 0x1000 * m + 0x3E0 + o) % 0x1000 - 0x3E0 = o := by omega
  unfold locate
  rw [if_pos (by omega)]
  iterate 9 rw [if_neg (by omega)]
  rw [if_pos (by omega), if_pos (by omega), hq, hr]

/-- The eight words of a device block's fault set. -/
theorem locate_deviceFault : ∀ b < 14, ∀ k < 8, locate (faultBase b + 4 * k) = locateFault b (4 * k) := by decide +kernel

/-- A register that stands alone is found at its own address. -/
theorem locate_fixed : ∀ r ∈ fixedRegs, locate r.addr = some r := by decide +kernel

/-- Word k of unit u's fault set, in whichever block it lies (R404). -/
theorem locate_fault {u k : Nat} (hu : u < 182) (hk : k < 8) : locate (faultBase u + 4 * k) = locateFault u (4 * k) := by
  by_cases hdev : u < 14
  · exact locate_deviceFault u hdev k hk
  by_cases hspan : u < 22
  · obtain ⟨s, rfl⟩ : ∃ s, u = 14 + s := ⟨u - 14, by omega⟩
    rw [faultBase_span (by omega), Nat.add_assoc, locate_span (by omega) (by omega)]
    interval_cases k <;> rfl
  by_cases hengine : u < 94
  · obtain ⟨e, rfl⟩ : ∃ e, u = 22 + e := ⟨u - 22, by omega⟩
    rw [faultBase_engine (by omega), Nat.add_assoc, locate_engine (by omega) (by omega)]
    interval_cases k <;> rfl
  by_cases hport : u < 126
  · obtain ⟨p, rfl⟩ : ∃ p, u = 94 + p := ⟨u - 94, by omega⟩
    rw [faultBase_port (by omega), Nat.add_assoc, locate_port (by omega) (by omega)]
    interval_cases k <;> rfl
  by_cases hcodec : u < 166
  · obtain ⟨i, rfl⟩ : ∃ i, u = 126 + i := ⟨u - 126, by omega⟩
    rw [faultBase_codec (by omega), Nat.add_assoc, locate_codec (by omega) (by omega)]
    interval_cases k <;> rfl
  · obtain ⟨m, rfl⟩ : ∃ m, u = 166 + m := ⟨u - 166, by omega⟩
    rw [faultBase_channel, locate_channelFault (by omega) (by omega)]

/-- Every fault set starts at a whole DW. -/
theorem faultBase_aligned (u : Nat) : faultBase u % 4 = 0 := by
  unfold faultBase
  split_ifs with hdev
  · interval_cases u <;> rfl
  all_goals omega

/-- Every register starts at a whole DW (R450). -/
theorem Reg.addr_mod_four (r : Reg) : r.addr % 4 = 0 := by
  cases r with
  | faultStatus u | faultLive u | faultEnable u | faultForce u | faultFirst u | faultFirstTimeLo u | faultFirstTimeHi u
  | faultMerge u =>
    have := faultBase_aligned u
    simp only [Reg.addr]
    omega
  | _ => simp [Reg.addr, Nat.add_mod, Nat.mul_mod]

/-- A register whose unit numbers lie within the map is found at its own address (R450, R451). -/
theorem locate_addr {r : Reg} (h : r.inMap = true) : locate r.addr = some r := by
  cases r with
  | hostifEventRoute c => exact locate_eventRoute (of_decide_eq_true h)
  | nvsBuf i => exact locate_nvsBuf (of_decide_eq_true h)
  | faultgPending w => exact locate_faultgPending (of_decide_eq_true h)
  | faultgVector i => exact locate_faultgVector (of_decide_eq_true h)
  | scanChain p => exact locate_scanChain (of_decide_eq_true h)
  | msixPba i => exact locate_msixPba (of_decide_eq_true h)
  | msixTable i => exact locate_msixTable (of_decide_eq_true h)
  | doorbell n =>
    exact locate_doorbellWord (of_decide_eq_true h)
  | resRegionPos n => exact locate_resRegionPos (of_decide_eq_true h)
  | resRegionSize n => exact locate_resRegionSize (of_decide_eq_true h)
  | resRegionCtl n => exact locate_resRegionCtl (of_decide_eq_true h)
  | layerCtl n | layerWinPos n | layerWinSize n | layerCropPos n | layerCropSize n | layerSurfAddrLo n | layerSurfAddrHi n
  | layerSurfSize n | layerSurfPitch n | layerSurfFmt n =>
    exact locate_layer (of_decide_eq_true h) (by decide)
  | ringBaseLo n | ringBaseHi n | ringCfg n | ringCtl n | ringHwIndex n | ringSwIndex n | ringStatus n | ringDropped n =>
    exact locate_ring (of_decide_eq_true h) (by decide)
  | spanRingSched s | spanParkStatus s | spanBoundsAddrLo s | spanBoundsAddrHi s | spanBoundsInfo s | spanBoundsCount s
  | spanLbCfg s | spanPipeMap s | spanEngineMap s =>
    exact locate_span (of_decide_eq_true h) (by decide)
  | spanLbStatus s j =>
    obtain ⟨hs, hj⟩ := of_decide_eq_true h
    exact locate_lbStatus hs hj
  | engineStatus e | engineCeCount e => exact locate_engine (of_decide_eq_true h) (by decide)
  | portCtl p | portStatus p | portLanes p | portTxCfg p | portTiming p | portAlarm p | portCrcErr p | portCntClear p
  | portEnum p | portHopSel p | portHopStatus p | portHopTel p | portFrameErr p =>
    exact locate_port (of_decide_eq_true h) (by decide)
  | laneStatus p l | lanePrbsCtl p l | laneInject p l | laneCv p l | laneDisp p l | lanePrbsErr p l | laneSymbolsLo p l
  | laneSymbolsHi p l | laneInjected p l | laneDfe p l | laneEye p l =>
    obtain ⟨hp, hl⟩ := of_decide_eq_true h
    interval_cases l <;> exact locate_lane hp (by decide) (by decide)
  | codecCtl i | codecGov i | codecDeg i | codecStatus i | codecFlags i | codecFrameBits i | codecRawBits i | codecBlocks i
  | codecCounts i =>
    exact locate_codec (of_decide_eq_true h) (by decide)
  | faultStatus u => exact locate_fault (k := 0) (of_decide_eq_true h) (by decide)
  | faultLive u => exact locate_fault (k := 1) (of_decide_eq_true h) (by decide)
  | faultEnable u => exact locate_fault (k := 2) (of_decide_eq_true h) (by decide)
  | faultForce u => exact locate_fault (k := 3) (of_decide_eq_true h) (by decide)
  | faultFirst u => exact locate_fault (k := 4) (of_decide_eq_true h) (by decide)
  | faultFirstTimeLo u => exact locate_fault (k := 5) (of_decide_eq_true h) (by decide)
  | faultFirstTimeHi u => exact locate_fault (k := 6) (of_decide_eq_true h) (by decide)
  | faultMerge u => exact locate_fault (k := 7) (of_decide_eq_true h) (by decide)
  | _ => exact locate_fixed _ (by decide)

/-- Settles O4: a register of the map is found at its own DW, case by case of the map's ranges, and what an aligned DW
holds has that DW for its address. -/
theorem registerMapRoundTrip : Obligations.RegisterMapRoundTrip :=
  ⟨fun r h => ⟨Reg.addr_mod_four r, locate_addr h⟩, fun _ _ ha h => locate_sound ha h⟩

end Sys2Proof.Machine

/-! ## The state after reset (O3) -/

namespace Sys2Proof.Machine

/-- Every register reads its reset value after reset (R8). -/
theorem State.reset_rd (r : Reg) : State.reset.rd r = r.init % 2 ^ 32 := by
  simp [State.rd, State.reset, word]

/-- Settles O3: registers by `State.reset_rd`, and every block is at the value its structure declares. -/
theorem resetState : Obligations.ResetState :=
  ⟨State.reset_rd, rfl, rfl, rfl, rfl, rfl, fun _ => rfl, rfl, rfl, fun _ => rfl, fun _ => rfl, rfl, rfl, rfl⟩

end Sys2Proof.Machine

/-! ## What leaves device memory as it was

One lemma per function of the model that a command reaches and that writes no byte of device memory, in the order of the
model. The few functions that do write are in the next part. -/

namespace Sys2Proof.Machine

@[simp] theorem State.mem_ite (c : Prop) [Decidable c] (a b : State) :
    (if c then a else b).mem = if c then a.mem else b.mem := by
  split <;> rfl

/-- The function leaves device memory as it was, whatever the state. -/
def KeepsMem (f : State → State) : Prop := ∀ s, (f s).mem = s.mem

@[simp] theorem keepsMem_iff {f : State → State} : KeepsMem f ↔ ∀ s, (f s).mem = s.mem :=
  ⟨fun h => h, fun h => h⟩

@[simp] theorem forEach_mem {α : Type} (l : List α) (f : α → State → State) (h : ∀ a, KeepsMem (f a))
    (s : State) : (forEach l f s).mem = s.mem :=
  forEach_same _ l f h s

@[simp] theorem foldl_mem {α : Type} (l : List α) (f : State → α → State) (h : ∀ a, KeepsMem (f · a))
    (s : State) : (l.foldl f s).mem = s.mem := by
  induction l generalizing s with
  | nil => rfl
  | cons a l ih => exact (ih _).trans (h a s)

/-! ### The operations that every block shares -/

@[simp] theorem State.journal_mem (e : Nat) (x : JournalEntry) (s : State) :
    (State.journal e x s).mem = s.mem := by
  simp [State.journal]

@[simp] theorem State.checkpoint_mem (e : Nat) (s : State) : (State.checkpoint e s).mem = s.mem := rfl
@[simp] theorem sendMsix_mem (v : Nat) (s : State) : (sendMsix v s).mem = s.mem := by simp [sendMsix]
@[simp] theorem ringInterrupt_mem (n : Nat) (s : State) : (ringInterrupt n s).mem = s.mem := by simp [ringInterrupt]

@[simp] theorem ringWrite_mem (n : Nat) (words : List Nat) (s : State) :
    (ringWrite n words s).mem = s.mem := by
  simp [ringWrite]

@[simp] theorem stamp_mem (n : Nat) (s : State) : (stamp n s).2.2.mem = s.mem := rfl
@[simp] theorem writeLost_mem (n : Nat) (s : State) : (writeLost n s).mem = s.mem := (writeLost_reports n s).mem_eq

@[simp] theorem deliverEvent_mem (n : Nat) (words : List Nat) (s : State) :
    (deliverEvent n words s).mem = s.mem := by
  simp [deliverEvent]

@[simp] theorem routeEvent_mem (code : Nat) (words : List Nat) (s : State) :
    (routeEvent code words s).mem = s.mem := by
  simp [routeEvent]

@[simp] theorem raiseEventAs_mem (exempt : Bool) (src code sev : Nat) (payload : List Nat) (s : State) :
    (raiseEventAs exempt src code sev payload s).mem = s.mem :=
  (raiseEventAs_reports ..).mem_eq

@[simp] theorem raiseEvent_mem (src code : Nat) (payload : List Nat) (s : State) :
    (raiseEvent src code payload s).mem = s.mem := by
  simp [raiseEvent]

@[simp] theorem flushHeldEvents_mem (s : State) : (flushHeldEvents s).mem = s.mem := by simp [flushHeldEvents]

@[simp] theorem detectOne_mem (u k : Nat) (forced persist mergeOnly exempt : Bool) (s : State) :
    (detectOne u k forced persist mergeOnly exempt s).mem = s.mem :=
  (detectOne_reports ..).mem_eq

@[simp] theorem detectNote_mem (u k : Nat) (s : State) : (detectNote u k s).mem = s.mem := by simp [detectNote]
@[simp] theorem clearLive_mem (u k : Nat) (s : State) : (clearLive u k s).mem = s.mem := rfl
@[simp] theorem clearSticky_mem (u bits : Nat) (s : State) : (clearSticky u bits s).mem = s.mem := rfl

@[simp] theorem drainCompletions_mem (cq n : Nat) (s : State) :
    (drainCompletions cq n s).mem = s.mem :=
  (drainCompletions_reports ..).mem_eq

@[simp] theorem stopCheck_mem (n : Nat) (s : State) : (stopCheck n s).mem = s.mem := by simp [stopCheck]

@[simp] theorem writeCompletion_mem (n slot tag op st d : Nat) (s : State) :
    (writeCompletion n slot tag op st d s).mem = s.mem :=
  (writeCompletion_reports ..).mem_eq

theorem Completes.mem_eq {s t : State} (h : Completes s t) : t.mem = s.mem := by rw [h]
@[simp] theorem fenceCheck_mem (n : Nat) (s : State) : (fenceCheck n s).mem = s.mem := (fenceCheck_completes ..).mem_eq

@[simp] theorem finishJob_mem (j : Job) (status detail : Nat) (s : State) :
    (finishJob j status detail s).mem = s.mem :=
  (finishJob_completes ..).mem_eq

@[simp] theorem memRequest_mem (channel cls group who : Nat) (s : State) :
    (memRequest channel cls group who s).mem = s.mem := rfl

@[simp] theorem memRequestAll_mem (cls group who : Nat) (s : State) :
    (memRequestAll cls group who s).mem = s.mem := by
  simp [memRequestAll]

@[simp] theorem memRequestRange_mem (cls group who a n : Nat) (s : State) :
    (memRequestRange cls group who a n s).mem = s.mem := by
  simp [memRequestRange]

/-! ### The recovery record -/

@[simp] theorem installRecord_mem (b : List Nat) (s : State) :
    (installRecord b s).mem = s.mem := by
  simp [installRecord]

/-! ### Geometry -/

@[simp] theorem noteVersion_mem (s : State) : (noteVersion s).mem = s.mem := by simp [noteVersion]

/-! ### Syras packets -/

@[simp] theorem sendClv_mem (p : Nat) (s : State) : (sendClv p s).mem = s.mem := rfl
@[simp] theorem sendDsc_mem (p : Nat) (s : State) : (sendDsc p s).mem = s.mem := rfl
@[simp] theorem sendSyn_mem (p shown flags : Nat) (s : State) : (sendSyn p shown flags s).mem = s.mem := rfl
@[simp] theorem sendAlr_mem (p hop : Nat) (body : List Nat) (s : State) : (sendAlr p hop body s).mem = s.mem := rfl
@[simp] theorem sendBis_mem (p hop : Nat) (body : List Nat) (s : State) : (sendBis p hop body s).mem = s.mem := rfl

@[simp] theorem sendCmd_mem (p hop tag : Nat) (payload : List Nat) (s : State) :
    (sendCmd p hop tag payload s).mem = s.mem := rfl

@[simp] theorem pumpCmds_mem (p : Nat) (s : State) : (pumpCmds p s).mem = s.mem := by
  refine forEach_mem _ _ (fun i t => ?_) s
  split
  · split <;> simp
  · rfl

@[simp] theorem ownCmd_mem (p hop : Nat) (payload : List Nat) (owner : CmdOwner) (s : State) :
    (ownCmd p hop payload owner s).mem = s.mem := by
  simp [ownCmd]

@[simp] theorem spareSelect_mem (i c mode n0 : Nat) (s : State) :
    (spareSelect i c mode n0 s).mem = s.mem := by
  simp [spareSelect]

@[simp] theorem chainEvent_mem (p kind hop depth word2 : Nat) (s : State) :
    (chainEvent p kind hop depth word2 s).mem = s.mem := by
  simp [chainEvent]

@[simp] theorem lineAct_mem (p l action : Nat) (s : State) : (lineAct p l action s).mem = s.mem := rfl

/-! ### The line code -/

@[simp] theorem sendSymbols_mem (p l : Nat) (syms : List Nat) (s : State) : (sendSymbols p l syms s).mem = s.mem := rfl
@[simp] theorem sendIdle_mem (p l : Nat) (s : State) : (sendIdle p l s).mem = s.mem := rfl

@[simp] theorem checkBits_mem (p l : Nat) (bits : List Bool) (s : State) :
    (checkBits p l bits s).mem = s.mem := by
  simp [checkBits]

@[simp] theorem sendPattern_mem (p l n : Nat) (flip : Bool) (s : State) :
    (sendPattern p l n flip s).mem = s.mem := by
  simp [sendPattern]

/-! ### The link codec -/

@[simp] theorem closeBlock_mem (i : Nat) (last : Bool) (s : State) : (closeBlock i last s).mem = s.mem := by
  unfold closeBlock
  split <;> simp

@[simp] theorem pushPixel_mem (i tile row col : Nat) (codes : List Nat) (s : State) :
    (pushPixel i tile row col codes s).mem = s.mem := by
  simp [pushPixel]

@[simp] theorem closeFrameStats_mem (i : Nat) (s : State) : (closeFrameStats i s).mem = s.mem := rfl

@[simp] theorem sendFrame_mem (p l : Nat) (s : State) : (sendFrame p l s).mem = s.mem := by
  unfold sendFrame
  dsimp only
  split
  · simp
  · split
    · rfl
    · refine (forEach_mem _ _ (fun e t => ?_) _).trans (by simp)
      split <;> simp

@[simp] theorem fillLane_mem (p l : Nat) (s : State) : (fillLane p l s).mem = s.mem := by simp [fillLane]

@[simp] theorem linkFrameFill_mem (p lanes : Nat) (s : State) :
    (linkFrameFill p lanes s).mem = s.mem := by
  simp [linkFrameFill]

@[simp] theorem blockDrop_mem (p : Nat) (s : State) : (blockDrop p s).mem = s.mem := rfl

/-! ### Residency -/

@[simp] theorem resEvent_mem (kind key frame : Nat) (s : State) :
    (resEvent kind key frame s).mem = s.mem := by
  simp [resEvent]

@[simp] theorem resLeave_mem (kind key : Nat) (s : State) : (resLeave kind key s).mem = s.mem := by simp [resLeave]
@[simp] theorem resChange_mem (key : Nat) (s : State) : (resChange key s).mem = s.mem := by simp [resChange]
@[simp] theorem resTouched_mem (key : Nat) (s : State) : (resTouched key s).mem = s.mem := by simp [resTouched]
@[simp] theorem queueInternal_mem (r : Internal) (s : State) : (queueInternal r s).mem = s.mem := rfl
@[simp] theorem resAsk_mem (key : Nat) (kind : InternalKind) (s : State) : (resAsk key kind s).mem = s.mem := rfl

@[simp] theorem resMove_mem (key n : Nat) (s : State) : (resMove key n s).mem = s.mem := by
  unfold resMove
  dsimp only
  repeat' split
  all_goals simp

@[simp] theorem resDecide_mem (key n : Nat) (s : State) : (resDecide key n s).mem = s.mem := by simp [resDecide]

@[simp] theorem resEnded_mem (key : Nat) (mirror clean : Bool) (s : State) :
    (resEnded key mirror clean s).mem = s.mem := by
  simp [resEnded]

@[simp] theorem resTel_mem (i : Nat) (low : Bool) (s : State) : (resTel i low s).mem = s.mem := by simp [resTel]
@[simp] theorem resReset_mem (s : State) : (resReset s).mem = s.mem := rfl

@[simp] theorem resVoid_mem (s : State) : (resVoid s).mem = s.mem := by
  refine forEach_mem _ _ (fun k t => ?_) _
  dsimp only
  split <;> simp

@[simp] theorem resReenumerated_mem (i : Nat) (s : State) :
    (resReenumerated i s).mem = s.mem := by
  simp [resReenumerated]

/-! ### The bistable layer -/

@[simp] theorem engineReads_mem (e a n : Nat) (s : State) : (engineReads e a n s).mem = s.mem := by simp [engineReads]

@[simp] theorem readCommon_mem (i m : Nat) (s : State) : (readCommon i m s).mem = s.mem := by
  unfold readCommon
  split <;> simp

@[simp] theorem bistCheckEnd_mem (s : State) : (bistCheckEnd s).mem = s.mem := by simp [bistCheckEnd]

@[simp] theorem modTally_mem (int : Bool) (slot : Nat) (g : Tally → Tally) (s : State) :
    (modTally int slot g s).mem = s.mem := by
  unfold modTally
  repeat' split
  all_goals simp

@[simp] theorem recoverCheck_mem (s : State) : (recoverCheck s).mem = s.mem := by simp [recoverCheck]

@[simp] theorem settle_mem (int : Bool) (slot : Nat) (s : State) : (settle int slot s).mem = s.mem := by
  unfold settle
  dsimp only
  repeat' split
  all_goals simp

@[simp] theorem settleCell_mem (int : Bool) (slot : Nat) (g : Tally → Tally) (s : State) :
    (settleCell int slot g s).mem = s.mem := by
  simp [settleCell]

@[simp] theorem forgetDriven_mem (int : Bool) (slot cx cy : Nat) (s : State) :
    (forgetDriven int slot cx cy s).mem = s.mem := rfl

@[simp] theorem handOn_mem (cx cy : Nat) (s : State) : (handOn cx cy s).mem = s.mem := by simp [handOn]

@[simp] theorem driveTake_mem (p : Nat) (s : State) : (driveTake p s).mem = s.mem := by
  unfold driveTake
  dsimp only
  repeat' split
  all_goals simp

@[simp] theorem queuePhases_mem (k n : Nat) (s : State) : (queuePhases k n s).mem = s.mem := by
  induction n generalizing s with
  | zero => rfl
  | succ n ih =>
    unfold queuePhases
    dsimp only
    repeat' split
    all_goals simp [ih]

@[simp] theorem rerunUpdates_mem (s : State) : (rerunUpdates s).mem = s.mem := by simp [rerunUpdates]

@[simp] theorem readPass_mem (i m band : Nat) (segs : List Nat) (s : State) :
    (readPass i m band segs s).mem = s.mem := by
  simp [readPass]

@[simp] theorem interruptPass_mem (k : Nat) (s : State) : (interruptPass k s).mem = s.mem := by
  unfold interruptPass
  split <;> simp

@[simp] theorem interruptPort_mem (p : Nat) (s : State) : (interruptPort p s).mem = s.mem := by simp [interruptPort]

theorem takeRx_mem {p type : Nat} {x : Packet} {s t : State} (h : takeRx p type s = some (x, t)) : t.mem = s.mem := by
  unfold takeRx at h
  cases hf : (s.port p).rx.find? (fun y => y.type == type) with
  | none => simp [hf] at h
  | some y =>
    simp only [hf, Option.map_some, Option.some.injEq, Prod.mk.injEq] at h
    rw [← h.2]
    rfl

@[simp] theorem bistRecover_mem (s : State) : (bistRecover s).mem = s.mem := by simp [bistRecover]

/-! ### The non-volatile store -/

@[simp] theorem State.setPhys_mem (p : Nat) (v : Phys) (s : State) : (State.setPhys p v s).mem = s.mem := rfl
@[simp] theorem maceSample_mem (n : Nat) (s : State) : (maceSample n s).mem = s.mem := rfl
@[simp] theorem pinSample_mem (s : State) : (pinSample s).mem = s.mem := by simp [pinSample]

@[simp] theorem programPage_mem (p part k seq : Nat) (d : Tab Nat) (s : State) :
    (programPage p part k seq d s).mem = s.mem := rfl

theorem retirePage_mem {p sp : Nat} {s t : State} (h : retirePage p s = some (sp, t)) : t.mem = s.mem := by
  unfold retirePage at h
  split at h <;> cases h
  simp

@[simp] theorem logAppend_mem (kind : Nat) (payload : List Nat) (s : State) :
    (logAppend kind payload s).mem = s.mem := by
  simp [logAppend]

@[simp] theorem reportRetire_mem (p sp : Nat) (s : State) : (reportRetire p sp s).mem = s.mem := by simp [reportRetire]

@[simp] theorem pageWrite_mem (part k off : Nat) (bytes : List Nat) (fails : Bool) (s : State) :
    (pageWrite part k off bytes fails s).2.2.mem = s.mem := by
  unfold pageWrite
  dsimp only
  split
  · split
    · simp [retirePage_mem ‹_›]
    · simp
  · simp

@[simp] theorem eraseTarget_mem (part k : Nat) (s : State) : (eraseTarget part k s).mem = s.mem := by simp [eraseTarget]
@[simp] theorem State.setChannel_mem (m : Nat) (v : Channel) (s : State) : (State.setChannel m v s).mem = s.mem := rfl

@[simp] theorem saveWrite_mem (part k : Nat) (bytes : List Nat) (s : State) :
    (saveWrite part k bytes s).mem = s.mem :=
  pageWrite_mem ..

@[simp] theorem flushLogWrite_mem (op : NvsOp) (s : State) : (flushLogWrite op s).mem = s.mem := by
  unfold flushLogWrite
  split <;> simp

@[simp] theorem writeCounterSet_mem (v : SaveCopy) (rpages kind : Nat) (s : State) :
    (writeCounterSet v rpages kind s).mem = s.mem := by
  unfold writeCounterSet
  dsimp only
  rw [saveWrite_mem]
  exact forEach_mem _ _ (fun _ _ => saveWrite_mem ..) _

@[simp] theorem writeSave_mem (tier kind1 : Nat) (v : SaveCopy) (s : State) :
    (writeSave tier kind1 v s).mem = s.mem := by
  unfold writeSave
  split
  · rfl
  · dsimp only
    rw [writeCounterSet_mem, forEach_mem _ _ (fun _ _ => saveWrite_mem ..)]
    split
    · exact forEach_mem _ _ (fun _ _ => flushLogWrite_mem ..) _
    · rfl

@[simp] theorem checkPassword_mem (part : Nat) (write : Bool) (pw : Nat) (s : State) :
    (checkPassword part write pw s).2.mem = s.mem := by
  unfold checkPassword
  dsimp only
  repeat' split
  all_goals simp

@[simp] theorem endRegister_mem (long : Bool) (status reason : Nat) (s : State) :
    (endRegister long status reason s).mem = s.mem := by
  simp [endRegister]

@[simp] theorem endRing_mem (ring slot status detail : Nat) (s : State) :
    (endRing ring slot status detail s).mem = s.mem := by
  unfold endRing
  split <;> simp

@[simp] theorem endOp_mem (op : NvsOp) (status reason okDetail : Nat) (s : State) :
    (endOp op status reason okDetail s).mem = s.mem := by
  unfold endOp
  repeat' split
  all_goals simp

@[simp] theorem admitHeld_mem (s : State) : (admitHeld s).mem = s.mem := by
  unfold admitHeld
  split <;> simp

@[simp] theorem nvsKick_mem (fuel : Nat) (s : State) : (nvsKick fuel s).mem = s.mem := by
  induction fuel generalizing s with
  | zero => rfl
  | succ fuel ih =>
    unfold nvsKick
    dsimp only
    repeat' split
    all_goals simp [ih]

@[simp] theorem nvsGo_mem (s : State) : (nvsGo s).mem = s.mem := by simp [nvsGo]
@[simp] theorem nvsRequest_mem (op : NvsOp) (s : State) : (nvsRequest op s).mem = s.mem := by simp [nvsRequest]

@[simp] theorem logWrite_mem (kind : Nat) (payload : List Nat) (s : State) :
    (logWrite kind payload s).mem = s.mem := by
  simp [logWrite]

@[simp] theorem spareMapWrite_mem (page : Nat) (s : State) :
    (spareMapWrite page s).mem = s.mem := by
  simp [spareMapWrite]

@[simp] theorem bufPut_mem (i : Nat) (bytes : List Nat) (s : State) : (bufPut i bytes s).mem = s.mem := by
  induction bytes generalizing i s with
  | nil => rfl
  | cons b bs ih => simp [bufPut, ih]

@[simp] theorem nvsReadEnd_mem (s : State) : (nvsReadEnd s).mem = s.mem := by
  unfold nvsReadEnd
  dsimp only
  repeat' split
  all_goals simp

@[simp] theorem nvsPageWriteEnd_mem (fails : Bool) (s : State) : (nvsPageWriteEnd fails s).mem = s.mem := by
  unfold nvsPageWriteEnd
  split
  · rfl
  · split
    · rfl
    · dsimp only
      rw [nvsGo_mem, endOp_mem]
      repeat' split
      all_goals simp

@[simp] theorem nvsHostSaveEnd_mem (s : State) : (nvsHostSaveEnd s).mem = s.mem := by
  unfold nvsHostSaveEnd
  split <;> simp

@[simp] theorem startPowerSave_mem (s : State) : (startPowerSave s).mem = s.mem := by
  unfold startPowerSave
  split <;> simp

@[simp] theorem endPowerSave_mem (kind : Nat) (v : SaveCopy) (s : State) :
    (endPowerSave kind v s).mem = s.mem := by
  simp [endPowerSave]

@[simp] theorem storeScan_mem (s : State) : (storeScan s).mem = s.mem := by
  unfold storeScan
  dsimp only
  repeat' split
  all_goals simp

/-! ### Faults and spares -/

@[simp] theorem detectAll_mem (u : Nat) (ks : List Nat) (forced persist : Bool) (s : State) :
    (detectAll u ks forced persist s).mem = s.mem := by
  simp [detectAll]

@[simp] theorem detectGroup_mem (u : Nat) (ks : List Nat) (forced persist : Bool) (s : State) :
    (detectGroup u ks forced persist s).mem = s.mem := by
  simp [detectGroup]

@[simp] theorem clovePorts_mem (s : State) : (clovePorts s).mem = s.mem := by simp [clovePorts]

@[simp] theorem enterClove_mem (u k sev : Nat) (forced : Bool) (s : State) :
    (enterClove u k sev forced s).mem = s.mem := by
  simp [enterClove]

@[simp] theorem haltScan_mem (s : State) : (haltScan s).mem = s.mem := by simp [haltScan]
@[simp] theorem fatalStop_mem (s : State) : (fatalStop s).mem = s.mem := by simp [fatalStop]

@[simp] theorem faultActions_mem (u : Nat) (ks : List Nat) (forced : Bool) (s : State) :
    (faultActions u ks forced s).mem = s.mem := by
  unfold faultActions
  repeat' split
  all_goals simp

@[simp] theorem detect_mem (u k : Nat) (s : State) : (detect u k s).mem = s.mem := by simp [detect]
@[simp] theorem detectLasting_mem (u k : Nat) (s : State) : (detectLasting u k s).mem = s.mem := by simp [detectLasting]

@[simp] theorem spareEvent_mem (src kind : Nat) (ws : List Nat) (s : State) :
    (spareEvent src kind ws s).mem = s.mem := by
  simp [spareEvent]

@[simp] theorem engaged_mem (src kind what cause failed repl source page : Nat) (s : State) :
    (engaged src kind what cause failed repl source page s).mem = s.mem := by
  simp [engaged]

@[simp] theorem engineFail_mem (e cause : Nat) (s : State) : (engineFail e cause s).mem = s.mem := by simp [engineFail]

@[simp] theorem interruptDuty_mem (sp j : Nat) (s : State) :
    (interruptDuty sp j s).mem = s.mem := by
  simp [interruptDuty]

@[simp] theorem fetchAgain_mem (e : Nat) (held : Option (Nat × Nat)) (s : State) :
    (fetchAgain e held s).mem = s.mem := by
  simp [fetchAgain]

@[simp] theorem takeoverEnd_mem (e : Nat) (s : State) : (takeoverEnd e s).mem = s.mem := by simp [takeoverEnd]

@[simp] theorem engineCe_mem (e : Nat) (forced : Bool) (s : State) :
    (engineCe e forced s).mem = s.mem := by
  simp [engineCe]

@[simp] theorem abandonFrame_mem (i : Nat) (count : Bool) (s : State) :
    (abandonFrame i count s).mem = s.mem := by
  simp [abandonFrame]

@[simp] theorem pipeFail_mem (i cause : Nat) (s : State) : (pipeFail i cause s).mem = s.mem := by
  unfold pipeFail
  repeat' split
  all_goals simp

@[simp] theorem sramReplace_mem (sp array row cause : Nat) (s : State) :
    (sramReplace sp array row cause s).mem = s.mem := by
  simp [sramReplace]

@[simp] theorem sramRegion_mem (sp : Nat) (r : SramRegion) (s : State) : (sramRegion sp r s).mem = s.mem := by
  unfold sramRegion
  split <;> simp

@[simp] theorem sramCe_mem (sp array row : Nat) (s : State) : (sramCe sp array row s).mem = s.mem := by simp [sramCe]

@[simp] theorem sramUe_mem (sp array row : Nat) (r : SramRegion) (s : State) :
    (sramUe sp array row r s).mem = s.mem := by
  simp [sramUe]

@[simp] theorem dramRemapped_mem (m row cause : Nat) (c : Channel) (s : State) :
    (dramRemapped m row cause c s).mem = s.mem := by
  simp [dramRemapped]

@[simp] theorem channelLost_mem (m : Nat) (s : State) : (channelLost m s).mem = s.mem := by simp [channelLost]

@[simp] theorem applyTestFail_mem (cause : Nat) (f : TestFail) (s : State) : (applyTestFail cause f s).mem = s.mem := by
  unfold applyTestFail
  split <;> simp

/-! ### The passing of time -/

@[simp] theorem addSeconds_mem (n : Nat) (s : State) : (addSeconds n s).mem = s.mem := by simp [addSeconds]
@[simp] theorem countSymbols_mem (n : Nat) (s : State) : (countSymbols n s).mem = s.mem := by simp [countSymbols]

@[simp] theorem arbGrant_mem (m : Nat) (s : State) : (arbGrant m s).mem = s.mem := by
  unfold arbGrant
  split <;> simp

@[simp] theorem arbRounds_mem (n : Nat) (s : State) : (arbRounds n s).mem = s.mem := by
  induction n generalizing s with
  | zero => rfl
  | succ n ih => simp [arbRounds, ih]

@[simp] theorem promote_mem (m : Nat) (s : State) : (promote m s).mem = s.mem := rfl
@[simp] theorem advance_mem (n : Nat) (s : State) : (advance n s).mem = s.mem := by simp [advance]

/-! ### Ports and chains -/

@[simp] theorem State.turnLane_mem (p l : Nat) (g : Lane → Lane) (s : State) :
    (State.turnLane p l g s).mem = s.mem := by
  simp [State.turnLane]

@[simp] theorem startLanes_mem (p : Nat) (s : State) : (startLanes p s).mem = s.mem := by simp [startLanes]
@[simp] theorem stopLanes_mem (p : Nat) (s : State) : (stopLanes p s).mem = s.mem := by simp [stopLanes]
@[simp] theorem clockSeen_mem (p : Nat) (s : State) : (clockSeen p s).mem = s.mem := by simp [clockSeen]
@[simp] theorem sendPei_mem (p : Nat) (s : State) : (sendPei p s).mem = s.mem := by simp [sendPei]
@[simp] theorem idleLane_mem (p l : Nat) (s : State) : (idleLane p l s).mem = s.mem := rfl
@[simp] theorem wakeLane_mem (p l : Nat) (s : State) : (wakeLane p l s).mem = s.mem := rfl
@[simp] theorem wakeLanes_mem (p : Nat) (s : State) : (wakeLanes p s).mem = s.mem := by simp [wakeLanes]
@[simp] theorem leaveUp_mem (p : Nat) (s : State) : (leaveUp p s).mem = s.mem := by simp [leaveUp]
@[simp] theorem bringUp_mem (p : Nat) (s : State) : (bringUp p s).mem = s.mem := by simp [bringUp]
@[simp] theorem testPort_mem (p : Nat) (s : State) : (testPort p s).mem = s.mem := by simp [testPort]

@[simp] theorem beginIdle_mem (p : Nat) (next : AfterIdle) (s : State) :
    (beginIdle p next s).mem = s.mem := by
  simp [beginIdle]

@[simp] theorem exitIdle_mem (p : Nat) (s : State) : (exitIdle p s).mem = s.mem := by simp [exitIdle]
@[simp] theorem portUp_mem (p : Nat) (s : State) : (portUp p s).mem = s.mem := by simp [portUp]

@[simp] theorem laneAlign_mem (p l : Nat) (groups : List Nat) (s : State) :
    (laneAlign p l groups s).mem = s.mem := by
  simp [laneAlign]

@[simp] theorem portTimeout_mem (p : Nat) (s : State) : (portTimeout p s).mem = s.mem := by simp [portTimeout]

@[simp] theorem splitChainWith_mem {note : State → State} (hnote : KeepsMem note) (p h : Nat) (s : State) :
    (splitChainWith note p h s).mem = s.mem := by
  unfold splitChainWith
  dsimp only
  repeat' split
  all_goals simp [hnote _]

@[simp] theorem splitChain_mem (p h : Nat) (s : State) : (splitChain p h s).mem = s.mem := by simp [splitChain]
@[simp] theorem splitTimeout_mem (p : Nat) (s : State) : (splitTimeout p s).mem = s.mem := by simp [splitTimeout]
@[simp] theorem uplinkLost_mem (p k : Nat) (s : State) : (uplinkLost p k s).mem = s.mem := by simp [uplinkLost]

@[simp] theorem laneLost_mem (p l : Nat) (clock : Bool) (s : State) :
    (laneLost p l clock s).mem = s.mem := by
  simp [laneLost]

@[simp] theorem laneLoss_mem (p l k : Nat) (s : State) : (laneLoss p l k s).mem = s.mem := by simp [laneLoss]

@[simp] theorem laneRetired_mem (p l k kind repl : Nat) (s : State) :
    (laneRetired p l k kind repl s).mem = s.mem := by
  simp [laneRetired]

@[simp] theorem retireLane_mem (p l : Nat) (s : State) : (retireLane p l s).mem = s.mem := rfl
@[simp] theorem dsTakesOver_mem (p : Nat) (s : State) : (dsTakesOver p s).mem = s.mem := by simp [dsTakesOver]

@[simp] theorem ckTransmitterFail_mem (p : Nat) (s : State) :
    (ckTransmitterFail p s).mem = s.mem := by
  simp [ckTransmitterFail]

@[simp] theorem sendConfig_mem (p h n : Nat) (s : State) : (sendConfig p h n s).mem = s.mem := by simp [sendConfig]
@[simp] theorem resendSpares_mem (p : Nat) (s : State) : (resendSpares p s).mem = s.mem := by simp [resendSpares]

@[simp] theorem configMismatch_mem (p h : Nat) (s : State) :
    (configMismatch p h s).mem = s.mem := by
  simp [configMismatch]

@[simp] theorem dropCmd_mem (p : Nat) (c : Cmd) (s : State) : (dropCmd p c s).mem = s.mem := by simp [dropCmd]

@[simp] theorem tileAnswer_mem (j : Job) (payload : List Nat) (s : State) :
    (tileAnswer j payload s).mem = s.mem := by
  simp [tileAnswer]

@[simp] theorem tileEvent_mem (c h kind word2 : Nat) (s : State) :
    (tileEvent c h kind word2 s).mem = s.mem := by
  simp [tileEvent]

@[simp] theorem telAccept_mem (c h : Nat) (body : List Nat) (s : State) :
    (telAccept c h body s).mem = s.mem := by
  simp [telAccept]

@[simp] theorem prbsControl_mem (p l old new : Nat) (s : State) :
    (prbsControl p l old new s).mem = s.mem := by
  simp [prbsControl]

@[simp] theorem checkerSync_mem (p l : Nat) (bits : List Bool) (s : State) :
    (checkerSync p l bits s).mem = s.mem := by
  simp [checkerSync]

@[simp] theorem checkerSyncLoss_mem (p l : Nat) (bits : List Bool) (s : State) :
    (checkerSyncLoss p l bits s).mem = s.mem := by
  simp [checkerSyncLoss]

@[simp] theorem receivedElectricalIdle_mem (p l : Nat) (s : State) :
    (receivedElectricalIdle p l s).mem = s.mem := by
  simp [receivedElectricalIdle]

@[simp] theorem laneInjection_mem (p l : Nat) (s : State) : (laneInjection p l s).mem = s.mem := by simp [laneInjection]
@[simp] theorem clearCounts_mem (p : Nat) (s : State) : (clearCounts p s).mem = s.mem := by simp [clearCounts]
@[simp] theorem governorWake_mem (p : Nat) (s : State) : (governorWake p s).mem = s.mem := by simp [governorWake]
@[simp] theorem passFrames_mem (p : Nat) (s : State) : (passFrames p s).mem = s.mem := rfl

@[simp] theorem telReceive_mem (p : Nat) (s : State) : (telReceive p s).mem = s.mem := by
  unfold telReceive
  split
  · rfl
  · split
    · rfl
    · have hrx := takeRx_mem ‹_›
      split <;> simp [hrx]

@[simp] theorem tileSilent_mem (p h : Nat) (s : State) : (tileSilent p h s).mem = s.mem := by simp [tileSilent]
@[simp] theorem clvResend_mem (p : Nat) (s : State) : (clvResend p s).mem = s.mem := by simp [clvResend]
@[simp] theorem dscResend_mem (p : Nat) (s : State) : (dscResend p s).mem = s.mem := by simp [dscResend]

@[simp] theorem resumeSynRepeat_mem (p : Nat) (s : State) :
    (resumeSynRepeat p s).mem = s.mem := by
  simp [resumeSynRepeat]

/-! ### Power states -/

@[simp] theorem sendLtr_mem (hold : Bool) (s : State) : (sendLtr hold s).mem = s.mem := rfl

@[simp] theorem powerEvent_mem (kind word1 word2 : Nat) (s : State) :
    (powerEvent kind word1 word2 s).mem = s.mem := by
  simp [powerEvent]

@[simp] theorem reachedEvent_mem (to_ : PowerState) (s : State) :
    (reachedEvent to_ s).mem = s.mem := by
  simp [reachedEvent]

@[simp] theorem avsSend_mem (s : State) : (avsSend s).mem = s.mem := by simp [avsSend]
@[simp] theorem ramp_mem (mv : Nat) (s : State) : (ramp mv s).mem = s.mem := by simp [ramp]
@[simp] theorem startEngines_mem (s : State) : (startEngines s).mem = s.mem := by simp [startEngines]
@[simp] theorem startPortEngines_mem (s : State) : (startPortEngines s).mem = s.mem := by simp [startPortEngines]
@[simp] theorem stopEngines_mem (s : State) : (stopEngines s).mem = s.mem := by simp [stopEngines]
@[simp] theorem abortWaiting_mem (s : State) : (abortWaiting s).mem = s.mem := by simp [abortWaiting]
@[simp] theorem endPowerReg_mem (code : Nat) (s : State) : (endPowerReg code s).mem = s.mem := by simp [endPowerReg]

@[simp] theorem endPowerRing_mem (code : Nat) (s : State) : (endPowerRing code s).mem = s.mem := by
  unfold endPowerRing
  dsimp only
  repeat' split
  all_goals simp

@[simp] theorem beginMove_mem (goal : PowerState) (m : Move) (s : State) : (beginMove goal m s).mem = s.mem := rfl
@[simp] theorem leaveKeep_mem (s : State) : (leaveKeep s).mem = s.mem := by simp [leaveKeep]
@[simp] theorem enterL1_mem (s : State) : (enterL1 s).mem = s.mem := rfl
@[simp] theorem resumeCore_mem (s : State) : (resumeCore s).mem = s.mem := by simp [resumeCore]
@[simp] theorem startWake_mem (s : State) : (startWake s).mem = s.mem := by simp [startWake]

@[simp] theorem wakeBy_mem (src : Nat) (s : State) : (wakeBy src s).mem = s.mem := by
  unfold wakeBy
  split <;> simp

@[simp] theorem wakeIf_mem (src : Nat) (s : State) : (wakeIf src s).mem = s.mem := by simp [wakeIf]
@[simp] theorem releaseWake_mem (s : State) : (releaseWake s).mem = s.mem := by simp [releaseWake]
@[simp] theorem idlePorts_mem (keep : Bool) (s : State) : (idlePorts keep s).mem = s.mem := by simp [idlePorts]
@[simp] theorem reachOff_mem (s : State) : (reachOff s).mem = s.mem := by simp [reachOff]
@[simp] theorem offDischarge_mem (s : State) : (offDischarge s).mem = s.mem := by simp [offDischarge]
@[simp] theorem offRestart_mem (s : State) : (offRestart s).mem = s.mem := by simp [offRestart]
@[simp] theorem offQuiet_mem (s : State) : (offQuiet s).mem = s.mem := by simp [offQuiet]

@[simp] theorem powerGo_mem (s : State) : (powerGo s).mem = s.mem := by
  unfold powerGo
  split <;> simp

@[simp] theorem enterHold_mem (keep self : Bool) (s : State) :
    (enterHold keep self s).mem = s.mem := by
  simp [enterHold]

@[simp] theorem reachHold_mem (keep : Bool) (s : State) : (reachHold keep s).mem = s.mem := by simp [reachHold]

@[simp] theorem holdRetention_mem (s : State) : (holdRetention s).mem = s.mem := by
  unfold holdRetention
  split <;> simp

@[simp] theorem keepEntry_mem (s : State) : (keepEntry s).mem = s.mem := by
  unfold keepEntry
  split <;> simp

@[simp] theorem holdSelfTestEnd_mem (fails : List TestFail) (s : State) :
    (holdSelfTestEnd fails s).mem = s.mem := by
  simp [holdSelfTestEnd]

@[simp] theorem applySwitch_mem (t : PowerState) (s : State) : (applySwitch t s).mem = s.mem := by simp [applySwitch]

@[simp] theorem powerRequest_mem (t : PowerState) (s : State) : (powerRequest t s).mem = s.mem := by
  unfold powerRequest
  split <;> simp

@[simp] theorem selfrefIdle_mem (s : State) : (selfrefIdle s).mem = s.mem := by simp [selfrefIdle]
@[simp] theorem failRestart_mem (s : State) : (failRestart s).mem = s.mem := by simp [failRestart]

@[simp] theorem rampEnded_mem (s : State) : (rampEnded s).mem = s.mem := by
  unfold rampEnded
  repeat' split
  all_goals simp

@[simp] theorem avsAck_mem (mv : Nat) (s : State) : (avsAck mv s).mem = s.mem := by simp [avsAck]

@[simp] theorem avsTimeout_mem (s : State) : (avsTimeout s).mem = s.mem := by
  unfold avsTimeout
  dsimp only
  repeat' split
  all_goals simp

@[simp] theorem wakeEnd_mem (s : State) : (wakeEnd s).mem = s.mem := by
  unfold wakeEnd
  repeat' split
  all_goals simp

@[simp] theorem serviceStart_mem (s : State) : (serviceStart s).mem = s.mem := by simp [serviceStart]
@[simp] theorem serviceEnd_mem (s : State) : (serviceEnd s).mem = s.mem := by simp [serviceEnd]
@[simp] theorem telemetryPoll_mem (s : State) : (telemetryPoll s).mem = s.mem := by simp [telemetryPoll]

@[simp] theorem telemetryPollEnd_mem (s : State) : (telemetryPollEnd s).mem = s.mem := by
  unfold telemetryPollEnd
  repeat' split
  all_goals simp

@[simp] theorem powerFail_mem (vhold : Nat) (s : State) : (powerFail vhold s).mem = s.mem := by
  unfold powerFail
  dsimp only
  repeat' split
  all_goals simp

@[simp] theorem powerSaveEnd_mem (s : State) : (powerSaveEnd s).mem = s.mem := by
  unfold powerSaveEnd
  repeat' split
  all_goals simp

@[simp] theorem timeclkAbsent_mem (s : State) : (timeclkAbsent s).mem = s.mem := by simp [timeclkAbsent]
@[simp] theorem keepGenlockLoss_mem (s : State) : (keepGenlockLoss s).mem = s.mem := by simp [keepGenlockLoss]
@[simp] theorem keepGenlockEdge_mem (s : State) : (keepGenlockEdge s).mem = s.mem := by simp [keepGenlockEdge]
@[simp] theorem fireAlarm_mem (late : Bool) (s : State) : (fireAlarm late s).mem = s.mem := by simp [fireAlarm]
@[simp] theorem timeAlarm_mem (dt : Nat) (s : State) : (timeAlarm dt s).mem = s.mem := by simp [timeAlarm]

/-! ### Rings and commands -/

@[simp] theorem noteChange_mem (s : State) : (noteChange s).mem = s.mem := by simp [noteChange]

@[simp] theorem boundsLog_mem (n slot op detail : Nat) (s : State) : (boundsLog n slot op detail s).mem = s.mem := by
  unfold boundsLog
  dsimp only
  repeat' split
  all_goals simp

@[simp] theorem deliverBells_mem (e : Nat) (s : State) : (deliverBells e s).mem = s.mem := by simp [deliverBells]

@[simp] theorem schedulingPoint_mem (e : Nat) (s : State) : (schedulingPoint e s).mem = s.mem := by
  unfold schedulingPoint
  dsimp only
  repeat' split
  all_goals simp

@[simp] theorem descriptorFetch_mem (e : Nat) (words : Option (List Nat)) (s : State) :
    (descriptorFetch e words s).mem = s.mem := by
  unfold descriptorFetch
  dsimp only
  repeat' split
  all_goals simp

@[simp] theorem runNop_mem (j : Job) (s : State) : (runNop j s).mem = s.mem := by simp [runNop]
@[simp] theorem runFence_mem (j : Job) (s : State) : (runFence j s).mem = s.mem := by simp [runFence]
@[simp] theorem latchFences_mem (due : List Job) (s : State) : (latchFences due s).mem = s.mem := by simp [latchFences]
@[simp] theorem runFlush_mem (j : Job) (s : State) : (runFlush j s).mem = s.mem := by simp [runFlush]
@[simp] theorem readFailed_mem (j : Job) (s : State) : (readFailed j s).mem = s.mem := by simp [readFailed]

@[simp] theorem sendTileCmd_mem (payload : List Nat) (j : Job) (s : State) :
    (sendTileCmd payload j s).mem = s.mem := by
  simp [sendTileCmd]

@[simp] theorem runTileCmd_mem (payload : Option (List Nat)) (j : Job) (s : State) :
    (runTileCmd payload j s).mem = s.mem := by
  unfold runTileCmd
  dsimp only
  repeat' split
  all_goals simp

@[simp] theorem tileCmdTimeout_mem (p h tag : Nat) (s : State) : (tileCmdTimeout p h tag s).mem = s.mem := by
  unfold tileCmdTimeout
  dsimp only
  repeat' split
  all_goals simp

@[simp] theorem runPowerReq_mem (j : Job) (s : State) : (runPowerReq j s).mem = s.mem := by
  unfold runPowerReq
  split <;> simp

@[simp] theorem writeReads_mem (j : Job) (s : State) : (writeReads j s).mem = s.mem := by simp [writeReads]
@[simp] theorem runWrite_mem (j : Job) (s : State) : (runWrite j s).mem = s.mem := by simp [runWrite]
@[simp] theorem State.moveLast_mem (j : Job) (s : State) : (State.moveLast j s).mem = s.mem := rfl
@[simp] theorem runLayerWrite_mem (j : Job) (s : State) : (runLayerWrite j s).mem = s.mem := by simp [runLayerWrite]

@[simp] theorem runReleased_mem (n : Nat) (s : State) : (runReleased n s).mem = s.mem := by
  induction n generalizing s with
  | zero => rfl
  | succ n ih =>
    unfold runReleased
    dsimp only
    split <;> simp [ih]

@[simp] theorem retireOne_mem (detail : Nat) (j : Job) (s : State) :
    (retireOne detail j s).mem = s.mem := by
  simp [retireOne]

@[simp] theorem retireCheck_mem (detail : Nat) (s : State) : (retireCheck detail s).mem = s.mem := by simp [retireCheck]
@[simp] theorem applyBinds_mem (detail : Nat) (s : State) : (applyBinds detail s).mem = s.mem := by simp [applyBinds]

@[simp] theorem runBind_mem (j : Job) (s : State) : (runBind j s).mem = s.mem := by
  unfold runBind
  dsimp only
  repeat' split
  all_goals simp

@[simp] theorem runRetire_mem (j : Job) (s : State) : (runRetire j s).mem = s.mem := by simp [runRetire]
@[simp] theorem ringStart_mem (n : Nat) (s : State) : (ringStart n s).mem = s.mem := rfl
@[simp] theorem stopChecks_mem (s : State) : (stopChecks s).mem = s.mem := by simp [stopChecks]

@[simp] theorem ringStop_mem (n : Nat) (s : State) : (ringStop n s).mem = s.mem := by
  unfold ringStop
  split
  · simp
  · dsimp only
    rw [stopCheck_mem, runReleased_mem]
    refine (forEach_mem _ _ (fun e t => ?_) _).trans (by simp)
    repeat' split
    all_goals simp

@[simp] theorem ringBell_mem (n v : Nat) (s : State) : (ringBell n v s).mem = s.mem := by
  unfold ringBell
  dsimp only
  repeat' split
  all_goals simp

/-! ### The pixel path -/

@[simp] theorem emitRange_mem (i : Nat) (s : State) : (emitRange i s).mem = s.mem := by simp [emitRange]
@[simp] theorem ageRange_mem (i : Nat) (s : State) : (ageRange i s).mem = s.mem := by simp [ageRange]
@[simp] theorem loadPipe_mem (i p : Nat) (s : State) : (loadPipe i p s).mem = s.mem := by simp [loadPipe]
@[simp] theorem State.setMissed_mem (i y m : Nat) (s : State) : (State.setMissed i y m s).mem = s.mem := rfl
@[simp] theorem State.viewOf_mem (s : State) (i : Nat) : (State.viewOf s i).mem = s.mem := rfl
@[simp] theorem missRow_mem (i y : Nat) (s : State) : (missRow i y s).mem = s.mem := by simp [missRow]

@[simp] theorem missRows_mem (i n f : Nat) (l : List (Nat × Nat)) (s : State) :
    (missRows i n f l s).mem = s.mem := by
  simp [missRows]

@[simp] theorem resComplete_mem (key : Nat) (s : State) : (resComplete key s).mem = s.mem := by simp [resComplete]
@[simp] theorem reclass_mem (i : Nat) (s : State) : (reclass i s).mem = s.mem := rfl
@[simp] theorem updateUrgent_mem (i : Nat) (s : State) : (updateUrgent i s).mem = s.mem := rfl

@[simp] theorem watermarkWrite_mem (sp : Nat) (s : State) :
    (watermarkWrite sp s).mem = s.mem := by
  simp [watermarkWrite]

@[simp] theorem drainBuffer_mem (i : Nat) (s : State) : (drainBuffer i s).mem = s.mem := by simp [drainBuffer]

/-! ### Ageing -/

@[simp] theorem ageClear_mem (s : State) : (ageClear s).mem = s.mem := rfl

@[simp] theorem emitterEvent_mem (i kind c word2 : Nat) (s : State) :
    (emitterEvent i kind c word2 s).mem = s.mem := by
  simp [emitterEvent]

@[simp] theorem retryUnlogged_mem (s : State) : (retryUnlogged s).mem = s.mem := by simp [retryUnlogged]
@[simp] theorem seedStart_mem (restore : Bool) (s : State) : (seedStart restore s).mem = s.mem := rfl
@[simp] theorem checkpointDue_mem (s : State) : (checkpointDue s).mem = s.mem := by simp [checkpointDue]
@[simp] theorem runCheckpoint_mem (j : Job) (s : State) : (runCheckpoint j s).mem = s.mem := by simp [runCheckpoint]
@[simp] theorem restoreSelects_mem (s : State) : (restoreSelects s).mem = s.mem := by simp [restoreSelects]

/-! ### Alerts -/

@[simp] theorem missRest_mem (i : Nat) (s : State) : (missRest i s).mem = s.mem := by simp [missRest]
@[simp] theorem yieldFrame_mem (i : Nat) (s : State) : (yieldFrame i s).mem = s.mem := by simp [yieldFrame]
@[simp] theorem sweepLanes_mem (p : Nat) (s : State) : (sweepLanes p s).mem = s.mem := by simp [sweepLanes]
@[simp] theorem releaseLanes_mem (p : Nat) (s : State) : (releaseLanes p s).mem = s.mem := by simp [releaseLanes]
@[simp] theorem alertCounted_mem (since : Nat) (s : State) : (alertCounted since s).mem = s.mem := rfl

@[simp] theorem alertDone_mem (s : State) : (alertDone s).mem = s.mem := by
  unfold alertDone
  dsimp only
  repeat' split
  all_goals simp

@[simp] theorem alertSweepEnd_mem (i : Nat) (s : State) : (alertSweepEnd i s).mem = s.mem := by
  unfold alertSweepEnd
  split <;> simp

@[simp] theorem sweepChecks_mem (i : Nat) (px : List Pix) (s : State) :
    (sweepChecks i px s).mem = s.mem := by
  simp [sweepChecks]

@[simp] theorem sendSweep_mem (i p : Nat) (ld : Load) (region : List Rect) (s : State) :
    (sendSweep i p ld region s).mem = s.mem := by
  simp [sendSweep]

@[simp] theorem alertBegin_mem (i p : Nat) (region : List Rect) (s : State) :
    (alertBegin i p region s).mem = s.mem := by
  unfold alertBegin
  dsimp only
  repeat' split
  all_goals simp

@[simp] theorem alertPoint_mem (i : Nat) (s : State) : (alertPoint i s).mem = s.mem := by
  unfold alertPoint
  split <;> simp

@[simp] theorem sweepAgain_mem (i p : Nat) (region : List Rect) (s : State) :
    (sweepAgain i p region s).mem = s.mem := by
  simp [sweepAgain]

@[simp] theorem laneRestart_mem (i : Nat) (c : Check) (s0 s : State) : (laneRestart i c s0 s).mem = s.mem := by
  unfold laneRestart
  dsimp only
  repeat' split
  all_goals simp

@[simp] theorem passChange_mem (region : List Rect) (s : State) : (passChange region s).mem = s.mem := by
  unfold passChange
  dsimp only
  rw [alertDone_mem]
  refine forEach_mem _ _ (fun x t => ?_) _
  split <;> simp

@[simp] theorem alertReplace_mem (s : State) : (alertReplace s).mem = s.mem := by
  unfold alertReplace
  dsimp only
  repeat' split
  all_goals simp

@[simp] theorem alertChange_mem (new : Option AlertSurf) (j : Job) (s : State) : (alertChange new j s).mem = s.mem := by
  unfold alertChange
  dsimp only
  repeat' split
  all_goals simp

@[simp] theorem runAlertShow_mem (j : Job) (s : State) : (runAlertShow j s).mem = s.mem := by simp [runAlertShow]
@[simp] theorem runAlertClear_mem (j : Job) (s : State) : (runAlertClear j s).mem = s.mem := by simp [runAlertClear]
@[simp] theorem alertResume_mem (s : State) : (alertResume s).mem = s.mem := by simp [alertResume]
@[simp] theorem alertStopped_mem (s : State) : (alertStopped s).mem = s.mem := by simp [alertStopped]

/-! ### Scan-out -/

@[simp] theorem genlockEvent_mem (kind : Nat) (s : State) : (genlockEvent kind s).mem = s.mem := by simp [genlockEvent]
@[simp] theorem lockGained_mem (s : State) : (lockGained s).mem = s.mem := by simp [lockGained]
@[simp] theorem outOfRange_mem (s : State) : (outOfRange s).mem = s.mem := by simp [outOfRange]
@[simp] theorem emptyWindow_mem (to_ : Nat) (s : State) : (emptyWindow to_ s).mem = s.mem := by simp [emptyWindow]

@[simp] theorem passWindows_mem (now n : Nat) (s : State) : (passWindows now n s).mem = s.mem := by
  induction n generalizing s with
  | zero => rfl
  | succ n ih => simp [passWindows, ih]

@[simp] theorem placeStart_mem (now : Nat) (s : State) : (placeStart now s).mem = s.mem := by simp [placeStart]

@[simp] theorem activeEdge_mem (now : Nat) (s : State) : (activeEdge now s).mem = s.mem := by
  unfold activeEdge
  dsimp only
  repeat' split
  all_goals simp

@[simp] theorem genlockEdge_mem (dt : Nat) (rising : Bool) (s : State) :
    (genlockEdge dt rising s).mem = s.mem := by
  simp [genlockEdge]

@[simp] theorem genlockWindowExpiry_mem (dt : Nat) (s : State) :
    (genlockWindowExpiry dt s).mem = s.mem := by
  simp [genlockWindowExpiry]

@[simp] theorem applyGroup_mem (g : Group) (s : State) : (applyGroup g s).mem = s.mem := by simp [applyGroup]
@[simp] theorem applyCommits_mem (s : State) : (applyCommits s).2.mem = s.mem := by simp [applyCommits]
@[simp] theorem commitNow_mem (g : Group) (s : State) : (commitNow g s).mem = s.mem := by simp [commitNow]

@[simp] theorem commitWrite_mem (g : Group) (s : State) : (commitWrite g s).mem = s.mem := by
  unfold commitWrite
  dsimp only
  repeat' split
  all_goals simp

@[simp] theorem commitComplete_mem (s : State) : (commitComplete s).mem = s.mem := by simp [commitComplete]
@[simp] theorem policyApply_mem (key n : Nat) (s : State) : (policyApply key n s).mem = s.mem := by simp [policyApply]
@[simp] theorem resClose_mem (key n : Nat) (s : State) : (resClose key n s).mem = s.mem := by simp [resClose]
@[simp] theorem resFrameClosed_mem (n : Nat) (s : State) : (resFrameClosed n s).mem = s.mem := by simp [resFrameClosed]

@[simp] theorem resLatch_mem (n : Nat) (holds : List Nat) (s : State) :
    (resLatch n holds s).mem = s.mem := by
  simp [resLatch]

@[simp] theorem governorLatch_mem (i p : Nat) (s : State) : (governorLatch i p s).mem = s.mem := by
  unfold governorLatch
  dsimp only
  repeat' split
  all_goals simp

@[simp] theorem skipLatch_mem (i p n : Nat) (s : State) : (skipLatch i p n s).mem = s.mem := by simp [skipLatch]
@[simp] theorem closePipe_mem (i p n : Nat) (s : State) : (closePipe i p n s).mem = s.mem := by simp [closePipe]
@[simp] theorem countIdle_mem (s : State) : (countIdle s).mem = s.mem := by simp [countIdle]

@[simp] theorem openPipe_mem (i p n : Nat) (wasSkip applied : Bool) (s : State) :
    (openPipe i p n wasSkip applied s).mem = s.mem := by
  unfold openPipe
  dsimp only
  repeat' split
  all_goals simp

@[simp] theorem codecLatch_mem (s : State) : (codecLatch s).mem = s.mem := by simp [codecLatch]

@[simp] theorem openWindow_mem (s : State) : (openWindow s).mem = s.mem := by
  unfold openWindow
  dsimp only
  split <;> simp

@[simp] theorem scanStopped_mem (s : State) : (scanStopped s).mem = s.mem := by
  unfold scanStopped
  dsimp only
  split <;> simp

@[simp] theorem channelLostStop_mem (m : Nat) (s : State) :
    (channelLostStop m s).mem = s.mem := by
  simp [channelLostStop]

@[simp] theorem takeReload_mem (s : State) : (takeReload s).mem = s.mem := by simp [takeReload]
@[simp] theorem checkpointEngines_mem (s : State) : (checkpointEngines s).mem = s.mem := by simp [checkpointEngines]

@[simp] theorem frameStart_mem (dt : Nat) (s : State) : (frameStart dt s).mem = s.mem := by
  unfold frameStart
  dsimp only
  repeat' split
  all_goals simp

@[simp] theorem scanStart_mem (freerun : Bool) (s : State) : (scanStart freerun s).mem = s.mem := by simp [scanStart]

@[simp] theorem scanStop_mem (freerun : Bool) (s : State) : (scanStop freerun s).mem = s.mem := by
  unfold scanStop
  dsimp only
  repeat' split
  all_goals simp

@[simp] theorem emitReload_mem (s : State) : (emitReload s).mem = s.mem := by simp [emitReload]
@[simp] theorem geomCheckStart_mem (s : State) : (geomCheckStart s).mem = s.mem := rfl
@[simp] theorem geomAccept_mem (acc : CheckAcc) (s : State) : (geomAccept acc s).mem = s.mem := rfl

@[simp] theorem geomCheckEnd_mem (s : State) : (geomCheckEnd s).mem = s.mem := by
  unfold geomCheckEnd
  dsimp only
  repeat' split
  all_goals simp

/-! ### Resets and start-up -/

@[simp] theorem powerOnResetRelease_mem (s : State) :
    (powerOnResetRelease s).mem = s.mem := by
  simp [powerOnResetRelease]

@[simp] theorem orphanAll_mem (s : State) : (orphanAll s).mem = s.mem := by simp [orphanAll]
@[simp] theorem ringsReset_mem (s : State) : (ringsReset s).mem = s.mem := by simp [ringsReset]
@[simp] theorem pcieLinkDown_mem (s : State) : (pcieLinkDown s).mem = s.mem := by simp [pcieLinkDown]

@[simp] theorem linkTrainingStart_mem (speed width : Nat) (reversed : Bool) (s : State) :
    (linkTrainingStart speed width reversed s).mem = s.mem := by
  simp [linkTrainingStart]

@[simp] theorem takeFuses_mem (reads : List (Nat × Nat)) (s : State) : (takeFuses reads s).mem = s.mem := rfl
@[simp] theorem loadFuseFields_mem (s : State) : (loadFuseFields s).mem = s.mem := rfl
@[simp] theorem applyCode_mem (k reset code : Nat) (s : State) : (applyCode k reset code s).mem = s.mem := rfl

@[simp] theorem trimStep_mem (s : State) : (trimStep s).mem = s.mem := by
  unfold trimStep
  repeat' split
  all_goals simp

@[simp] theorem fuseReload_mem (s : State) : (fuseReload s).mem = s.mem := rfl

theorem applyCodes_mem (l : List (Nat × Nat × Nat × Bool)) (s : State) :
    (forEach l (fun t st => applyCode t.1 t.2.1 t.2.2.1 st) s).mem = s.mem :=
  forEach_mem _ _ (fun _ _ => applyCode_mem ..) s

@[simp] theorem fuseReloadEnd_mem (reads : List (Nat × Nat)) (s : State) : (fuseReloadEnd reads s).mem = s.mem := by
  rw [fuseReloadEnd, State.mem_ite]
  dsimp only
  rw [State.mem_ite, endLong_mem, endLong_mem, detect_mem, ite_self, applyCodes_mem]
  dsimp only
  rw [loadFuseFields_mem, takeFuses_mem, ite_self]

@[simp] theorem capResult_mem (vhold fall : Nat) (s : State) :
    (capResult vhold fall s).mem = s.mem := by
  simp [capResult]

@[simp] theorem capMeasure_mem (s : State) : (capMeasure s).mem = s.mem := by simp [capMeasure]

@[simp] theorem capMeasureEnd_mem (vhold fall : Nat) (s : State) :
    (capMeasureEnd vhold fall s).mem = s.mem := by
  simp [capMeasureEnd]

@[simp] theorem logAppendRetry_mem (s : State) : (logAppendRetry s).mem = s.mem := by simp [logAppendRetry]
@[simp] theorem nvsSaveEnd_mem (s : State) : (nvsSaveEnd s).mem = s.mem := by simp [nvsSaveEnd]

@[simp] theorem storePhase_mem (vhold fall : Nat) (s : State) :
    (storePhase vhold fall s).mem = s.mem := by
  simp [storePhase]

@[simp] theorem applySpanMap_mem (i w pipes : Nat) (s : State) :
    (applySpanMap i w pipes s).mem = s.mem := by
  simp [applySpanMap]

@[simp] theorem sparesPhase_mem (s : State) : (sparesPhase s).mem = s.mem := by simp [sparesPhase]

@[simp] theorem makeRepair_mem (m : Nat) (r : Nat × Nat) (s : State) :
    (makeRepair m r s).mem = s.mem := by
  simp [makeRepair]

@[simp] theorem memoryPhase_mem (fitted ok : Nat) (s : State) :
    (memoryPhase fitted ok s).mem = s.mem := by
  simp [memoryPhase]

@[simp] theorem enginesPhase_mem (fails : List TestFail) (s : State) :
    (enginesPhase fails s).mem = s.mem := by
  simp [enginesPhase]

@[simp] theorem voltagePhase_mem (s : State) : (voltagePhase s).mem = s.mem := by simp [voltagePhase]

@[simp] theorem startupPhase_mem (e : PhaseEnd) (s : State) : (startupPhase e s).mem = s.mem := by
  unfold startupPhase
  split <;> simp

@[simp] theorem voltageRaiseRetry_mem (s : State) : (voltageRaiseRetry s).mem = s.mem := by simp [voltageRaiseRetry]
@[simp] theorem memoryInitialise_mem (s : State) : (memoryInitialise s).mem = s.mem := rfl
@[simp] theorem sysclkLoss_mem (s : State) : (sysclkLoss s).mem = s.mem := by simp [sysclkLoss]

@[simp] theorem jtagInstruction_mem (i : JtagInstr) (s : State) : (jtagInstruction i s).mem = s.mem := by
  unfold jtagInstruction
  split <;> simp

@[simp] theorem engineWatchdog_mem (e : Nat) (s : State) : (engineWatchdog e s).mem = s.mem := by simp [engineWatchdog]
@[simp] theorem copyCodec_mem (i sp : Nat) (s : State) : (copyCodec i sp s).mem = s.mem := rfl
@[simp] theorem takeCodec_mem (i new : Nat) (s : State) : (takeCodec i new s).mem = s.mem := rfl
@[simp] theorem takePipe_mem (i new : Nat) (s : State) : (takePipe i new s).mem = s.mem := rfl

@[simp] theorem pipeTakeoverEnd_mem (sp : Nat) (s : State) : (pipeTakeoverEnd sp s).mem = s.mem := by
  unfold pipeTakeoverEnd
  dsimp only
  repeat' split
  all_goals simp

/-! ### Forced detections -/

@[simp] theorem holdLive_mem (u k : Nat) (s : State) : (holdLive u k s).mem = s.mem := rfl

@[simp] theorem forcedEngine_mem (e k : Nat) (s : State) : (forcedEngine e k s).mem = s.mem := by
  unfold forcedEngine
  split <;> simp

@[simp] theorem forcedSpan_mem (sp k : Nat) (s : State) : (forcedSpan sp k s).mem = s.mem := by
  unfold forcedSpan
  split <;> simp

@[simp] theorem faultEnable_mem (u v : Nat) (s : State) : (faultEnable u v s).mem = s.mem := by simp [faultEnable]
@[simp] theorem cloveLeave_mem (s : State) : (cloveLeave s).mem = s.mem := by simp [cloveLeave]

/-! ### The tests of a register request -/

@[simp] theorem aerReport_mem (advisory : Bool) (k : Nat) (h : ReqHdr) (s : State) :
    (aerReport advisory k h s).mem = s.mem := by
  simp [aerReport]

@[simp] theorem accErrLog_mem (kind : Nat) (h : ReqHdr) (s : State) : (accErrLog kind h s).mem = s.mem := by
  unfold accErrLog
  split <;> simp

@[simp] theorem refuse_mem (bar : Nat) (write : Bool) (kind : Nat) (q : Req) (s : State) :
    (refuse bar write kind q s).mem = s.mem := by
  simp [refuse]

@[simp] theorem rearm_mem (q : Req) (s : State) : (rearm q s).mem = s.mem := by
  unfold rearm
  split <;> simp

/-! ### Accepted register writes -/

@[simp] theorem writePair_mem (lo hi : Reg) (v : Nat) (s : State) : (writePair lo hi v s).mem = s.mem := rfl

@[simp] theorem storeReg_mem (r : Reg) (v : Nat) (s : State) : (storeReg r v s).mem = s.mem := by
  unfold storeReg
  split <;> simp

@[simp] theorem msixFlush_mem (v : Nat) (s : State) : (msixFlush v s).mem = s.mem := by simp [msixFlush]
@[simp] theorem msixWrite_mem (i v : Nat) (s : State) : (msixWrite i v s).mem = s.mem := by simp [msixWrite]

@[simp] theorem geomSetting_mem (r : Reg) (v : Nat) (s : State) :
    (geomSetting r v s).mem = s.mem := by
  simp [geomSetting]

@[simp] theorem alarmWrite_mem (v : Nat) (s : State) : (alarmWrite v s).mem = s.mem := by simp [alarmWrite]

@[simp] theorem powerReqReg_mem (v : Nat) (s : State) : (powerReqReg v s).mem = s.mem := by
  unfold powerReqReg
  dsimp only
  repeat' split
  all_goals simp

@[simp] theorem nvsDenied_mem (long : Bool) (s : State) : (nvsDenied long s).mem = s.mem := by simp [nvsDenied]

@[simp] theorem nvsGuarded_mem (long : Bool) (part : Nat) (write : Bool) (op : NvsOp) (s : State) :
    (nvsGuarded long part write op s).mem = s.mem := by
  have hpass := checkPassword_mem part write s.nvs.pass s
  unfold nvsGuarded
  split
  all_goals
    rename_i heq
    rw [heq] at hpass
  · rw [nvsRequest_mem, hpass]
  · rw [nvsDenied_mem, hpass]

@[simp] theorem nvsCmdWrite_mem (v : Nat) (s : State) : (nvsCmdWrite v s).mem = s.mem := by
  unfold nvsCmdWrite
  split <;> simp

@[simp] theorem nvsKeyWrite_mem (v : Nat) (s : State) : (nvsKeyWrite v s).mem = s.mem := by simp [nvsKeyWrite]
@[simp] theorem scanCtlWrite_mem (v : Nat) (s : State) : (scanCtlWrite v s).mem = s.mem := by simp [scanCtlWrite]
@[simp] theorem commitBit_mem (g : Group) (v : Nat) (s : State) : (commitBit g v s).mem = s.mem := by simp [commitBit]
@[simp] theorem ageCtlWrite_mem (v : Nat) (s : State) : (ageCtlWrite v s).mem = s.mem := by simp [ageCtlWrite]
@[simp] theorem bistCtlWrite_mem (v : Nat) (s : State) : (bistCtlWrite v s).mem = s.mem := by simp [bistCtlWrite]
@[simp] theorem resCtlWrite_mem (v : Nat) (s : State) : (resCtlWrite v s).mem = s.mem := by simp [resCtlWrite]
@[simp] theorem ringCtlWrite_mem (n v : Nat) (s : State) : (ringCtlWrite n v s).mem = s.mem := by simp [ringCtlWrite]

@[simp] theorem portStart_mem (p : Nat) (test : Bool) (s : State) :
    (portStart p test s).mem = s.mem := by
  simp [portStart]

@[simp] theorem portRejoin_mem (p : Nat) (s : State) : (portRejoin p s).mem = s.mem := by simp [portRejoin]
@[simp] theorem prbsWrite_mem (p l v : Nat) (s : State) : (prbsWrite p l v s).mem = s.mem := by simp [prbsWrite]
@[simp] theorem accErrClear_mem (s : State) : (accErrClear s).mem = s.mem := rfl
@[simp] theorem firstClear_mem (u : Nat) (s : State) : (firstClear u s).mem = s.mem := rfl
@[simp] theorem wakeSrcWrite_mem (v : Nat) (s : State) : (wakeSrcWrite v s).mem = s.mem := rfl

/-! ### PCIe requests -/

@[simp] theorem hostArrive_mem (s : State) : (hostArrive s).mem = s.mem := by simp [hostArrive]

@[simp] theorem refuseWrite_mem (q : Req) (r : Reg) (kind : Nat) (s : State) :
    (refuseWrite q r kind s).mem = s.mem := by
  simp [refuseWrite]

@[simp] theorem bar0Read_mem (q : Req) (s : State) : (bar0Read q s).mem = s.mem := by
  unfold bar0Read
  split <;> simp

@[simp] theorem hostRequests_mem (q : Req) (s : State) : (hostRequests q s).mem = s.mem := by simp [hostRequests]

@[simp] theorem poisonedTlp_mem (bar2 : Bool) (q : Req) (s : State) :
    (poisonedTlp bar2 q s).mem = s.mem := by
  simp [poisonedTlp]

@[simp] theorem bar2Resize_mem (log : Nat) (s : State) : (bar2Resize log s).mem = s.mem := rfl
@[simp] theorem msixFlushAll_mem (s : State) : (msixFlushAll s).mem = s.mem := by simp [msixFlushAll]

@[simp] theorem configurationWrite_mem (w : ConfigWrite) (s : State) : (configurationWrite w s).mem = s.mem := by
  unfold configurationWrite
  split <;> simp

/-! ### The ring commands of the non-volatile store -/

@[simp] theorem nvsJob_mem (j : Job) (write : Bool) {work : State → State} (hwork : KeepsMem work) (s : State) :
    (nvsJob j write work s).mem = s.mem := by
  have hpass := checkPassword_mem (wd j.desc 2 % 4) write (wd64 j.desc 4) s
  unfold nvsJob
  split
  all_goals
    rename_i heq
    rw [heq] at hpass
  · rw [hwork, hpass]
  · rw [finishJob_mem, hpass]

@[simp] theorem runNvsRead_mem (j : Job) (s : State) : (runNvsRead j s).mem = s.mem := by simp [runNvsRead]

@[simp] theorem runNvsWrite_mem (data : Option (List Nat)) (j : Job) (s : State) :
    (runNvsWrite data j s).mem = s.mem := by
  unfold runNvsWrite
  dsimp only
  split
  · simp
  · refine nvsJob_mem j true (fun t => ?_) s
    repeat' split
    all_goals simp

@[simp] theorem runNvsSave_mem (j : Job) (s : State) : (runNvsSave j s).mem = s.mem := by
  rw [runNvsSave, nvsJob_mem]
  exact fun t => nvsRequest_mem _ t

end Sys2Proof.Machine

/-! ## What writes device memory keeps it canonical (R3, R30; log entry 3)

The lemmas about the functions that write speak of `Mem.wf`, as `State.MemOk` does. Where a proof goes through a loop or
stage by stage through a function, it speaks of `Canonical`, the same fact about the whole state: the kernel compares
two terms of that form by their states, and does not evaluate the memory that a stage leaves. -/

namespace Sys2Proof.Machine

/-- Device memory is in its canonical form, as a property of the state. -/
def Canonical (s : State) : Prop := Mem.wf s.mem = true

theorem canonical_iff_memOk {s : State} : Canonical s ↔ s.MemOk := Iff.rfl

theorem Canonical.of_mem_eq {s t : State} (h : t.mem = s.mem) (hs : Canonical s) : Canonical t := by
  rw [Canonical, h]
  exact hs

theorem Canonical.ite {c : Prop} [Decidable c] {s t : State} (hs : Canonical s) (ht : Canonical t) :
    Canonical (if c then s else t) :=
  Mem.wf_ite hs ht

theorem Canonical.forEach {α : Type} (l : List α) {f : α → State → State} {s : State}
    (hf : ∀ a t, Canonical t → Canonical (f a t)) (hs : Canonical s) : Canonical (forEach l f s) :=
  forEach_keeps Canonical l f hf s hs

theorem State.puts_wf {a : Nat} {l : List Nat} {s : State} (hs : Mem.wf s.mem = true) :
    Mem.wf (s.puts a l).mem = true :=
  Mem.wf_puts l a _ hs

theorem State.putLe_wf {a n v : Nat} {s : State} (hs : Mem.wf s.mem = true) :
    Mem.wf (s.putLe a n v).mem = true :=
  Mem.wf_puts _ a _ hs

theorem Canonical.puts {a : Nat} {l : List Nat} {s : State} (hs : Canonical s) : Canonical (s.puts a l) :=
  State.puts_wf hs

theorem Canonical.putLe {a n v : Nat} {s : State} (hs : Canonical s) : Canonical (s.putLe a n v) :=
  State.putLe_wf hs

/-! ### Updates of other fields -/

theorem State.mem_withAge (a : Age) (s : State) : { s with age := a }.mem = s.mem := rfl
theorem State.mem_withBist (b : Bist) (s : State) : { s with bist := b }.mem = s.mem := rfl
theorem State.mem_withPower (p : Power) (s : State) : { s with power := p }.mem = s.mem := rfl
theorem State.mem_withBistPower (b : Bist) (p : Power) (s : State) : { s with bist := b, power := p }.mem = s.mem := rfl
theorem State.mem_withJobsPower (j : List Job) (p : Power) (s : State) :
    { s with jobs := j, power := p }.mem = s.mem := rfl
theorem State.mem_withScan (c : Scan) (s : State) : { s with scan := c }.mem = s.mem := rfl
theorem State.mem_withFree (n : Nat) (s : State) : { s with free := n }.mem = s.mem := rfl

/-! ### The bistable layer -/

@[simp] theorem putCell_wf {cx cy st tg : Nat} {s : State} (hs : Mem.wf s.mem = true) :
    Mem.wf (putCell cx cy st tg s).mem = true := by
  simp [putCell, hs, Mem.wf_puts]

@[simp] theorem toggleParity_wf {i m : Nat} {s : State} (hs : Mem.wf s.mem = true) :
    Mem.wf (toggleParity i m s).mem = true := by
  simp [toggleParity, hs, Mem.wf_puts]

@[simp] theorem bistInitEnd_wf {s : State} (hs : Mem.wf s.mem = true) : Mem.wf (bistInitEnd s).mem = true := by
  show Canonical (bistInitEnd s)
  unfold bistInitEnd
  split
  · exact hs
  · extract_lets t
    split
    · exact Canonical.of_mem_eq (detectNote_mem ..) hs
    · refine Canonical.of_mem_eq (State.mem_withBist ..) (.forEach _ (fun i t ht => .puts ?_) hs)
      refine .forEach _ (fun m u hu => ?_) ht
      exact .forEach _ (fun c v hv => .puts hv) (.of_mem_eq (readCommon_mem ..) hu)

@[simp] theorem dropCell_wf {cx cy detail : Nat} {s : State} (hs : Mem.wf s.mem = true) :
    Mem.wf (dropCell cx cy detail s).mem = true := by
  unfold dropCell
  dsimp only
  split <;> simp [hs]

@[simp] theorem writeCellTarget_wf {int : Bool} {slot cx cy levels : Nat} {s : State} (hs : Mem.wf s.mem = true) :
    Mem.wf (writeCellTarget int slot cx cy levels s).mem = true := by
  unfold writeCellTarget
  dsimp only
  split <;> simp [hs]

@[simp] theorem visitRegion_wf {int : Bool} {slot cx cy cw ch addr pitch : Nat} {colour : Option (List Nat)}
    {bad : List (Nat × Nat)} {s : State} (hs : Mem.wf s.mem = true) :
    Mem.wf (visitRegion int slot cx cy cw ch addr pitch colour bad s).mem = true := by
  unfold visitRegion
  refine Mem.wf_forEach _ (fun c t ht => ?_) (Mem.wf_forEach _ (fun b t ht => ?_) hs)
  · dsimp only
    split
    · simp [ht]
    · exact writeCellTarget_wf (by split <;> simp [ht])
  · split <;> simp [ht]

@[simp] theorem dropTile_wf {i : Nat} {s : State} (hs : Mem.wf s.mem = true) :
    Mem.wf (dropTile i s).mem = true :=
  Mem.wf_forEach _ (fun _ _ ht => Mem.wf_forEach _ (fun _ _ hu => dropCell_wf hu) ht) hs

@[simp] theorem writeLedgers_wf {p : Pass} {s : State} (hs : Mem.wf s.mem = true) :
    Mem.wf (writeLedgers p s).mem = true :=
  Mem.wf_forEach _ (fun _ _ ht => Mem.wf_forEach _ (fun _ _ hu => State.putLe_wf hu) ht) hs

@[simp] theorem endPass_wf {k : Nat} {p : Pass} {s : State} (hs : Mem.wf s.mem = true) :
    Mem.wf (endPass k p s).mem = true := by
  show Canonical (endPass k p s)
  unfold endPass
  extract_lets src power read ledgers toggled settled bist recorded
  have hread : Canonical read :=
    .of_mem_eq (readCommon_mem ..) (.of_mem_eq (State.mem_withPower ..) (.of_mem_eq (State.modDrive_mem ..) hs))
  have hledgers : Canonical ledgers := .ite hread (writeLedgers_wf hread)
  have htoggled : Canonical toggled := .ite (toggleParity_wf hledgers) hledgers
  have hsettled : Canonical settled := by
    refine .forEach _ (fun c t ht => .ite ?_ ht) htoggled
    exact .of_mem_eq (settleCell_mem ..) (.of_mem_eq (forgetDriven_mem ..) (.putLe ht))
  have hrecorded : Canonical recorded := .ite (.of_mem_eq (State.mem_withBist ..) hsettled) hsettled
  exact .ite (.of_mem_eq (rerunUpdates_mem ..) hrecorded) hrecorded

@[simp] theorem launchPass_wf {k : Nat} {p : Pass} {s : State} (hs : Mem.wf s.mem = true) :
    Mem.wf (launchPass k p s).mem = true := by
  unfold launchPass
  dsimp only
  split <;> simp [hs]

@[simp] theorem dropBad_wf {i m : Nat} {bad : List (Nat × Nat)} {s : State} (hs : Mem.wf s.mem = true) :
    Mem.wf (dropBad i m bad s).mem = true :=
  Mem.wf_forEach _ (fun _ _ ht => dropCell_wf ht) hs

@[simp] theorem passStart_wf {k : Nat} {bad : List (Nat × Nat)} {s : State} (hs : Mem.wf s.mem = true) :
    Mem.wf (passStart k bad s).mem = true := by
  show Canonical (passStart k bad s)
  unfold passStart
  extract_lets d
  split
  · split
    · exact .of_mem_eq (State.modDrive_mem ..) hs
    · extract_lets dropped t band vop alt cells segs leds p read bist power noted next placed
      have hdropped : Canonical dropped := dropBad_wf hs
      have hread : Canonical read :=
        .of_mem_eq (readPass_mem ..) (.ite (.of_mem_eq (detectNote_mem ..) hdropped) hdropped)
      have hnext : Canonical next := .of_mem_eq (State.modDrive_mem ..) (.of_mem_eq (State.mem_withBistPower ..) hread)
      have hplaced : Canonical placed := by
        refine .forEach _ (fun c u hu => ?_) hnext
        extract_lets put taken
        have htaken : Canonical taken := .of_mem_eq (modTally_mem ..) (putCell_wf hu)
        exact .ite htaken (.of_mem_eq (settleCell_mem ..) (.of_mem_eq (forgetDriven_mem ..) htaken))
      exact .ite hs (launchPass_wf hplaced)
  · exact hs

@[simp] theorem phaseCompleted_wf {k : Nat} {p : Pass} {s : State} (hs : Mem.wf s.mem = true) :
    Mem.wf (phaseCompleted k p s).mem = true := by
  unfold phaseCompleted
  dsimp only
  repeat' split
  all_goals simp [hs]

@[simp] theorem phaseDone_wf {p : Nat} {s : State} (hs : Mem.wf s.mem = true) : Mem.wf (phaseDone p s).mem = true := by
  unfold phaseDone
  split
  · exact hs
  · split
    · exact hs
    · have hrx := takeRx_mem ‹_›
      rw [← hrx] at hs
      dsimp only
      repeat' split
      all_goals simp [hs]

@[simp] theorem unknownCells_wf {p : Pass} {s : State} (hs : Mem.wf s.mem = true) :
    Mem.wf (unknownCells p s).mem = true := by
  refine Mem.wf_forEach _ (fun c t ht => ?_) hs
  dsimp only
  repeat' split
  all_goals simp [ht]

@[simp] theorem passRecovery_wf {p hop : Nat} {s : State} (hs : Mem.wf s.mem = true) :
    Mem.wf (passRecovery p hop s).mem = true := by
  unfold passRecovery
  dsimp only
  split
  · split
    · exact hs
    · refine launchPass_wf (unknownCells_wf ?_)
      rw [State.modDrive_mem]
      split
      · simp [hs]
      · exact writeLedgers_wf (by simp [hs])
  · exact hs

@[simp] theorem internalStart_wf {bad : List (Nat × Nat)} {s : State} (hs : Mem.wf s.mem = true) :
    Mem.wf (internalStart bad s).mem = true := by
  unfold internalStart
  repeat' split
  all_goals simp [hs]

/-! ### Faults and spares -/

@[simp] theorem zeroWords_wf {m : Nat} {s : State} (hs : Mem.wf s.mem = true) : Mem.wf (zeroWords m s).mem = true := by
  refine Canonical.of_mem_eq (State.mem_withFree ..) (.forEach _ (fun k t ht => ?_) hs)
  extract_lets a
  split
  · exact .puts ht
  · exact ht

@[simp] theorem dramReserve_wf {m row cause : Nat} {s : State} (hs : Mem.wf s.mem = true) :
    Mem.wf (dramReserve m row cause s).mem = true := by
  simp [dramReserve, hs]

@[simp] theorem dramRetire_wf {m row cause : Nat} {s : State} (hs : Mem.wf s.mem = true) :
    Mem.wf (dramRetire m row cause s).mem = true := by
  unfold dramRetire
  dsimp only
  repeat' split
  all_goals simp [hs]

@[simp] theorem dramCe_wf {m row : Nat} {s : State} (hs : Mem.wf s.mem = true) :
    Mem.wf (dramCe m row s).mem = true := by
  unfold dramCe
  dsimp only
  split <;> simp [hs]

@[simp] theorem dramUe_wf {m row : Nat} {s : State} (hs : Mem.wf s.mem = true) :
    Mem.wf (dramUe m row s).mem = true := by
  simp [dramUe, hs]

@[simp] theorem memoryCheck_wf {c : Check} {s : State} (hs : Mem.wf s.mem = true) :
    Mem.wf (memoryCheck c s).mem = true := by
  unfold memoryCheck
  split <;> simp [hs]

@[simp] theorem applyCheck_wf {i : Nat} {c : Check} {s : State} (hs : Mem.wf s.mem = true) :
    Mem.wf (applyCheck i c s).mem = true := by
  unfold applyCheck
  split <;> simp [hs]

/-! ### Ports and chains -/

@[simp] theorem dropTiles_wf {p : Nat} {s : State} (hs : Mem.wf s.mem = true) :
    Mem.wf (dropTiles p s).mem = true :=
  Mem.wf_forEach _ (fun _ _ ht => dropTile_wf ht) hs

@[simp] theorem endIdle_wf {p : Nat} {s : State} (hs : Mem.wf s.mem = true) : Mem.wf (endIdle p s).mem = true := by
  unfold endIdle
  dsimp only
  split <;> simp [hs]

@[simp] theorem peiReceive_wf {p : Nat} {s : State} (hs : Mem.wf s.mem = true) :
    Mem.wf (peiReceive p s).mem = true := by
  unfold peiReceive
  dsimp only
  repeat' split
  all_goals simp [hs]

@[simp] theorem portIdleTimeout_wf {p : Nat} {s : State} (hs : Mem.wf s.mem = true) :
    Mem.wf (portIdleTimeout p s).mem = true := by
  unfold portIdleTimeout
  dsimp only
  repeat' split
  all_goals simp [hs]

@[simp] theorem alarmLane_wf {p k l : Nat} {s : State} (hs : Mem.wf s.mem = true) :
    Mem.wf (alarmLane p k l s).mem = true := by
  unfold alarmLane
  dsimp only
  repeat' split
  all_goals simp [hs]

@[simp] theorem takeAlarm_wf {p hop mask : Nat} {s : State} (hs : Mem.wf s.mem = true) :
    Mem.wf (takeAlarm p hop mask s).mem = true := by
  show Canonical (takeAlarm p hop mask s)
  unfold takeAlarm
  extract_lets noted k lanes split
  have hnoted : Canonical noted := .of_mem_eq (State.modPort_mem ..) hs
  have hlanes : Canonical lanes := .forEach _ (fun _ _ ht => alarmLane_wf ht) hnoted
  have hsplit : Canonical split :=
    .ite hlanes (.ite (.of_mem_eq (splitChain_mem ..) hlanes) (.of_mem_eq (detectLasting_mem ..) hlanes))
  exact .ite hnoted (.ite (.of_mem_eq (uplinkLost_mem ..) hsplit) hsplit)

@[simp] theorem almReceive_wf {p hop mask check : Nat} {s : State} (hs : Mem.wf s.mem = true) :
    Mem.wf (almReceive p hop mask check s).mem = true := by
  unfold almReceive
  split <;> simp [hs]

@[simp] theorem enumEnd_wf {p : Nat} {s : State} (hs : Mem.wf s.mem = true) : Mem.wf (enumEnd p s).mem = true := by
  show Canonical (enumEnd p s)
  unfold enumEnd
  extract_lets c resent q done event3 event7 event5 tiles src bist reset dropped scan opened r
  have hdone : Canonical done := .of_mem_eq (State.modPort_mem ..) (.of_mem_eq (resendSpares_mem ..) hs)
  have hevent3 : Canonical event3 := .of_mem_eq (chainEvent_mem ..) hdone
  have hevent7 : Canonical event7 := .ite (.of_mem_eq (chainEvent_mem ..) hevent3) hevent3
  have hevent5 : Canonical event5 := .ite (.of_mem_eq (chainEvent_mem ..) hevent7) hevent7
  have hsrc : Canonical src := .forEach _ (fun i t ht => .of_mem_eq (resReenumerated_mem ..) ht) hevent5
  have hreset : Canonical reset := .of_mem_eq (State.mem_withBist ..) hsrc
  have hdropped : Canonical dropped := .forEach _ (fun _ _ ht => dropTile_wf ht) hreset
  have hopened : Canonical opened := .of_mem_eq (State.mem_withScan ..) hdropped
  exact .ite (.of_mem_eq (splitChain_mem ..) hopened) hopened

@[simp] theorem nextConfig_wf {p h : Nat} {s : State} (hs : Mem.wf s.mem = true) :
    Mem.wf (nextConfig p h s).mem = true := by
  unfold nextConfig
  split <;> simp [hs]

@[simp] theorem enumStart_wf {p : Nat} {s : State} (hs : Mem.wf s.mem = true) : Mem.wf (enumStart p s).mem = true := by
  show Canonical (enumStart p s)
  unfold enumStart
  extract_lets q c tiles base located tag sent
  split
  · have hlocated : Canonical located :=
      .ite (.of_mem_eq (State.modPort_mem ..) (.of_mem_eq (State.modPort_mem ..) hs)) hs
    have hsent : Canonical sent := .of_mem_eq (sendCmd_mem ..) (.of_mem_eq (State.modPort_mem ..) hlocated)
    refine .ite hs ?_
    split
    next lo hi _ =>
    extract_lets ranged counted cleared
    have hranged : Canonical ranged := .of_mem_eq (State.modPort_mem ..) hsent
    have hcleared : Canonical cleared :=
      .forEach _ (fun h t ht => .of_mem_eq (State.modHop_mem ..) ht) (.of_mem_eq (State.modPort_mem ..) hranged)
    exact .ite (.of_mem_eq (State.modPort_mem ..) hranged) (nextConfig_wf hcleared)
  · exact hs

@[simp] theorem configTimeout_wf {p : Nat} {s : State} (hs : Mem.wf s.mem = true) :
    Mem.wf (configTimeout p s).mem = true := by
  unfold configTimeout
  repeat' split
  all_goals simp [hs]

@[simp] theorem rspReceive_wf {p : Nat} {s : State} (hs : Mem.wf s.mem = true) :
    Mem.wf (rspReceive p s).mem = true := by
  unfold rspReceive
  split
  · exact hs
  · split
    · exact hs
    · have hrx := takeRx_mem ‹_›
      rw [← hrx] at hs
      dsimp only
      repeat' split
      all_goals simp [hs]

@[simp] theorem takeRxOut_wf {p l : Nat} {x : RxOut} {s : State} (hs : Mem.wf s.mem = true) :
    Mem.wf (takeRxOut p l x s).mem = true := by
  unfold takeRxOut
  split <;> simp [hs]

@[simp] theorem receiveGroups_wf {p l : Nat} {groups : List Nat} {s : State} (hs : Mem.wf s.mem = true) :
    Mem.wf (receiveGroups p l groups s).mem = true := by
  unfold receiveGroups
  split
  · exact hs
  · dsimp only
    split
    · simp [hs]
    · exact Mem.wf_forEach _ (fun _ _ ht => takeRxOut_wf ht) (by simp [hs])

@[simp] theorem linkFrameReceive_wf {p l : Nat} {groups : List Nat} {s : State} (hs : Mem.wf s.mem = true) :
    Mem.wf (linkFrameReceive p l groups s).mem = true := by
  simp [linkFrameReceive, hs]

@[simp] theorem laneAlignmentLoss_wf {p l : Nat} {groups : List Nat} {s : State} (hs : Mem.wf s.mem = true) :
    Mem.wf (laneAlignmentLoss p l groups s).mem = true := by
  simp [laneAlignmentLoss, hs]

/-! ### Rings and commands -/

theorem startJob_wf {e op : Nat} {work : Job → State → State} {s : State}
    (hwork : ∀ j t, Canonical t → Canonical (work j t)) (hs : Mem.wf s.mem = true) :
    Mem.wf (startJob e op work s).mem = true := by
  show Canonical (startJob e op work s)
  unfold startJob
  extract_lets start
  have hstart : ∀ holds j t, Canonical t → Canonical (start holds j t) := by
    intro holds j t ht
    have hstarted : Canonical (t.journal e (.started j.ring j.slot)) := .of_mem_eq (State.journal_mem ..) ht
    have hdone := hwork j _ hstarted
    refine .ite (.of_mem_eq (State.setJob_mem ..) ht) (.ite (.of_mem_eq (finishJob_mem ..) hstarted) ?_)
    exact .ite (.of_mem_eq (finishJob_mem ..) hstarted) (.ite (.of_mem_eq (State.journal_mem ..) hdone) hdone)
  split
  · refine .ite (hstart _ _ _ (.of_mem_eq (State.mem_withJobsPower ..) ?_)) hs
    exact .of_mem_eq (State.modEngine_mem ..) hs
  · split
    · exact hstart _ _ _ (.of_mem_eq (State.setJob_mem ..) hs)
    · exact hs

theorem startJob_wf_of_keepsMem {e op : Nat} {work : Job → State → State} {s : State}
    (hwork : ∀ j, KeepsMem (work j)) (hs : Mem.wf s.mem = true) : Mem.wf (startJob e op work s).mem = true :=
  startJob_wf (fun j t ht => .of_mem_eq (hwork j t) ht) hs

@[simp] theorem layerWriteDone_wf {n slot : Nat} {data : List Nat} {error : Bool}
    {s : State} (hs : Mem.wf s.mem = true) :
    Mem.wf (layerWriteDone n slot data error s).mem = true := by
  show Canonical (layerWriteDone n slot data error s)
  unfold layerWriteDone
  split
  · exact hs
  · next j hj =>
    extract_lets bytes rows have_ stored noted done
    have hstored : Canonical stored := .forEach _ (fun _ _ ht => .puts ht) hs
    have hnoted : Canonical noted := .of_mem_eq (noteChange_mem ..) (.of_mem_eq (noteVersion_mem ..) hstored)
    refine .ite hs (.of_mem_eq (runReleased_mem ..) (.ite ?_ ?_))
    all_goals exact .of_mem_eq (finishJob_mem ..) hnoted

@[simp] theorem runBistUpdate_wf {check : Check} {bad : List (Nat × Nat)} {j : Job}
    {s : State} (hs : Mem.wf s.mem = true) :
    Mem.wf (runBistUpdate check bad j s).mem = true := by
  unfold runBistUpdate
  dsimp only
  repeat' split
  all_goals simp [hs]

@[simp] theorem passStartChecked_wf {k : Nat} {check : Check} {bad : List (Nat × Nat)}
    {s : State} (hs : Mem.wf s.mem = true) :
    Mem.wf (passStartChecked k check bad s).mem = true := by
  unfold passStartChecked
  split <;> simp [hs]

@[simp] theorem internalStartChecked_wf {check : Check} {bad : List (Nat × Nat)}
    {s : State} (hs : Mem.wf s.mem = true) :
    Mem.wf (internalStartChecked check bad s).mem = true := by
  unfold internalStartChecked
  split <;> simp [hs]

/-! ### The pixel path -/

@[simp] theorem putIn_wf {a n v : Nat} {s : State} (hs : Mem.wf s.mem = true) : Mem.wf (putIn a n v s).mem = true := by
  unfold putIn
  split <;> simp [hs, Mem.wf_puts]

theorem Canonical.putIn {a n v : Nat} {s : State} (hs : Canonical s) : Canonical (putIn a n v s) := putIn_wf hs

@[simp] theorem stressAdd_wf {src i x y c inc : Nat} {s : State} (hs : Mem.wf s.mem = true) :
    Mem.wf (stressAdd src i x y c inc s).mem = true := by
  simp [stressAdd, hs]

theorem Canonical.stressAdd {src i x y c inc : Nat} {s : State} (hs : Canonical s) :
    Canonical (stressAdd src i x y c inc s) :=
  stressAdd_wf hs

theorem Canonical.sampleRow {pipe : Nat} {ld : Load} {i v weight period frame n : Nat} {every : Bool} {s : State}
    (hs : Canonical s) : Canonical (sampleRow pipe ld i v weight period frame n every s) := by
  unfold Machine.sampleRow
  extract_lets w y past start asked added
  have hasked : Canonical asked := .of_mem_eq (memRequestRange_mem ..) hs
  have hadded : Canonical added := .forEach _ (fun u t ht => .forEach _ (fun c st hst => .stressAdd hst) ht) hasked
  exact .ite (.of_mem_eq (ageRange_mem ..) hadded) hadded

@[simp] theorem aniseRow_wf {pipe i v : Nat} {s : State} (hs : Mem.wf s.mem = true) :
    Mem.wf (aniseRow pipe i v s).mem = true := by
  show Canonical (aniseRow pipe i v s)
  unfold aniseRow
  extract_lets q y
  split
  · exact hs
  · split
    · exact hs
    · extract_lets sampled
      have hsampled : Canonical sampled := .sampleRow hs
      exact .ite hsampled (.of_mem_eq (State.setMissed_mem ..) hsampled)

@[simp] theorem captureCell_wf {key cx cy col : Nat} {s : State} (hs : Mem.wf s.mem = true) :
    Mem.wf (captureCell key cx cy col s).mem = true := by
  refine Canonical.forEach _ (fun c t ht => .of_mem_eq (State.modCell_mem ..) (.ite (.puts ht) ?_)) hs
  exact .of_mem_eq (State.modCell_mem ..) (.ite ht (.of_mem_eq (detectNote_mem ..) ht))

@[simp] theorem resTap_wf {i u v : Nat} {tap : List Nat} {s : State} (hs : Mem.wf s.mem = true) :
    Mem.wf (resTap i u v tap s).mem = true := by
  unfold resTap
  dsimp only
  repeat' split
  all_goals simp [hs]

@[simp] theorem lineBufferFetch_wf {i kib : Nat} {lane : Bool} {c : Check} {s : State} (hs : Mem.wf s.mem = true) :
    Mem.wf (lineBufferFetch i kib lane c s).mem = true := by
  unfold lineBufferFetch
  split <;> simp [hs]

@[simp] theorem stepPixel_wf {i tile v u : Nat} {ld : Load} {s : State} (hs : Mem.wf s.mem = true) :
    Mem.wf (stepPixel i tile v u ld s).2.mem = true := by
  unfold stepPixel
  dsimp only
  repeat' split
  all_goals simp [hs]

@[simp] theorem pixelProcess_wf {i : Nat} {check : Check} {s : State} (hs : Mem.wf s.mem = true) :
    Mem.wf (pixelProcess i check s).mem = true := by
  show Canonical (pixelProcess i check s)
  unfold pixelProcess
  extract_lets checked q
  have hchecked : Canonical checked := applyCheck_wf hs
  refine .ite hs ?_
  split
  · next tile v rest ld _ _ =>
    extract_lets row
    have hrow : Canonical row := .ite (aniseRow_wf hchecked) hchecked
    have hfirst : Canonical (stepPixel i tile v q.col ld row).2 := stepPixel_wf hrow
    refine .ite hchecked ?_
    split
    next a first heq =>
    rw [heq] at hfirst
    have hsecond : Canonical (stepPixel i tile v (q.col + 1) ld first).2 := stepPixel_wf hfirst
    split
    next b second heq' =>
    rw [heq'] at hsecond
    extract_lets sent last
    have hsent : Canonical sent := .ite hsecond (.of_mem_eq (State.emit_mem ..) hsecond)
    exact .of_mem_eq (drainBuffer_mem ..) (.of_mem_eq (State.modPipe_mem ..) hsent)
  · exact hchecked

/-! ### Ageing -/

@[simp] theorem setCard_wf {i v : Nat} {s : State} (hs : Mem.wf s.mem = true) : Mem.wf (setCard i v s).mem = true := by
  rw [setCard, State.mem_withAge]
  exact putIn_wf hs

theorem Canonical.setCard {i v : Nat} {s : State} (hs : Canonical s) : Canonical (setCard i v s) := setCard_wf hs

@[simp] theorem zeroCounters_wf {i : Nat} {cs : List Nat} {s : State} (hs : Mem.wf s.mem = true) :
    Mem.wf (zeroCounters i cs s).mem = true :=
  Canonical.forEach _ (fun _ _ ht => .forEach _ (fun _ _ hu => .forEach _ (fun _ _ hv => .putIn hv) hu) ht) hs

@[simp] theorem ageClearEnd_wf {s : State} (hs : Mem.wf s.mem = true) : Mem.wf (ageClearEnd s).mem = true := by
  show Canonical (ageClearEnd s)
  unfold ageClearEnd
  exact .ite hs (.of_mem_eq (State.mem_withAge ..) (.forEach _ (fun _ _ ht => .setCard (zeroCounters_wf ht)) hs))

@[simp] theorem knotColour_wf {seed : Bool} {i c : Nat} {s : State} (hs : Mem.wf s.mem = true) :
    Mem.wf (knotColour seed i c s).mem = true := by
  refine Mem.wf_forEach _ (fun k t ht => ?_) hs
  dsimp only
  split <;> simp [ht]

@[simp] theorem fillKnots_wf {i c g : Nat} {s : State} (hs : Mem.wf s.mem = true) :
    Mem.wf (fillKnots i c g s).mem = true :=
  Canonical.forEach _ (fun _ _ ht => .putIn (.putIn ht)) hs

@[simp] theorem becomeSpare_wf {i c : Nat} {s : State} (hs : Mem.wf s.mem = true) :
    Mem.wf (becomeSpare i c s).mem = true := by
  rw [becomeSpare, State.mem_withAge]
  exact setCard_wf (zeroCounters_wf (fillKnots_wf hs))

@[simp] theorem fadeEnd_wf {i c : Nat} {s : State} (hs : Mem.wf s.mem = true) :
    Mem.wf (fadeEnd i c s).mem = true := by
  simp [fadeEnd, hs]

@[simp] theorem endFades_wf {n : Nat} {s : State} (hs : Mem.wf s.mem = true) : Mem.wf (endFades n s).mem = true := by
  refine Mem.wf_forEach _ (fun i t ht => Mem.wf_forEach _ (fun c u hu => ?_) ht) hs
  split <;> simp [hu]

@[simp] theorem engageColour_wf {i c : Nat} {s : State} (hs : Mem.wf s.mem = true) :
    Mem.wf (engageColour i c s).mem = true := by
  simp [engageColour, hs]

@[simp] theorem cardamom_wf {i : Nat} {s : State} (hs : Mem.wf s.mem = true) : Mem.wf (cardamom i s).mem = true := by
  unfold cardamom
  split
  · exact hs
  · refine Mem.wf_forEach _ (fun c t ht => ?_) hs
    split <;> simp [ht]

@[simp] theorem knotChain_wf {seed : Bool} {p : Nat} {s : State} (hs : Mem.wf s.mem = true) :
    Mem.wf (knotChain seed p s).mem = true := by
  show Canonical (knotChain seed p s)
  unfold knotChain
  extract_lets tiles e asked knots noted
  have hasked : Canonical asked := .of_mem_eq (memRequestAll_mem ..) (.of_mem_eq (memRequestAll_mem ..) hs)
  have hknots : Canonical knots := .forEach _ (fun i t ht => .forEach _ (fun c u hu => knotColour_wf hu) ht) hasked
  have hnoted : Canonical noted := .ite (.of_mem_eq (detectNote_mem ..) hknots) hknots
  exact .forEach _ (fun _ _ ht => cardamom_wf ht) (.of_mem_eq (retryUnlogged_mem ..) hnoted)

@[simp] theorem knotPass_wf {p : Nat} {s : State} (hs : Mem.wf s.mem = true) : Mem.wf (knotPass p s).mem = true := by
  unfold knotPass
  split <;> simp [hs]

@[simp] theorem seedPassEnd_wf {s : State} (hs : Mem.wf s.mem = true) : Mem.wf (seedPassEnd s).mem = true := by
  unfold seedPassEnd
  split
  · rw [State.mem_withAge]
    exact Mem.wf_forEach _ (fun _ _ ht => knotChain_wf ht) hs
  · exact hs

@[simp] theorem knotStep_wf {p : Nat} {s : State} (hs : Mem.wf s.mem = true) : Mem.wf (knotStep p s).mem = true := by
  show Canonical (knotStep p s)
  unfold knotStep
  extract_lets trimmed start past asked stepped
  refine .ite hs (.of_mem_eq (State.mem_withAge ..) (.forEach _ (fun i t ht => ?_) ?_))
  · exact .forEach _ (fun c u hu => .forEach _ (fun k v hv => .putIn hv) hu) ht
  · exact .of_mem_eq (memRequestAll_mem ..) (.ite (.of_mem_eq (detectNote_mem ..) hs) hs)

@[simp] theorem holdAccrual_wf {s : State} (hs : Mem.wf s.mem = true) : Mem.wf (holdAccrual s).mem = true := by
  show Canonical (holdAccrual s)
  unfold holdAccrual
  split
  · extract_lets power done weight
    have hdone : Canonical done := .of_mem_eq (State.mem_withPower ..) hs
    refine .ite hdone (.ite (.of_mem_eq (raiseEvent_mem ..) (.of_mem_eq (detectNote_mem ..) hdone)) ?_)
    refine .forEach _ (fun p t ht => ?_) hdone
    extract_lets i cleared tiles
    split
    · exact ht
    · have hcleared : Canonical cleared := .of_mem_eq (State.modPipe_mem ..) ht
      extract_lets past noted
      have hnoted : Canonical noted := .ite (.of_mem_eq (emitRange_mem ..) hcleared) hcleared
      exact .forEach _ (fun t u hu => .forEach _ (fun v w hw => .sampleRow hw) hu) hnoted
  · exact hs

@[simp] theorem checkpointEnd_wf {n slot : Nat} {error : Bool} {check : Check} {s : State} (hs : Mem.wf s.mem = true) :
    Mem.wf (checkpointEnd n slot error check s).mem = true := by
  unfold checkpointEnd
  split <;> simp [hs]

@[simp] theorem putCounters_wf {i : Nat} {rows : List (List Nat)} {s : State} (hs : Mem.wf s.mem = true) :
    Mem.wf (putCounters i rows s).mem = true :=
  Canonical.forEach _ (fun _ _ ht => .forEach _ (fun _ _ hu => .putIn hu) ht) hs

@[simp] theorem applySection_wf {i card : Nat} {rows : List (List Nat)} {s : State} (hs : Mem.wf s.mem = true) :
    Mem.wf (applySection i card rows s).mem = true :=
  Canonical.forEach _ (fun _ _ ht => becomeSpare_wf ht) (setCard_wf (putCounters_wf hs))

@[simp] theorem restoreSections_wf {b : List Nat} {total n o skipped : Nat} {s : State} (hs : Mem.wf s.mem = true) :
    Mem.wf (restoreSections b total n o skipped s).2.mem = true := by
  induction n generalizing o skipped s with
  | zero => exact hs
  | succ n ih =>
    unfold restoreSections
    dsimp only
    repeat' split
    · exact ih hs
    · exact ih hs
    · exact ih hs
    · exact ih (applySection_wf hs)

@[simp] theorem runRestore_wf {file : Option (List Nat)} {j : Job} {s : State} (hs : Mem.wf s.mem = true) :
    Mem.wf (runRestore file j s).mem = true := by
  unfold runRestore
  dsimp only
  repeat' split
  · simp [hs]
  · simp [hs]
  · simp [hs]
  · exact restoreSections_wf (by simp [hs])

@[simp] theorem mergeEngagement_wf {e : Rect × Nat × Nat} {s : State} (hs : Mem.wf s.mem = true) :
    Mem.wf (mergeEngagement e s).mem = true := by
  unfold mergeEngagement
  repeat' split
  all_goals simp [hs]

@[simp] theorem restoreEnd_wf {n slot : Nat} {s : State} (hs : Mem.wf s.mem = true) :
    Mem.wf (restoreEnd n slot s).mem = true := by
  show Canonical (restoreEnd n slot s)
  unfold restoreEnd
  split
  · exact hs
  · extract_lets merged noted age selected seeded skipped
    have hmerged : Canonical merged := .forEach _ (fun _ _ ht => mergeEngagement_wf ht) hs
    have hnoted : Canonical noted := .ite (.of_mem_eq (detectNote_mem ..) hmerged) hmerged
    have hselected : Canonical selected := .of_mem_eq (restoreSelects_mem ..) (.of_mem_eq (State.mem_withAge ..) hnoted)
    have hseeded : Canonical seeded := .ite (.of_mem_eq (seedStart_mem ..) hselected) hselected
    exact .ite (.of_mem_eq (finishJob_mem ..) hseeded) (.of_mem_eq (finishJob_mem ..) hseeded)

/-! ### Scan-out -/

@[simp] theorem closeWindow_wf {s : State} (hs : Mem.wf s.mem = true) : Mem.wf (closeWindow s).mem = true := by
  unfold closeWindow
  split <;> simp [hs]

@[simp] theorem latchPoint_wf {dt : Nat} {s : State} (hs : Mem.wf s.mem = true) :
    Mem.wf (latchPoint dt s).mem = true := by
  unfold latchPoint
  dsimp only
  split <;> simp [hs]

/-! ### Resets and start-up -/

@[simp] theorem powerOnReset_wf {s : State} (hs : Mem.wf s.mem = true) : Mem.wf (powerOnReset s).mem = true := by
  unfold powerOnReset
  split
  · exact hs
  · rfl

@[simp] theorem stopWrite_wf {j : Job} {s : State} (hs : Mem.wf s.mem = true) : Mem.wf (stopWrite j s).mem = true := by
  rw [stopWrite]
  exact Mem.wf_forEach _ (fun _ _ ht => State.puts_wf ht) hs

@[simp] theorem pcieReset_wf {kind : Nat} {s : State} (hs : Mem.wf s.mem = true) :
    Mem.wf (pcieReset kind s).mem = true := by
  rw [pcieReset, orphanAll_mem]
  exact Mem.wf_forEach _ (fun _ _ ht => stopWrite_wf ht) (by simp [hs])

@[simp] theorem memoryInitialiseEnd_wf {s : State} (hs : Mem.wf s.mem = true) :
    Mem.wf (memoryInitialiseEnd s).mem = true := by
  unfold memoryInitialiseEnd
  split
  · exact hs
  · dsimp only
    split
    · exact hs
    · rfl

@[simp] theorem memoryScrub_wf {m row : Nat} {c : Check} {s : State} (hs : Mem.wf s.mem = true) :
    Mem.wf (memoryScrub m row c s).mem = true := by
  unfold memoryScrub
  repeat' split
  all_goals simp [hs]

/-! ### Forced detections -/

@[simp] theorem forcedPort_wf {p k : Nat} {s : State} (hs : Mem.wf s.mem = true) :
    Mem.wf (forcedPort p k s).mem = true := by
  unfold forcedPort
  dsimp only
  repeat' split
  all_goals simp [hs]

@[simp] theorem forcedChannel_wf {m k : Nat} {s : State} (hs : Mem.wf s.mem = true) :
    Mem.wf (forcedChannel m k s).mem = true := by
  unfold forcedChannel
  dsimp only
  repeat' split
  all_goals simp [hs]

@[simp] theorem forcedAction_wf {u k : Nat} {s : State} (hs : Mem.wf s.mem = true) :
    Mem.wf (forcedAction u k s).mem = true := by
  unfold forcedAction
  repeat' split
  all_goals simp [hs]

@[simp] theorem faultForce_wf {u bits : Nat} {s : State} (hs : Mem.wf s.mem = true) :
    Mem.wf (faultForce u bits s).mem = true := by
  unfold faultForce
  dsimp only
  split
  · simp [hs]
  · rw [faultActions_mem]
    exact Mem.wf_forEach _ (fun _ _ ht => forcedAction_wf ht) (by simp [hs])

/-! ### Accepted register writes -/

@[simp] theorem portStop_wf {p : Nat} {s : State} (hs : Mem.wf s.mem = true) : Mem.wf (portStop p s).mem = true := by
  unfold portStop
  split <;> simp [hs]

@[simp] theorem portCtlWrite_wf {p v : Nat} {s : State} (hs : Mem.wf s.mem = true) :
    Mem.wf (portCtlWrite p v s).mem = true := by
  unfold portCtlWrite
  dsimp only
  repeat' split
  all_goals simp [hs]

@[simp] theorem regWrite_wf {r : Reg} {v : Nat} {s : State} (hs : Mem.wf s.mem = true) :
    Mem.wf (regWrite r v s).mem = true := by
  unfold regWrite
  split <;> simp [hs]

/-! ### PCIe requests -/

@[simp] theorem takeWrite_wf {q : Req} {r : Reg} {v : Nat} {s : State} (hs : Mem.wf s.mem = true) :
    Mem.wf (takeWrite q r v s).mem = true := by
  unfold takeWrite
  repeat' split
  all_goals simp [hs]

@[simp] theorem writeTests_wf {q : Req} {v : Nat} {s : State} (hs : Mem.wf s.mem = true) :
    Mem.wf (writeTests q v s).mem = true := by
  unfold writeTests
  repeat' split
  all_goals simp [hs]

@[simp] theorem bar0Write_wf {q : Req} {v : Nat} {s : State} (hs : Mem.wf s.mem = true) :
    Mem.wf (bar0Write q v s).mem = true := by
  unfold bar0Write
  dsimp only
  split <;> simp [hs]

@[simp] theorem writeReg_wf {r : Reg} {v : Nat} {s : State} (hs : Mem.wf s.mem = true) :
    Mem.wf (writeReg r v s).mem = true := by
  simp [writeReg, hs]

@[simp] theorem bar2Store_wf (q : Req) (data : List Nat) {s : State} (hs : Mem.wf s.mem = true) :
    Mem.wf (bar2Store q data s).mem = true :=
  forEach_keeps State.MemOk _ _ (fun _ _ ht => Mem.wf_put _ _ _ ht) s hs

@[simp] theorem bar2Access_wf {write : Bool} {q : Req} {data : List Nat} {s : State} (hs : Mem.wf s.mem = true) :
    Mem.wf (bar2Access write q data s).mem = true := by
  show Canonical (bar2Access write q data s)
  unfold bar2Access
  extract_lets arrived
  have harrived : Canonical arrived := .of_mem_eq (hostArrive_mem ..) hs
  have hrequested : Canonical (hostRequests q arrived) := .of_mem_eq (hostRequests_mem ..) harrived
  have hread : ∀ o, Canonical (arrived.emit o) := fun o => .of_mem_eq (State.emit_mem ..) harrived
  refine .ite (.ite harrived (hread _)) ?_
  split
  · exact .of_mem_eq (refuse_mem ..) harrived
  · refine .ite (.ite harrived (hread _)) (.ite ?_ (.of_mem_eq (State.emit_mem ..) hrequested))
    exact .of_mem_eq (noteChange_mem ..) (.of_mem_eq (noteVersion_mem ..) (bar2Store_wf q data hrequested))

end Sys2Proof.Machine

/-! ## Every step keeps device memory canonical (O60) -/

namespace Sys2Proof.Machine

theorem next_memOk {u t : State} (hu : Mem.wf u.mem = true)
    (h : (Host.Outcome.next u : Host.Outcome State Fault Refusal) = .next t) : t.MemOk := by
  cases h
  exact hu

/-- Every command, by what its meaning calls: a register write, the start of a ring command, or a function that has
a lemma above. -/
theorem exec_memOk {i : Instr} {s t : State} (hs : s.MemOk) (h : exec i s = .next t) : t.MemOk := by
  cases i with
  | registerWrite _ _ | msixTableWrite _ _ => exact next_memOk (bar0Write_wf hs) h
  | accErrLogClear | scanCommit | layerCommit | resCommit | emitReload | geomCheck | ageClear | bistInit | bistCheck
  | bistRecover | bistDiscard | cloveResume | fuseReload | memoryInitialise
  | globalUnlock _ | scanStart _ | scanStop _ | resEnable _ | resDisable _ | portCntClear _ | powerReqWrite _
  | powerLtrWrite _ | nvsCmdRead _ | nvsCmdWrite _ | nvsCmdSave _ | setPassword _
  | doorbell _ _ | ringEnable _ _ | ringDisable _ _ | portEnable _ _ | portDisable _ _ | portRetrain _ _
  | faultForce _ _ | faultEnableWrite _ _ | prbsGen _ _ _ | prbsCheck _ _ _ | laneInject _ _ _ =>
    exact next_memOk (writeReg_wf hs) h
  | bistUpdate _ _ _ => exact next_memOk (startJob_wf (fun _ _ ht => runBistUpdate_wf ht) hs) h
  | stressRestore _ _ => exact next_memOk (startJob_wf (fun _ _ ht => runRestore_wf ht) hs) h
  | nop _ | fence _ | layerWrite _ | layerBind _ | surfaceRetire _ | flush _ | tileCmd _ _ | stressCheckpoint _
  | powerReq _ | nvsRead _ | nvsWrite _ _ | nvsSave _ | alertShow _ | alertClear _ =>
    exact next_memOk (startJob_wf_of_keepsMem (fun _ => by simp) hs) h
  | _ => exact next_memOk (by simp [hs]) h

/-- Settles O60: with an empty queue a cycle passes and writes no memory; else the front command takes effect
on a state with the same memory. -/
theorem stepsKeepMemoryCanonical : Obligations.StepsKeepMemoryCanonical := by
  unfold Obligations.StepsKeepMemoryCanonical
  intro s t hs h
  unfold step at h
  split at h
  · exact next_memOk (by simp [hs]) h
  · next c rest _ => exact exec_memOk (s := { s with pending := rest }) hs h

end Sys2Proof.Machine

/-! ## Register writes of an open state, and single bits of a word -/

namespace Sys2Proof.Machine

/-- The aligned DW at a register's address is that register. -/
theorem locate_aligned {r : Reg} (h : r.inMap = true) : locate (r.addr / 4 * 4) = some r := by
  rw [Nat.div_mul_cancel (Nat.dvd_of_mod_eq_zero r.addr_mod_four), locate_addr h]

theorem State.Open.reachable {s : State} (h : s.Open) : s.Reachable := h.1

theorem State.Open.fatal_eq {s : State} (h : s.Open) : s.faultg.fatal = false := by
  obtain ⟨-, -, -, -, hfatal, -⟩ := h
  exact hfatal

theorem State.Open.move_eq {s : State} (h : s.Open) : s.power.move = .none := by
  obtain ⟨-, -, -, -, -, hmove⟩ := h
  exact hmove

/-- In a state that is open to accesses, a write that no test of its own register refuses has the register's effect and
nothing more, where that effect starts no power transition (R39). -/
theorem writeReg_open (r : Reg) (v : Nat) {s : State} (hs : s.Open) (hm : r.inMap = true) (hv : v < 2 ^ 32)
    (hr : r ≠ .globalUnlock) (hg : r.guarded = false) (hb : regBusy r v s = false) (ht : regState r v s = false)
    (hx : regRange r v s = false) (hp : (regWrite r v s).power.move = .none) : writeReg r v s = regWrite r v s := by
  rw [writeReg_plain r v s hs.reachable (locate_aligned hm) hv (writeKind_open r v s hs hr hg hb ht hx) hg, powerGo_none _ hp]

/-- The model's reading of a bit is the library's. -/
theorem bit_eq_testBit (n i : Nat) : bit n i = n.testBit i := by
  simp [bit, Nat.testBit_eq_decide_div_mod_eq, Bool.beq_eq_decide_eq]

/-- A masked write keeps the bits of the mask. -/
theorem Reg.bit_keep (r : Reg) (v i : Nat) : bit (r.keep v) i = (bit v i && bit r.rw i) := by
  simp only [bit_eq_testBit]
  exact Nat.testBit_land v r.rw i

/-- Bits at and above 32 are lost in a register; the others are kept. -/
theorem bit_mod_two_pow {v i w : Nat} (hi : i < w) : bit (v % 2 ^ w) i = bit v i := by
  simp [bit_eq_testBit, hi]

theorem add_two_pow_div {n k i : Nat} (hk : k < i) (h : bit n k = false) : (n + 2 ^ k) / 2 ^ i = n / 2 ^ i := by
  have hp : 0 < 2 ^ k := Nat.two_pow_pos k
  have he : n / 2 ^ k % 2 = 0 := by
    have : n / 2 ^ k % 2 ≠ 1 := by simpa [bit] using h
    omega
  obtain ⟨j, rfl⟩ : ∃ j, i = k + (1 + j) := ⟨i - k - 1, by omega⟩
  rw [Nat.pow_add, Nat.pow_add, ← Nat.div_div_eq_div_mul, ← Nat.div_div_eq_div_mul, ← Nat.div_div_eq_div_mul,
    ← Nat.div_div_eq_div_mul, Nat.add_div_right n hp]
  congr 1
  omega

/-- Adding an unset bit leaves every other bit. -/
theorem bit_add_two_pow_ne {n k i : Nat} (hi : i ≠ k) (h : bit n k = false) : bit (n + 2 ^ k) i = bit n i := by
  rcases Nat.lt_or_gt_of_ne hi with hlt | hgt
  · obtain ⟨j, rfl⟩ : ∃ j, k = i + (1 + j) := ⟨k - i - 1, by omega⟩
    rw [bit, bit, Nat.pow_add, Nat.add_mul_div_left _ _ (Nat.two_pow_pos i), Nat.pow_add, Nat.pow_one,
      Nat.add_mul_mod_self_left]
  · rw [bit, bit, add_two_pow_div hgt h]

/-- Setting or clearing one bit leaves every other. -/
@[simp] theorem bit_withBit_ne (n : Nat) {i k : Nat} (b : Bool) (hi : i ≠ k) : bit (withBit n k b) i = bit n i := by
  by_cases h : bit n k = true
  · cases b with
    | true => simp [withBit, h]
    | false =>
      have hle : 2 ^ k ≤ n := by
        by_contra hc
        simp [bit, Nat.div_eq_of_lt (Nat.lt_of_not_le hc)] at h
      have hclear : bit (n - 2 ^ k) k = false := by
        simpa [withBit, h] using bit_withBit n k false
      rw [show withBit n k false = n - 2 ^ k by simp [withBit, h], ← bit_add_two_pow_ne hi hclear,
        Nat.sub_add_cancel hle]
  · have hf : bit n k = false := by simpa using h
    cases b with
    | true => simpa [withBit, hf] using bit_add_two_pow_ne hi hf
    | false => simp [withBit, hf]

/-- Setting or clearing a bit below w keeps a word of w bits. -/
theorem withBit_lt {n i w : Nat} (b : Bool) (hn : n < 2 ^ w) (hi : i < w) : withBit n i b < 2 ^ w := by
  refine Nat.lt_pow_two_of_testBit _ fun j hj => ?_
  rw [← bit_eq_testBit, bit_withBit_ne n b (by omega), bit_eq_testBit]
  exact Nat.testBit_lt_two_pow (hn.trans_le (Nat.pow_le_pow_right (by decide) hj))

/-- A stored register is a word of 32 bits. -/
theorem State.rd_lt (s : State) (r : Reg) : s.rd r < 2 ^ 32 := BitVec.isLt _

/-- Setting a bit below a field leaves the field. -/
theorem fld_withBit_true (n : Nat) {hi lo k : Nat} (hk : k < lo) : fld (withBit n k true) hi lo = fld n hi lo := by
  by_cases h : bit n k = true
  · simp [withBit, h]
  · have hf : bit n k = false := by simpa using h
    simp [withBit, hf, fld, add_two_pow_div hk hf]

end Sys2Proof.Machine

/-! ## The start bits of timed operations (O18) -/

namespace Sys2Proof.Machine

/-- BIST_CTL keeps DRIVE alone (R208). -/
theorem keep_bistCtl (v : Nat) : Reg.bistCtl.keep v = v % 2 := Nat.and_one_is_mod v

/-- A write of BIST_CTL meets no test where no operation runs, every pass has ended, and DRIVE keeps its value (R208). -/
theorem bistCtl_accepted {v : Nat} {s : State} (hs : s.Open) (hv : v < 2 ^ 32) (hone : ones (fld v 4 1) 4 ≤ 1)
    (hrun : s.bist.initialising = false ∧ s.bist.checking = false ∧ s.bist.recovering = false)
    (hst : bistCtlState v s = false) (hp : (bistCtlWrite v s).power.move = .none) :
    writeReg .bistCtl v s = bistCtlWrite v s := by
  obtain ⟨hi, hc, hr⟩ := hrun
  exact writeReg_open .bistCtl v hs rfl hv nofun rfl (by simp [regBusy, hi, hc, hr]) hst
    (by simpa [regRange] using hone) hp

/-- INIT and CHECK, with DRIVE 0, meet no state test once no channel has a pass (R180, R207, R208). -/
theorem bistCtlState_start {v : Nat} {s : State} (hv : v = 2 ∨ v = 4) (hp : ∀ k, k < 64 → (s.drive k).pass = none) :
    bistCtlState v s = false := by
  have hnone : ((List.range 64).any fun k => (s.drive k).pass.isSome) = false := by simpa using hp
  rcases hv with rfl | rfl <;> simp [bistCtlState, hnone, bit]

/-- DISCARD with DRIVE as it stands meets no state test while a record is held (R206, R208). -/
theorem bistCtlState_discard {s : State} (h : s.recordHeld = true) :
    bistCtlState (16 + s.rd .bistCtl % 2) s = false := by
  rcases Nat.mod_two_eq_zero_or_one (s.rd .bistCtl) with hd | hd <;>
    simp [bistCtlState, bit, State.b, hd, h]

theorem bistCtlWrite_discard (s : State) :
    bistCtlWrite (16 + s.rd .bistCtl % 2) s =
      { s.wr .bistCtl (s.rd .bistCtl % 2) with bist := { s.bist with recUpdates := [], recPasses := [] } } := by
  rcases Nat.mod_two_eq_zero_or_one (s.rd .bistCtl) with hd | hd <;> rw [hd] <;> rfl

/-- AGE_CLEAR's own test (R152, R175): its write leaves ENABLE and KNOTS as they stand. -/
theorem ageCtlState_clear {s : State} (hstop : s.scan.state = .stopped) (hoff : s.b .ageCtl 0 = false)
    (hvalid : s.geom.valid = true) : ageCtlState (withBit (s.rd .ageCtl) 3 true) s = false := by
  have h : bit (s.rd .ageCtl) 0 = false := hoff
  simp [ageCtlState, State.scanRuns, State.b, hstop, h, hvalid]

/-- AGE_CLEAR changes the stored fields of AGE_CTL and starts the clear: no seeding starts or ends (R152, R162). -/
theorem ageCtlWrite_clear (s : State) :
    ageCtlWrite (withBit (s.rd .ageCtl) 3 true) s =
      ageClear (s.wr .ageCtl (Reg.ageCtl.keep (withBit (s.rd .ageCtl) 3 true))) := by
  cases h : bit (s.rd .ageCtl) 1 <;> simp [ageCtlWrite, State.b, h]

/-- A masked write of AGE_CTL keeps its low bits. -/
theorem ageClear_bit {s : State} {i : Nat} (hi : i < 3) :
    (s.wr .ageCtl (Reg.ageCtl.keep (withBit (s.rd .ageCtl) 3 true))).b .ageCtl i = s.b .ageCtl i := by
  have hrw : bit Reg.ageCtl.rw i = true := by interval_cases i <;> rfl
  rw [State.b, State.rd_wr, bit_mod_two_pow (by omega), Reg.bit_keep, hrw, bit_withBit_ne _ _ (by omega), Bool.and_true]
  rfl

/-- AGE_CLEAR's write meets no test in the stated states (R152, R175). -/
theorem writeReg_ageClear {s : State} (hs : s.Open) (hstop : s.scan.state = .stopped) (hcl : s.age.clearing = false)
    (hoff : s.b .ageCtl 0 = false) (hvalid : s.geom.valid = true) (hlo : 60 ≤ s.f .ageCtl 26 16)
    (hhi : s.f .ageCtl 26 16 ≤ 1920) :
    writeReg .ageCtl (withBit (s.rd .ageCtl) 3 true) s =
      ageClear (s.wr .ageCtl (Reg.ageCtl.keep (withBit (s.rd .ageCtl) 3 true))) := by
  have hw := ageCtlWrite_clear s
  have hrange : regRange .ageCtl (withBit (s.rd .ageCtl) 3 true) s = false := by
    simpa [regRange, outside, fld_withBit_true, State.f] using And.intro hlo hhi
  have hmove : (ageCtlWrite (withBit (s.rd .ageCtl) 3 true) s).power.move = .none := by
    rw [hw]
    exact hs.move_eq
  exact (writeReg_open .ageCtl _ hs rfl (withBit_lt true (s.rd_lt _) (by decide)) nofun rfl (by simp [regBusy, hcl])
    (ageCtlState_clear hstop hoff hvalid) hrange hmove).trans hw

/-- Settles O18: each start bit meets no test of its register in the stated states, and its write's effect is the one
claimed. -/
theorem startBits : Obligations.StartBits := by
  unfold Obligations.StartBits
  intro s hs
  have hmove := hs.move_eq
  obtain ⟨-, hphase, -⟩ := id hs
  refine ⟨fun hi hc hr hp => ⟨?init, ?check⟩, fun hi hc hr hrec => ?discard, fun hstop hbusy => ?geom,
    fun hstop hcl hoff hvalid hlo hhi => ?age, fun hstop hdown => ?fuse, fun hbar hinit hbusy => ?memory⟩
  case init =>
    exact congrArg Host.Outcome.next
      (bistCtl_accepted hs (by decide) (by decide) ⟨hi, hc, hr⟩ (bistCtlState_start (.inl rfl) hp) hmove)
  case check =>
    exact congrArg Host.Outcome.next
      (bistCtl_accepted hs (by decide) (by decide) ⟨hi, hc, hr⟩ (bistCtlState_start (.inr rfl) hp) hmove)
  case discard =>
    have hone : ones (fld (16 + s.rd .bistCtl % 2) 4 1) 4 ≤ 1 := by
      rcases Nat.mod_two_eq_zero_or_one (s.rd .bistCtl) with hd | hd <;> rw [hd] <;> decide
    have hw := bistCtlWrite_discard s
    exact congrArg Host.Outcome.next
      ((bistCtl_accepted hs (by omega) hone ⟨hi, hc, hr⟩ (bistCtlState_discard hrec) (by rw [hw]; exact hmove)).trans hw)
  case geom =>
    exact congrArg Host.Outcome.next (writeReg_open .scanGeomCtl 1 hs rfl (by decide) nofun rfl hbusy
      (by simp [regState, State.scanRuns, hstop]) rfl hmove)
  case age =>
    exact ⟨_, congrArg Host.Outcome.next (writeReg_ageClear hs hstop hcl hoff hvalid hlo hhi), rfl,
      fun q hq => State.rd_wr_ne s _ _ _ hq, (ageClear_bit (by decide)).trans hoff, ageClear_bit (by decide)⟩
  case fuse =>
    have hbar : s.fuseBarred = false := by simpa [State.fuseBarred, State.scanRuns, hphase, hstop] using hdown
    exact congrArg Host.Outcome.next (writeReg_open .fuseCtl 1 hs rfl (by decide) nofun rfl rfl
      (by simp [regState, hbar]) rfl hmove)
  case memory =>
    exact congrArg Host.Outcome.next (writeReg_open .memcInit 1 hs rfl (by decide) nofun rfl
      (by simp [regBusy, hinit, hbusy]) (by simp [regState, hbar]) rfl hmove)

end Sys2Proof.Machine

/-! ## The end of the geometry check (O41) -/

namespace Sys2Proof.Machine

/-- A table filled from a list of keys: a listed key reads its value, every other key reads as before. -/
theorem Tab.get_foldl_put {α : Type} [DecidableEq α] (d : α) (v : Nat → α) (l : List Nat) (t : Tab α) (k : Nat) :
    Tab.get d k (l.foldl (fun t x => Tab.put d x (v x) t) t) = if k ∈ l then v k else Tab.get d k t := by
  induction l generalizing t with
  | nil => rfl
  | cons x l ih =>
    rw [List.foldl_cons, ih]
    by_cases hl : k ∈ l
    · simp [hl]
    · by_cases hx : k = x
      · subst hx
        simp
      · simp [hl, hx]

/-- An accepted geometry's chains are the ports' settings (R18, R23). -/
theorem geomAccept_chain (acc : CheckAcc) (s : State) (p : Nat) :
    (geomAccept acc s).chain p = if p < 32 then { tiles := s.setTiles p, looped := s.setLooped p } else {} := by
  unfold State.chain geomAccept
  dsimp only
  rw [Tab.get_foldl_put, Tab.get_nil]
  simp only [List.mem_range]

/-- What follows the check's result, whatever it is: the check no longer runs. -/
def State.checkEnded (s : State) : State := { s with geom := { s.geom with busy := false, versions := [] } }.tickFree

theorem State.checkEnded_chain (s : State) (p : Nat) : s.checkEnded.chain p = s.chain p := rfl

/-- GEOM_CHECK_END of a geometry that passes (R23). -/
theorem geomCheckEnd_ok {s : State} {acc : CheckAcc} (hbusy : s.geom.busy = true) (h : geomCheck s = .ok acc) :
    geomCheckEnd s = (geomAccept acc s).checkEnded := by
  unfold geomCheckEnd
  rw [hbusy, h]
  rfl

/-- GEOM_CHECK_END of a geometry that fails (R23, R24). -/
theorem geomCheckEnd_error {s : State} {e p h : Nat} (hbusy : s.geom.busy = true) (herr : geomCheck s = .error (e, p, h)) :
    geomCheckEnd s = State.checkEnded { s with geom := { s.geom with error := e, port := p, hop := h } } := by
  unfold geomCheckEnd
  rw [hbusy, herr]
  rfl

/-- Settles O41, by the check's two outcomes; the chains of an accepted geometry are `geomAccept_chain`. -/
theorem geometryCheckEnds : Obligations.GeometryCheckEnds := by
  unfold Obligations.GeometryCheckEnds
  intro s hbusy
  refine ⟨fun acc hok => ?_, fun e p h herr => congrArg Host.Outcome.next (geomCheckEnd_error hbusy herr)⟩
  refine ⟨(geomAccept acc s).checkEnded, congrArg Host.Outcome.next (geomCheckEnd_ok hbusy hok), rfl, rfl, rfl, rfl, rfl,
    rfl, rfl, fun p hp => ?_, fun p hp => ?_, rfl, rfl⟩
  · rw [State.checkEnded_chain, geomAccept_chain, if_pos hp]
  · rw [State.checkEnded_chain, geomAccept_chain, if_neg (by omega)]

end Sys2Proof.Machine

/-! ## Fault sets: what reports leave, and which sticky bits a detection sets (R381, R382) -/

namespace Sys2Proof.Machine

@[simp] theorem State.faults_ite (c : Prop) [Decidable c] (a b : State) :
    (if c then a else b).faults = if c then a.faults else b.faults := by
  split <;> rfl

@[simp] theorem State.journal_faults (e : Nat) (x : JournalEntry) (s : State) : (s.journal e x).faults = s.faults := by
  simp [State.journal]

@[simp] theorem sendMsix_faults (v : Nat) (s : State) : (sendMsix v s).faults = s.faults := by simp [sendMsix]

@[simp] theorem ringInterrupt_faults (n : Nat) (s : State) : (ringInterrupt n s).faults = s.faults := by
  simp [ringInterrupt]

@[simp] theorem ringWrite_faults (n : Nat) (words : List Nat) (s : State) : (ringWrite n words s).faults = s.faults := by
  simp [ringWrite]

@[simp] theorem stamp_faults (n : Nat) (s : State) : (stamp n s).2.2.faults = s.faults := rfl

@[simp] theorem writeLost_faults (n : Nat) (s : State) : (writeLost n s).faults = s.faults := by simp [writeLost]

@[simp] theorem deliverEvent_faults (n : Nat) (words : List Nat) (s : State) :
    (deliverEvent n words s).faults = s.faults := by
  simp [deliverEvent]

@[simp] theorem routeEvent_faults (code : Nat) (words : List Nat) (s : State) :
    (routeEvent code words s).faults = s.faults := by
  simp [routeEvent]

@[simp] theorem raiseEventAs_faults (exempt : Bool) (src code sev : Nat) (payload : List Nat) (s : State) :
    (raiseEventAs exempt src code sev payload s).faults = s.faults := by
  simp [raiseEventAs]

@[simp] theorem writeCompletion_faults (n slot tag op st d : Nat) (s : State) :
    (writeCompletion n slot tag op st d s).faults = s.faults := by
  simp [writeCompletion]

@[simp] theorem fenceCheck_faults (n : Nat) (s : State) : (fenceCheck n s).faults = s.faults := by
  unfold fenceCheck
  dsimp only
  split
  · rfl
  · split <;> simp

@[simp] theorem stopCheck_faults (n : Nat) (s : State) : (stopCheck n s).faults = s.faults := by simp [stopCheck]

@[simp] theorem finishJob_faults (j : Job) (status detail : Nat) (s : State) :
    (finishJob j status detail s).faults = s.faults := by
  simp [finishJob]

/-- A detection sets the sticky bit of its source and no other (R381). -/
theorem detectOne_sticky {u k sev : Nat} (h : severity u k = some sev) (forced persist mergeOnly exempt : Bool) (s : State) :
    ((detectOne u k forced persist mergeOnly exempt s).fault u).sticky = withBit (s.fault u).sticky k true := by
  have hset : ∀ (v : FaultUnit) (t : State), t.faults = (s.setFault u v).faults → t.fault u = v :=
    fun v t ht => by rw [State.fault, ht]; exact State.fault_setFault s u v
  unfold detectOne
  simp only [h]
  split
  · split
    · rw [hset _ _ (by rw [sendMsix_faults, raiseEventAs_faults])]
    · rw [hset _ _ (by rw [raiseEventAs_faults])]
  · rw [hset _ _ rfl]

/-- A detection leaves every other unit's fault set. -/
theorem detectOne_fault_ne {u k w : Nat} (hw : w ≠ u) (forced persist mergeOnly exempt : Bool) (s : State) :
    (detectOne u k forced persist mergeOnly exempt s).fault w = s.fault w := by
  have hset : ∀ (v : FaultUnit) (t : State), t.faults = (s.setFault u v).faults → t.fault w = s.fault w :=
    fun v t ht => by rw [State.fault, ht]; exact State.fault_setFault_ne s u w v hw
  unfold detectOne
  split
  · rfl
  · dsimp only
    split
    · split
      · exact hset _ _ (by rw [sendMsix_faults, raiseEventAs_faults])
      · exact hset _ _ (by rw [raiseEventAs_faults])
    · exact hset _ _ rfl

/-- No sticky bit of a fault set clears between `s` and `t`. -/
def StickyGrows (s t : State) : Prop :=
  ∀ u k, bit (s.fault u).sticky k = true → bit (t.fault u).sticky k = true

theorem StickyGrows.of_faults_eq {s t : State} (h : t.faults = s.faults) : StickyGrows s t := by
  intro u k hk
  rwa [State.fault, h]

theorem StickyGrows.trans {s t u : State} (h : StickyGrows s t) (k : StickyGrows t u) : StickyGrows s u :=
  fun v j hj => k v j (h v j hj)

theorem detectOne_stickyGrows (u k : Nat) (forced persist mergeOnly exempt : Bool) (s : State) :
    StickyGrows s (detectOne u k forced persist mergeOnly exempt s) := by
  intro w j hj
  by_cases hw : w = u
  · subst hw
    cases h : severity w k with
    | none => simpa [detectOne, h] using hj
    | some sev =>
      rw [detectOne_sticky h]
      by_cases hk : j = k
      · subst hk
        exact bit_withBit _ _ _
      · rwa [bit_withBit_ne _ _ hk]
  · rwa [detectOne_fault_ne hw]

/-! ### Loops that bring every listed unit to a state -/

/-- What each round brings about for its own number and no later round undoes, a `forEach` brings about for every number of
its list. -/
theorem forEach_reaches {β σ : Type} (P : β → σ → Prop) (l : List β) (f : β → σ → σ) (hset : ∀ b s, P b (f b s))
    (hkeep : ∀ a b s, P b s → P b (f a s)) (s : σ) : ∀ b ∈ l, P b (forEach l f s) := by
  induction l generalizing s with
  | nil => nofun
  | cons a l ih =>
    intro b hb
    rcases List.mem_cons.mp hb with rfl | hb
    · exact forEach_keeps (P b) l f (fun c t => hkeep c b t) _ (hset b s)
    · exact ih _ b hb

/-! ### The detections of one cycle -/

/-- The highest of a list of values and a starting value m bounds them all, and is m or one of the list. -/
theorem foldl_max_attained (g : Nat → Nat) (l : List Nat) (m : Nat) :
    (∀ k ∈ l, g k ≤ l.foldl (fun m k => max m (g k)) m) ∧ m ≤ l.foldl (fun m k => max m (g k)) m ∧
      (l.foldl (fun m k => max m (g k)) m = m ∨ ∃ k ∈ l, g k = l.foldl (fun m k => max m (g k)) m) := by
  induction l generalizing m with
  | nil => simp
  | cons a l ih =>
    obtain ⟨hall, hm, hat⟩ := ih (max m (g a))
    simp only [List.foldl_cons, List.mem_cons, forall_eq_or_imp, exists_eq_or_imp]
    refine ⟨⟨by omega, hall⟩, by omega, ?_⟩
    rcases hat with hat | hat
    · omega
    · exact .inr (.inr hat)

/-- Every source of a cycle's detections is recorded (R382). -/
theorem mem_detectOrder {u k : Nat} {ks : List Nat} (hk : k ∈ ks) (hsev : (severity u k).isSome = true) :
    k ∈ detectOrder u ks := by
  have hmem : k ∈ ks.filter fun j => (severity u j).isSome := List.mem_filter.mpr ⟨hk, hsev⟩
  unfold detectOrder
  dsimp only
  generalize (ks.filter fun j => (severity u j).isSome) = l at hmem ⊢
  obtain ⟨hall, -, hat⟩ := foldl_max_attained (fun j => (severity u j).getD 0) l 0
  split
  · next hnone =>
    rw [List.find?_eq_none] at hnone
    rcases hat with hat | ⟨j, hj, hat⟩
    · have := hall k hmem
      have := hnone k hmem
      simp_all
    · exact absurd hat (by simpa using hnone j hj)
  · next first _ =>
    by_cases h : k = first
    · simp [h]
    · simp [h, hmem]

/-- Before a Fatal, a group of detections of a unit that no takeover replaces goes to the unit's own set, in order (R382). -/
theorem detectGroup_own {u : Nat} {s : State} (hfatal : s.faultg.fatal = false) (hu : recordUnit s u = (u, false))
    (ks : List Nat) (forced persist : Bool) :
    detectGroup u ks forced persist s =
      forEach (detectOrder u ks) (fun k st => detectOne u k forced persist false true st) s := by
  simp [detectGroup, hfatal, detectAll, hu]

/-- A group of detections is a report. -/
theorem forEach_detectOne_reports (l : List Nat) (u : Nat) (forced persist mergeOnly exempt : Bool) (s : State) :
    Reports s (forEach l (fun k st => detectOne u k forced persist mergeOnly exempt st) s) :=
  forEach_keeps (Reports s) l _ (fun _ _ h => h.trans (detectOne_reports ..)) s (.refl s)

/-- A group of detections sets the sticky bit of each of its sources. -/
theorem forEach_detectOne_sticky {l : List Nat} {u k : Nat} (hk : k ∈ l) (hsev : (severity u k).isSome = true)
    (forced persist mergeOnly exempt : Bool) (s : State) :
    bit ((forEach l (fun k st => detectOne u k forced persist mergeOnly exempt st) s).fault u).sticky k = true := by
  refine forEach_reaches (fun k t => (severity u k).isSome = true → bit (t.fault u).sticky k = true) l _ ?_ ?_ s k hk hsev
  · intro j t hj
    obtain ⟨sev, hsev⟩ := Option.isSome_iff_exists.mp hj
    rw [detectOne_sticky hsev]
    exact bit_withBit _ _ _
  · exact fun a j t ht hj => detectOne_stickyGrows u a _ _ _ _ t u j (ht hj)

end Sys2Proof.Machine

/-! ## What the store's queue does by itself (R360, R365, R369) -/

namespace Sys2Proof.Machine

/-- `t` differs from `s` at most in what the store does when operations start, are refused or end: the store itself, the
free values it drew, the outcome of a long operation, completions and reports; and no sticky bit clears. -/
structure StoreWork (s t : State) : Prop where
  frame : Completes { s with
    nvs := t.nvs, free := t.free
    glob := { s.glob with busy := t.glob.busy, done := t.glob.done, result := t.glob.result } } t
  sticky : StickyGrows s t

theorem StoreWork.trans {s t u : State} (h : StoreWork s t) (k : StoreWork t u) : StoreWork s u := by
  refine ⟨?_, h.sticky.trans k.sticky⟩
  have hf := h.frame
  have kf := k.frame
  unfold Completes Reports at *
  rw [kf, hf]

theorem StoreWork.regs_eq {s t : State} (h : StoreWork s t) : t.regs = s.regs := by rw [h.frame]
theorem StoreWork.mem_eq {s t : State} (h : StoreWork s t) : t.mem = s.mem := by rw [h.frame]
theorem StoreWork.jtag_eq {s t : State} (h : StoreWork s t) : t.glob.jtag = s.glob.jtag := by rw [h.frame]
theorem StoreWork.faultg_eq {s t : State} (h : StoreWork s t) : t.faultg = s.faultg := by rw [h.frame]
theorem StoreWork.ports_eq {s t : State} (h : StoreWork s t) : t.ports = s.ports := by rw [h.frame]
theorem StoreWork.bist_eq {s t : State} (h : StoreWork s t) : t.bist = s.bist := by rw [h.frame]

/-- A change of the store's own state. -/
theorem StoreWork.of_nvs (s : State) (n : Nvs) (f : Nat) : StoreWork s { s with nvs := n, free := f } :=
  ⟨rfl, .of_faults_eq rfl⟩

theorem StoreWork.refl (s : State) : StoreWork s s := .of_nvs s s.nvs s.free

theorem StoreWork.ite {c : Prop} [Decidable c] {s t u : State} (ht : StoreWork s t) (hu : StoreWork s u) :
    StoreWork s (if c then t else u) := by
  split
  · exact ht
  · exact hu

theorem detectNote_storeWork (u k : Nat) (s : State) : StoreWork s (detectNote u k s) := by
  have h := detectNote_reports u k s
  refine ⟨?_, detectOne_stickyGrows u k _ _ _ _ s⟩
  rw [h]

theorem finishJob_storeWork (j : Job) (status detail : Nat) (s : State) : StoreWork s (finishJob j status detail s) := by
  have h := finishJob_completes j status detail s
  refine ⟨?_, .of_faults_eq (finishJob_faults ..)⟩
  rw [h]

theorem endRegister_storeWork (long : Bool) (status reason : Nat) (s : State) :
    StoreWork s (endRegister long status reason s) := by
  cases long <;> exact ⟨rfl, .of_faults_eq rfl⟩

theorem endRing_storeWork (ring slot status detail : Nat) (s : State) : StoreWork s (endRing ring slot status detail s) := by
  unfold endRing
  split
  · exact finishJob_storeWork ..
  · exact .refl s

theorem endOp_storeWork (op : NvsOp) (status reason okDetail : Nat) (s : State) :
    StoreWork s (endOp op status reason okDetail s) := by
  cases op with
  | regRead => exact endRegister_storeWork false status reason s
  | regWrite | regSave | setPassword => exact endRegister_storeWork true status reason s
  | ringRead | ringWrite | ringSave => exact endRing_storeWork ..
  | append | spareMap | powerSave => exact .refl s

theorem maceSample_pinSample_storeWork (n : Nat) (s : State) : StoreWork s (maceSample n (pinSample s)) := by
  unfold pinSample
  split
  · exact .of_nvs ..
  · exact .of_nvs ..

theorem eraseTarget_storeWork (part page : Nat) (s : State) : StoreWork s (eraseTarget part page s) :=
  .ite (.refl s) (.of_nvs ..)

theorem logAppend_storeWork (kind : Nat) (payload : List Nat) (s : State) : StoreWork s (logAppend kind payload s) :=
  .ite (.of_nvs ..) (.of_nvs ..)

theorem nvsKick_storeWork (fuel : Nat) (s : State) : StoreWork s (nvsKick fuel s) := by
  induction fuel generalizing s with
  | zero => exact .refl s
  | succ fuel ih =>
    have hended : ∀ (op : NvsOp) (status reason : Nat) (t : State), StoreWork s t →
        StoreWork s (nvsKick fuel (endOp op status reason 0 t)) :=
      fun op status reason t ht => (ht.trans (endOp_storeWork ..)).trans (ih _)
    have hsampled : ∀ n k f, StoreWork s { maceSample n (pinSample s) with nvs := k, free := f } :=
      fun n k f => (maceSample_pinSample_storeWork n s).trans (.of_nvs ..)
    have hnoted : ∀ n k f, StoreWork s (detectNote 4 4 { maceSample n (pinSample s) with nvs := k, free := f }) :=
      fun n k f => (hsampled n k f).trans (detectNote_storeWork ..)
    unfold nvsKick
    refine .ite (.refl s) ?_
    split
    · exact .refl s
    · split
      · exact .ite (hended _ _ _ _ (.of_nvs ..)) (.ite ((hsampled _ _ _).trans (eraseTarget_storeWork ..))
          (.ite ((hnoted _ _ _).trans (ih _)) (hended _ _ _ _ (hnoted _ _ _))))
      · split
        · exact .ite (hsampled _ _ _) (hended _ _ _ _ (hnoted _ _ _))
        · exact .ite (hsampled _ _ _) (hended _ _ _ _ (hnoted _ _ _))
        · exact .of_nvs ..

/-- A log entry is the store's work alone, whatever it starts (R369). -/
theorem logWrite_storeWork (kind : Nat) (payload : List Nat) (s : State) : StoreWork s (logWrite kind payload s) :=
  (logAppend_storeWork ..).trans (nvsKick_storeWork ..)

end Sys2Proof.Machine

/-! ## Clove and the Fatal stop (R387, R388, R391) -/

namespace Sys2Proof.Machine

/-- `t` differs from `s` at most in ports and in the bistable layer. -/
def PortsAndPasses (s t : State) : Prop := t = { s with ports := t.ports, bist := t.bist }

theorem PortsAndPasses.trans {s t u : State} (h : PortsAndPasses s t) (k : PortsAndPasses t u) : PortsAndPasses s u := by
  unfold PortsAndPasses at *
  rw [k, h]

theorem interruptPass_portsAndPasses (k : Nat) (s : State) : PortsAndPasses s (interruptPass k s) := by
  unfold interruptPass
  split <;> rfl

/-- Clove's ports send CLV and drop their passes: nothing else changes (R204, R302, R388). -/
theorem clovePorts_portsAndPasses (s : State) : PortsAndPasses s (clovePorts s) := by
  refine forEach_keeps (PortsAndPasses s) _ _ (fun p t ht => ?_) s rfl
  have hsent : PortsAndPasses t (sendClv p (t.modPort p fun q => { q with clove := true, resumeLeft := 0 })) := rfl
  exact ((ht.trans hsent).trans (interruptPass_portsAndPasses ..)).trans (interruptPass_portsAndPasses ..)

/-- The state in which the first Halt or Fatal detection has its record, before any port or the log hears of it (R388). -/
def State.cloveRecorded (u k sev : Nat) (forced : Bool) (s : State) : State :=
  State.emit (.alive false) { s with faultg := { s.faultg with
    clove := true, alive := false, cloveSeverity := sev, firstValid := true, firstSource := sourceIndex u k
    firstSeverity := sev, firstForced := forced, firstTime := s.time.count, resumeFrames := 0 } }

theorem enterClove_first {s : State} (h : s.faultg.clove = false) (u k sev : Nat) (forced : Bool) :
    ∃ payload, enterClove u k sev forced s = logWrite 4 payload (clovePorts (s.cloveRecorded u k sev forced)) := by
  unfold enterClove
  rw [h]
  exact ⟨_, rfl⟩

theorem enterClove_again {s : State} (h : s.faultg.clove = true) (u k sev : Nat) (forced : Bool) :
    enterClove u k sev forced s =
      { s with faultg := { s.faultg with cloveSeverity := max s.faultg.cloveSeverity sev } } := by
  unfold enterClove
  rw [h]
  rfl

theorem enterClove_clove (u k sev : Nat) (forced : Bool) (s : State) : (enterClove u k sev forced s).faultg.clove = true := by
  cases h : s.faultg.clove with
  | true => rw [enterClove_again h]; exact h
  | false =>
    obtain ⟨payload, he⟩ := enterClove_first h u k sev forced
    rw [he, (logWrite_storeWork ..).faultg_eq, clovePorts_portsAndPasses]
    rfl

/-- `t` differs from `s` at most in what the first Halt or Fatal detection changes: the fault logic, ports, bistable passes, and
what a log entry does (R388). -/
abbrev CloveWork (s t : State) : Prop := StoreWork { s with faultg := t.faultg, ports := t.ports, bist := t.bist } t

theorem CloveWork.regs_eq {s t : State} (h : CloveWork s t) : t.regs = s.regs := (StoreWork.regs_eq h :)
theorem CloveWork.mem_eq {s t : State} (h : CloveWork s t) : t.mem = s.mem := (StoreWork.mem_eq h :)
theorem CloveWork.jtag_eq {s t : State} (h : CloveWork s t) : t.glob.jtag = s.glob.jtag := (StoreWork.jtag_eq h :)
theorem CloveWork.sticky {s t : State} (h : CloveWork s t) : StickyGrows s t := (StoreWork.sticky h :)

/-- The store's work after a change of the fault logic, ports and passes. -/
theorem CloveWork.of_storeWork {s c t : State} (f : FaultG) (p : Tab Port) (b : Bist) (o : List Output)
    (hc : c = { s with faultg := f, ports := p, bist := b, out := o }) (h : StoreWork c t) : CloveWork s t := by
  have hx : StoreWork { s with faultg := f, ports := p, bist := b } c := hc ▸ ⟨rfl, .of_faults_eq rfl⟩
  have ht := hx.trans h
  have hg : t.faultg = f := by rw [h.faultg_eq, hc]
  have hp : t.ports = p := by rw [h.ports_eq, hc]
  have hb : t.bist = b := by rw [h.bist_eq, hc]
  unfold CloveWork
  rwa [hg, hp, hb]

theorem enterClove_cloveWork (u k sev : Nat) (forced : Bool) (s : State) : CloveWork s (enterClove u k sev forced s) := by
  cases h : s.faultg.clove with
  | true => rw [enterClove_again h]; exact .refl _
  | false =>
    obtain ⟨payload, he⟩ := enterClove_first h u k sev forced
    have hports := clovePorts_portsAndPasses (s.cloveRecorded u k sev forced)
    rw [he]
    generalize clovePorts (s.cloveRecorded u k sev forced) = c at hports ⊢
    exact .of_storeWork _ c.ports c.bist _ hports (logWrite_storeWork ..)

/-- `t` differs from `s` at most in what a stop of scan-out, engines and pipes changes (R391). -/
def Stops (s t : State) : Prop :=
  t = { s with scan := t.scan, pipes := t.pipes, engines := t.engines, spans := t.spans }

theorem Stops.trans {s t u : State} (h : Stops s t) (k : Stops t u) : Stops s u := by
  unfold Stops at *
  rw [k, h]

theorem Stops.forEach {l : List Nat} {f : Nat → State → State} (hf : ∀ i t, Stops t (f i t)) (s : State) :
    Stops s (forEach l f s) :=
  forEach_keeps (Stops s) l f (fun i t ht => ht.trans (hf i t)) s rfl

theorem State.modPipe_stops (i : Nat) (g : Pipe → Pipe) (s : State) : Stops s (s.modPipe i g) := rfl
theorem State.modEngine_stops (e : Nat) (g : Engine → Engine) (s : State) : Stops s (s.modEngine e g) := rfl
theorem State.modSpan_stops (i : Nat) (g : Span → Span) (s : State) : Stops s (s.modSpan i g) := rfl

theorem haltScan_stops (s : State) : Stops s (haltScan s) := by
  unfold haltScan
  refine Stops.trans ?_ (.forEach (fun _ _ => State.modPipe_stops ..) _)
  rfl

theorem haltScan_state (s : State) : (haltScan s).scan.state = .stopped := by
  unfold haltScan
  rw [forEach_same (fun t : State => t.scan)]
  exact fun _ _ => rfl

/-- A Fatal stop sets FATAL, and stops scan-out, engines, spans and pipes (R391). -/
theorem fatalStop_stops (s : State) : Stops { s with faultg := { s.faultg with fatal := true } } (fatalStop s) := by
  unfold fatalStop
  exact (((haltScan_stops _).trans (.forEach (fun _ _ => State.modEngine_stops ..) _)).trans
    (.forEach (fun _ _ => State.modSpan_stops ..) _)).trans (.forEach (fun _ _ => State.modPipe_stops ..) _)

theorem fatalStop_state (s : State) : (fatalStop s).scan.state = .stopped := by
  unfold fatalStop
  rw [forEach_same (fun t : State => t.scan), forEach_same (fun t : State => t.scan), forEach_same (fun t : State => t.scan),
    haltScan_state]
  all_goals exact fun _ _ => rfl

/-- A loop that stops engines leaves none of its list running. -/
theorem forEach_modEngine_stopped (l : List Nat) (s : State) : ∀ e ∈ l,
    ((forEach l (fun e st => st.modEngine e fun g => { g with running := false, takeover := false }) s).engine e).running
      = false := by
  refine forEach_reaches (fun e (t : State) => (t.engine e).running = false) l _ (fun e t => ?_) (fun a e t h => ?_) s
  · rw [State.engine_modEngine]
  · by_cases he : e = a
    · rw [he, State.engine_modEngine]
    · rwa [State.engine_modEngine_ne _ _ _ _ he]

/-- No engine runs after a Fatal stop (R391). -/
theorem fatalStop_running (s : State) {e : Nat} (he : e < 72) : ((fatalStop s).engine e).running = false := by
  unfold fatalStop
  rw [State.engine, forEach_same (fun t : State => t.engines), forEach_same (fun t : State => t.engines)]
  · have hstopped := forEach_modEngine_stopped (List.range 72) (haltScan { s with faultg := { s.faultg with fatal := true } })
      e (List.mem_range.mpr he)
    rwa [State.engine] at hstopped
  all_goals exact fun _ _ => rfl

end Sys2Proof.Machine

/-! ## The fault logic's commands (O56) -/

namespace Sys2Proof.Machine

/-! ### FAULT_FORCE and FAULT_ENABLE (R383, R385) -/

/-- Under DRY a forced detection acts on nothing: it is recorded in its unit's set (R385). -/
theorem faultForce_dry {u : Nat} {s : State} (hfatal : s.faultg.fatal = false) (hu : recordUnit s u = (u, false))
    (hdry : s.dry = true) (bits : Nat) :
    faultForce u bits s =
      forEach (detectOrder u (sourcesOf u bits)) (fun k st => detectOne u k true false false true st) s := by
  have hreports := forEach_detectOne_reports (detectOrder u (sourcesOf u bits)) u true false false true s
  unfold faultForce
  dsimp only
  rw [detectGroup_own hfatal hu]
  generalize forEach _ _ s = t at hreports ⊢
  have ht : t.dry = true := by
    rw [← hdry, State.dry, State.b, State.rd, hreports.regs_eq]
    rfl
  rw [ht]
  rfl

theorem faultForce_dry_reports {u : Nat} {s : State} (hfatal : s.faultg.fatal = false) (hu : recordUnit s u = (u, false))
    (hdry : s.dry = true) (bits : Nat) : Reports s (faultForce u bits s) := by
  rw [faultForce_dry hfatal hu hdry]
  exact forEach_detectOne_reports ..

theorem faultForce_dry_sticky {u k : Nat} {s : State} (hfatal : s.faultg.fatal = false) (hu : recordUnit s u = (u, false))
    (hdry : s.dry = true) {bits : Nat} (hk : k ∈ sourcesOf u bits) :
    bit ((faultForce u bits s).fault u).sticky k = true := by
  have hsev : (severity u k).isSome = true := by
    have := (List.mem_filter.mp hk).2
    simp_all
  rw [faultForce_dry hfatal hu hdry]
  exact forEach_detectOne_sticky (mem_detectOrder hk hsev) hsev ..

/-- `t` differs from `s` at most in messages that were sent or wait (R101). -/
def Messages (s t : State) : Prop := t = { s with out := t.out, host := { s.host with pba := t.host.pba } }

theorem Messages.trans {s t u : State} (h : Messages s t) (k : Messages t u) : Messages s u := by
  unfold Messages at *
  rw [k, h]

theorem sendMsix_messages (v : Nat) (s : State) : Messages s (sendMsix v s) := by
  unfold sendMsix
  split
  · rfl
  · split <;> rfl

/-- FAULT_ENABLE stores the enable bits; beside that only messages leave (R383). -/
theorem faultEnable_messages (u v : Nat) (s : State) :
    Messages (s.setFault u { s.fault u with enable := v % 2 ^ positions u }) (faultEnable u v s) :=
  forEach_keeps (Messages _) _ _ (fun _ _ h => h.trans (sendMsix_messages ..)) _ rfl

theorem faultEnable_faults (u v : Nat) (s : State) :
    (faultEnable u v s).faults = (s.setFault u { s.fault u with enable := v % 2 ^ positions u }).faults := by
  rw [faultEnable_messages]

theorem faultEnable_fault (u v : Nat) (s : State) :
    (faultEnable u v s).fault u = { s.fault u with enable := v % 2 ^ positions u } := by
  rw [State.fault, faultEnable_faults]
  exact State.fault_setFault ..

theorem faultEnable_fault_ne {u w : Nat} (hw : w ≠ u) (v : Nat) (s : State) :
    (faultEnable u v s).fault w = s.fault w := by
  rw [State.fault, faultEnable_faults]
  exact State.fault_setFault_ne s u w _ hw

theorem faultEnable_frame (u v : Nat) (s : State) :
    faultEnable u v s = { s with faults := (faultEnable u v s).faults, out := (faultEnable u v s).out,
                                 host := { s.host with pba := (faultEnable u v s).host.pba } } := by
  have h := faultEnable_messages u v s
  generalize faultEnable u v s = t at h ⊢
  rw [h]
  rfl

/-! ### RESUME (R390) -/

/-- What no change of a port touches, a change of any port leaves. -/
theorem State.modPort_field {α : Type} (g : Port → α) (f : Port → Port) (hg : ∀ q, g (f q) = g q) (k p : Nat) (s : State) :
    g ((s.modPort k f).port p) = g (s.port p) := by
  by_cases hp : p = k
  · rw [hp, State.port_modPort, hg]
  · rw [State.port_modPort_ne _ _ _ _ hp]

/-- `t` differs from `s` at most in its ports. -/
def PortsOnly (s t : State) : Prop := t = { s with ports := t.ports }

theorem PortsOnly.trans {s t u : State} (h : PortsOnly s t) (k : PortsOnly t u) : PortsOnly s u := by
  unfold PortsOnly at *
  rw [k, h]

/-- The ports' part of RESUME: no port is in Clove any more. -/
def clearClove (s : State) : State :=
  forEach (List.range 32) (fun p st => st.modPort p fun q => { q with clove := false }) s

theorem clearClove_portsOnly (s : State) : PortsOnly s (clearClove s) :=
  forEach_keeps (PortsOnly s) _ _ (fun p t ht => ht.trans (u := t.modPort p _) rfl) s rfl

theorem clearClove_clove (s : State) {p : Nat} (hp : p < 32) : ((clearClove s).port p).clove = false := by
  refine forEach_reaches (fun p (t : State) => (t.port p).clove = false) _ _ (fun p t => ?_) (fun a p t h => ?_) s p
    (List.mem_range.mpr hp)
  · rw [State.port_modPort]
  · by_cases hp : p = a
    · rw [hp, State.port_modPort]
    · rwa [State.port_modPort_ne _ _ _ _ hp]

/-- Clearing Clove leaves every other field of the ports. -/
theorem clearClove_field {α : Type} (g : Port → α) (hg : ∀ q : Port, g { q with clove := false } = g q) (s : State) (p : Nat) :
    g ((clearClove s).port p) = g (s.port p) :=
  forEach_same (fun t : State => g (t.port p)) _ _ (fun k t => State.modPort_field g _ hg k p t) s

/-- One port's RESUME while scan-out does not run: a SYN with RESUME now, and 15 to follow. -/
def resumeSyn (p : Nat) (s : State) : State :=
  sendSyn p (s.scan.frame % 2 ^ 32) 4 (s.modPort p fun q => { q with resumeLeft := 15 })

/-- A RESUME SYN changes the SYN queue and the count of those to follow, of its port alone. -/
theorem resumeSyn_field {α : Type} (g : Port → α) (hg : ∀ (q : Port) l n, g { q with txSyn := l, resumeLeft := n } = g q)
    (k p : Nat) (s : State) : g ((resumeSyn k s).port p) = g (s.port p) := by
  unfold resumeSyn sendSyn
  rw [State.modPort_field g _ (fun q => ?_), State.modPort_field g _ (fun q => hg q q.txSyn 15)]
  split
  · exact hg q _ q.resumeLeft
  · rfl

theorem resumeSyn_resumeLeft (p : Nat) (s : State) : ((resumeSyn p s).port p).resumeLeft = 15 := by
  unfold resumeSyn sendSyn
  rw [State.modPort_field (·.resumeLeft) _ (fun q => by split <;> rfl), State.port_modPort]

theorem resumeSyn_resumeLeft_keeps {k p : Nat} {s : State} (h : (s.port p).resumeLeft = 15) :
    ((resumeSyn k s).port p).resumeLeft = 15 := by
  by_cases hp : p = k
  · rw [hp]
    exact resumeSyn_resumeLeft k s
  · unfold resumeSyn sendSyn
    rwa [State.port_modPort_ne _ _ _ _ hp, State.port_modPort_ne _ _ _ _ hp]

theorem forEach_resumeSyn_portsOnly (l : List Nat) (s : State) : PortsOnly s (forEach l resumeSyn s) :=
  forEach_keeps (PortsOnly s) _ _ (fun p t ht => ht.trans (u := resumeSyn p t) rfl) s rfl

/-- RESUME's effect on the fault logic (R390): Clove and the record of its first detection are gone; `a` is whether ALIVE
restarts, `n` how many frame starts send RESUME, and `l` what has left. -/
def State.cloveEnded (a : Bool) (n : Nat) (l : List Output) (s : State) : State :=
  { s with
    faultg := { s.faultg with
      clove := false, firstSource := 0, firstSeverity := 0, firstForced := false, firstValid := false, firstTime := 0
      cloveSeverity := 0, alive := a, resumeFrames := n }
    out := l }

theorem State.cloveEnded_port (a : Bool) (n : Nat) (l : List Output) (s : State) (p : Nat) :
    (s.cloveEnded a n l).port p = s.port p := rfl

/-- RESUME's SYNs go with the next frame starts while scan-out runs, and at once while it does not (R390). -/
theorem cloveLeave_eq (s : State) : ∃ a l,
    (s.scan.state = .running → cloveLeave s = (clearClove s).cloveEnded a 16 l) ∧
    (s.scan.state ≠ .running → cloveLeave s =
      forEach ((clearClove s).cloveEnded a s.faultg.resumeFrames l).upPorts resumeSyn
        ((clearClove s).cloveEnded a s.faultg.resumeFrames l)) := by
  obtain ⟨ports, hports⟩ : ∃ ports, clearClove s = { s with ports := ports } := ⟨_, clearClove_portsOnly s⟩
  have hloop := hports
  rw [clearClove] at hloop
  rw [hports]
  unfold cloveLeave
  rw [hloop]
  dsimp only
  generalize (s.power.state != PowerState.off && !(s.power.state == PowerState.keep && !s.time.timeclk)) = a
  cases a with
  | true =>
    simp only [↓reduceIte, State.emit_scan]
    exact ⟨true, s.out ++ [.alive true], fun h => if_pos h, fun h => if_neg h⟩
  | false =>
    simp only [Bool.false_eq_true, ↓reduceIte]
    exact ⟨false, s.out, fun h => if_pos h, fun h => if_neg h⟩

/-- RESUME as one change of the fault logic and the ports, with what may have left (R390). -/
theorem cloveLeave_frame (s : State) : ∃ a l ports, cloveLeave s =
    State.cloveEnded a (if s.scan.state = .running then 16 else s.faultg.resumeFrames) l { s with ports := ports } := by
  obtain ⟨a, l, hrun, hstop⟩ := cloveLeave_eq s
  obtain ⟨ports, hports⟩ : ∃ ports, clearClove s = { s with ports := ports } := ⟨_, clearClove_portsOnly s⟩
  by_cases h : s.scan.state = .running
  · exact ⟨a, l, ports, by rw [hrun h, hports, if_pos h]⟩
  · refine ⟨a, l, (cloveLeave s).ports, ?_⟩
    rw [hstop h, if_neg h, hports]
    exact forEach_resumeSyn_portsOnly _ _

theorem cloveLeave_clove (s : State) {p : Nat} (hp : p < 32) : ((cloveLeave s).port p).clove = false := by
  obtain ⟨a, l, hrun, hstop⟩ := cloveLeave_eq s
  by_cases h : s.scan.state = .running
  · rw [hrun h, State.cloveEnded_port, clearClove_clove s hp]
  · rw [hstop h, forEach_same (fun t : State => (t.port p).clove), State.cloveEnded_port, clearClove_clove s hp]
    exact fun k t => resumeSyn_field (·.clove) (fun _ _ _ => rfl) k p t

/-- While scan-out runs, RESUME sends no SYN at once. -/
theorem cloveLeave_txSyn {s : State} (h : s.scan.state = .running) (p : Nat) :
    ((cloveLeave s).port p).txSyn = (s.port p).txSyn := by
  obtain ⟨a, l, hrun, -⟩ := cloveLeave_eq s
  rw [hrun h, State.cloveEnded_port]
  exact clearClove_field (·.txSyn) (fun _ => rfl) s p

/-- While scan-out does not run, 15 more RESUME SYNs follow on every port that is UP (R390). -/
theorem cloveLeave_resumeLeft {s : State} (h : s.scan.state ≠ .running) {p : Nat} (hp : p < 32) (hup : (s.port p).state = 2) :
    ((cloveLeave s).port p).resumeLeft = 15 := by
  obtain ⟨a, l, -, hstop⟩ := cloveLeave_eq s
  rw [hstop h]
  have hstate : ((clearClove s).port p).state = 2 := (clearClove_field (·.state) (fun _ => rfl) s p).trans hup
  refine forEach_reaches (fun p (t : State) => (t.port p).resumeLeft = 15) _ resumeSyn resumeSyn_resumeLeft
    (fun _ _ _ => resumeSyn_resumeLeft_keeps) _ p (List.mem_filter.mpr ⟨List.mem_range.mpr hp, ?_⟩)
  rw [State.cloveEnded_port, hstate]
  rfl

/-- RESUME is accepted where R390 allows it. -/
theorem writeReg_resume {s : State} (hs : s.Open) (h : s.resumeAllowed = true) :
    writeReg .faultgSafe 8 s = cloveLeave s := by
  obtain ⟨a, l, ports, hframe⟩ := cloveLeave_frame s
  have hmove : (cloveLeave s).power.move = .none := by
    rw [hframe]
    exact hs.move_eq
  exact writeReg_open .faultgSafe 8 hs rfl (by decide) nofun rfl rfl (by simp [regState, h]) rfl hmove

/-! ### The requests of class 4 (R32) -/

theorem promoteFirst_none {m : Nat} {l : List MemReq} (h : ∀ r ∈ l, ¬(r.channel = m ∧ r.cls = 4)) : promoteFirst m l = l := by
  induction l with
  | nil => rfl
  | cons r l ih =>
    obtain ⟨hr, hl⟩ := List.forall_mem_cons.mp h
    rw [promoteFirst, if_neg (by simpa using hr), ih hl]

theorem promoteFirst_oldest {m : Nat} {pre rest : List MemReq} {r : MemReq}
    (hpre : ∀ x ∈ pre, ¬(x.channel = m ∧ x.cls = 4)) (hr : r.channel = m ∧ r.cls = 4) :
    promoteFirst m (pre ++ r :: rest) = pre ++ { r with cls := 3 } :: rest := by
  induction pre with
  | nil => simp [promoteFirst, hr]
  | cons x pre ih =>
    obtain ⟨hx, hpre⟩ := List.forall_mem_cons.mp hpre
    rw [List.cons_append, promoteFirst, if_neg (by simpa using hx), ih hpre, List.cons_append]

/-! ### Scrubs (R31, R397) -/

/-- A scrub of a sound row is one class-4 request, in the model's group of the host interface (log entry 92). -/
theorem memoryScrub_ok {m : Nat} {s : State} (htrained : s.memc.trained = true) (hself : s.power.selfRefresh = false)
    (hcore : s.power.coreOff = false) (hlost : (s.channel m).lost = false) (row : Nat) :
    memoryScrub m row .ok s = memRequest m 4 8 16 s := by
  simp [memoryScrub, htrained, hself, hcore, hlost]

theorem memoryScrub_idle {m : Nat} {s : State} (h : (s.channel m).lost = true ∨ s.memc.trained = false ∨
    s.power.selfRefresh = true ∨ s.power.coreOff = true) (row : Nat) (c : Check) : memoryScrub m row c s = s := by
  rcases h with h | h | h | h <;> simp [memoryScrub, h]

/-! ### The Hold-entry self-test (R399) -/

theorem holdSelfTestEnd_sound {s : State} (h : s.power.selfTest = true) :
    holdSelfTestEnd [] s = { s with power := { s.power with selfTest := false },
                                    faultg := { s.faultg with testRan := true, testFailed := false } } := by
  unfold holdSelfTestEnd
  rw [h]
  rfl

theorem holdSelfTestEnd_idle {s : State} (h : s.power.selfTest = false) (l : List TestFail) : holdSelfTestEnd l s = s := by
  unfold holdSelfTestEnd
  rw [h]
  rfl

/-! ### JTAG (R445) -/

theorem State.idcode_eq (s : State) :
    s.idcode = s.fuse.rev % 16 * 2 ^ 28 + 0x1610 * 2 ^ 12 + Config.manufacturer % 2 ^ 11 * 2 + 1 := by
  simp [State.idcode, at_, fld]

/-- A first detection of AON_UE is recorded, enters Clove and stops the controller (R386, R388, R391). -/
theorem detect_aonUe {s : State} (hfatal : s.faultg.fatal = false) :
    detect 6 0 s = fatalStop (enterClove 6 0 3 false (detectOne 6 0 false false false true s)) := by
  unfold detect
  rw [detectGroup_own hfatal rfl]
  rfl

theorem detect_aonUe_acts {s t : State} (hfatal : s.faultg.fatal = false) (ht : t = detect 6 0 s) :
    t.glob.jtag = s.glob.jtag ∧ t.faultg.fatal = true ∧ t.faultg.clove = true ∧ bit (t.fault 6).sticky 0 = true ∧
      t.scan.state = .stopped ∧ (∀ e, e < 72 → (t.engine e).running = false) ∧ t.mem = s.mem ∧ t.regs = s.regs := by
  rw [detect_aonUe hfatal] at ht
  have hrec := detectOne_reports 6 0 false false false true s
  have hsticky : bit ((detectOne 6 0 false false false true s).fault 6).sticky 0 = true := by
    rw [detectOne_sticky (sev := 3) rfl]
    exact bit_withBit _ _ _
  generalize detectOne 6 0 false false false true s = r at hrec hsticky ht
  have hwork := enterClove_cloveWork 6 0 3 false r
  have hclove := enterClove_clove 6 0 3 false r
  generalize enterClove 6 0 3 false r = c at hwork hclove ht
  have hstop := fatalStop_stops c
  have hstate := fatalStop_state c
  have hrun := fun e he => fatalStop_running c (e := e) he
  rw [← ht] at hstop hstate hrun
  have hfault : t.fault 6 = c.fault 6 := by rw [hstop]; rfl
  refine ⟨?_, ?_, ?_, ?_, hstate, hrun, ?_, ?_⟩
  · rw [hstop, ← hrec.glob_eq, ← hwork.jtag_eq]
  · rw [hstop]
  · rw [hstop]; exact hclove
  · rw [hfault]; exact hwork.sticky 6 0 hsticky
  · rw [hstop, ← hrec.mem_eq, ← hwork.mem_eq]
  · rw [hstop, ← hrec.regs_eq, ← hwork.regs_eq]

/-- Settles O56, command by command. -/
theorem faultLogicActs : Obligations.FaultLogicActs := by
  unfold Obligations.FaultLogicActs
  refine ⟨fun u bits s hs hbits hdry hforce hunit => ?force, fun u v s hs hv => ?enable, fun s hs hresume => ?resume,
    fun s hmove => ⟨fun h => ?selfTest, fun h l => ?noTest⟩,
    fun m s => ⟨fun h => ?none, fun pre r rest hw hpre hm hc => ?oldest⟩,
    fun m row s hmove => ⟨fun htrained hself hcore hlost => ?scrub, fun h c => ?idle⟩,
    fun s => ⟨fun i hi => ?bypass, ?idcode, fun i hi hfatal => ?pins⟩⟩
  case force =>
    have hfatal : s.faultg.fatal = false := hs.fatal_eq
    have hrep := faultForce_dry_reports hfatal hunit hdry bits
    have hstate : regState (.faultForce u) bits s = false := by
      cases h : forcesHalt u bits <;> simp [regState, h, hforce]
    have hacc := writeReg_open (.faultForce u) bits hs (decide_eq_true u.isLt) hbits nofun rfl rfl hstate rfl
      (hrep.move_eq.trans hs.move_eq)
    exact ⟨_, congrArg Host.Outcome.next hacc, hrep, fun k hk => faultForce_dry_sticky hfatal hunit hdry hk⟩
  case enable =>
    have hmove : (faultEnable u v s).power.move = .none := by rw [faultEnable_messages]; exact hs.move_eq
    have hacc := writeReg_open (.faultEnable u) v hs (decide_eq_true u.isLt) hv nofun rfl rfl rfl rfl hmove
    have hfault := faultEnable_fault u v s
    exact ⟨_, congrArg Host.Outcome.next hacc, (congrArg FaultUnit.enable hfault :), (congrArg FaultUnit.sticky hfault :),
      fun w hw => faultEnable_fault_ne hw v s, faultEnable_frame u v s⟩
  case resume =>
    have hclove := fun p hp => cloveLeave_clove s (p := p) hp
    have hsyn := fun h => cloveLeave_txSyn (s := s) h
    have hleft := fun h p hp hup => cloveLeave_resumeLeft (s := s) h (p := p) hp hup
    obtain ⟨a, l, ports, hframe⟩ := cloveLeave_frame s
    refine ⟨cloveLeave s, congrArg Host.Outcome.next (writeReg_resume hs hresume), ?_⟩
    generalize cloveLeave s = t at hframe hclove hsyn hleft
    refine ⟨?_, ?_, ?_, ?_, ?_, hclove, fun h => ⟨?frames, hsyn h⟩, hleft, ?_⟩
    case frames => rw [hframe, if_pos h]; rfl
    all_goals rw [hframe]; rfl
  case selfTest =>
    exact congrArg Host.Outcome.next ((congrArg powerGo (holdSelfTestEnd_sound h)).trans (powerGo_none _ hmove))
  case noTest =>
    exact congrArg Host.Outcome.next ((congrArg powerGo (holdSelfTestEnd_idle h l)).trans (powerGo_none _ hmove))
  case none =>
    exact congrArg Host.Outcome.next (by rw [promote, promoteFirst_none h])
  case oldest =>
    exact congrArg Host.Outcome.next (by rw [promote, hw, promoteFirst_oldest hpre ⟨hm, hc⟩])
  case scrub =>
    exact congrArg Host.Outcome.next
      ((congrArg powerGo (memoryScrub_ok htrained hself hcore hlost row)).trans (powerGo_none _ hmove))
  case idle =>
    exact congrArg Host.Outcome.next ((congrArg powerGo (memoryScrub_idle h row c)).trans (powerGo_none _ hmove))
  case bypass => rcases hi with rfl | rfl <;> rfl
  case idcode => rw [← State.idcode_eq]; rfl
  case pins =>
    have hexec : exec (.jtagInstruction i) s = .next (detect 6 0 { s with glob := { s.glob with jtag := i } }) := by
      rcases hi with rfl | rfl | rfl <;> rfl
    exact ⟨_, hexec, detect_aonUe_acts (s := { s with glob := { s.glob with jtag := i } }) hfatal rfl⟩

end Sys2Proof.Machine

/-! ## Accepted one-DW writes of registers that have no effect of their own (O5, O6) -/

namespace Sys2Proof.Machine

/-- A one-DW write that no test refuses has the register's effect and nothing more, where no lock guards the register and the
effect leaves no power transition running (R39). -/
theorem writeReg_accepted {r : Reg} {v : Nat} {s : State} (hs : s.Reachable) (hm : r.inMap = true) (hv : v < 2 ^ 32)
    (hk : writeKind r v s = none) (hg : r.guarded = false) (hp : (regWrite r v s).power.move = .none) :
    writeReg r v s = regWrite r v s := by
  rw [writeReg_plain r v s hs (locate_aligned hm) hv hk hg, powerGo_none _ hp]

theorem Reg.keep_lt (r : Reg) {v : Nat} (hv : v < 2 ^ 32) : r.keep v < 2 ^ 32 := land_lt v r.rw hv

/-- A plain register is guarded by no lock, and its write stores the written bits (R6). -/
theorem regWrite_plain {r : Reg} (h : r.plain = true) (v : Nat) (s : State) :
    r.guarded = false ∧ regWrite r v s = s.wr r (r.keep v) := by
  cases r with
  | globalScratch | hostifBar2Window | powerWakeEn | powerTiming | nvsRange | nvsTileSel | nvsBuf _ | fuseWordSel
  | faultgLimits | faultgTest | faultgVector _ | hostifEventRoute _ | scanGenlockPeriod | scanGenlockOffset
  | scanLineTiming | scanBackground | scanCompCfg | layerCtl _ | layerWinPos _ | layerWinSize _ | layerCropPos _
  | layerCropSize _ | emitCtl | emitPqCfg | ageRef | agePeriods | bistTileSel | bistRecSel | resDefault | resTiming
  | resAmbient | resRep | resReturn | resCellSel | resRegionPos _ | resRegionSize _ | resRegionCtl _ | ringCfg _
  | spanRingSched _ | portTxCfg _ | portTiming _ | portHopSel _ | laneInject _ _ | codecCtl _ | codecGov _ | codecDeg _ =>
    exact ⟨rfl, rfl⟩
  | _ => cases h

/-- Settles O5: the write's effect is one stored register, which `State.rd_wr` and `State.rd_wr_ne` read. -/
theorem plainRegisterWriteStores : Obligations.PlainRegisterWriteStores := by
  unfold Obligations.PlainRegisterWriteStores
  intro r v s hplain hm hs hmove hv hk
  obtain ⟨hguard, hw⟩ := regWrite_plain hplain v s
  have haccept := writeReg_accepted hs hm hv hk hguard (by rw [hw]; exact hmove)
  refine ⟨s.wr r (r.keep v), congrArg Host.Outcome.next (haccept.trans hw), rfl, ?_, fun q hq => State.rd_wr_ne s r q _ hq⟩
  rw [State.rd_wr, Nat.mod_eq_of_lt (r.keep_lt hv)]
  rfl

/-- The writable pairs of addresses in device memory: each half is of the map and unguarded, a write of _LO is held, and one of
_HI applies the pair (R52). -/
structure WritablePair (lo hi : Reg) : Prop where
  loMap : lo.inMap = true
  hiMap : hi.inMap = true
  loFree : lo.guarded = false
  hiFree : hi.guarded = false
  loWrite : ∀ v s, regWrite lo v s = s.setHeld lo (lo.keep v)
  hiWrite : ∀ v s, regWrite hi v s = writePair lo hi v s
  apart : lo.addr ≠ hi.addr

/-- A held _LO value meets no test of a write. -/
theorem writeKind_setHeld (r q : Reg) (v x : Nat) (s : State) : writeKind r v (s.setHeld q x) = writeKind r v s := rfl

/-- Settles O6: the held half is read back by the write of _HI, which stores both halves at two addresses. -/
theorem widePairApplies : Obligations.WidePairApplies := by
  unfold Obligations.WidePairApplies
  intro lo hi a b s hpair hs hmove ha hb hlo hhi
  have h : WritablePair lo hi := by
    simp only [List.mem_cons, Prod.mk.injEq, List.not_mem_nil, or_false] at hpair
    rcases hpair with ⟨rfl, rfl⟩ | ⟨rfl, rfl⟩ | ⟨rfl, rfl⟩ | ⟨rfl, rfl⟩ | ⟨rfl, rfl⟩ | ⟨rfl, rfl⟩ | ⟨rfl, rfl⟩ | ⟨rfl, rfl⟩ <;>
      exact ⟨rfl, rfl, rfl, rfl, fun _ _ => rfl, fun _ _ => rfl, by decide⟩
  have hheld : writeReg lo a s = s.setHeld lo (lo.keep a) :=
    (writeReg_accepted hs h.loMap ha hlo h.loFree (by rw [h.loWrite]; exact hmove)).trans (h.loWrite a s)
  have happlied : writeReg hi b (s.setHeld lo (lo.keep a)) = writePair lo hi b (s.setHeld lo (lo.keep a)) :=
    (writeReg_accepted (s := s.setHeld lo _) hs h.hiMap hb ((writeKind_setHeld ..).trans hhi) h.hiFree
      (by rw [h.hiWrite]; exact hmove)).trans (h.hiWrite b _)
  have hlow : (s.setHeld lo (lo.keep a)).held lo = lo.keep a := by
    rw [State.held_setHeld, Nat.mod_eq_of_lt (lo.keep_lt ha)]
  refine ⟨_, _, congrArg Host.Outcome.next hheld, rfl, hlow, congrArg Host.Outcome.next happlied, rfl, ?_, ?_⟩
  · rw [writePair, State.rd_wr_ne _ _ _ _ h.apart, State.rd_wr, hlow, Nat.mod_eq_of_lt (lo.keep_lt ha)]
    rfl
  · rw [writePair, State.rd_wr, Nat.mod_eq_of_lt (hi.keep_lt hb)]
    rfl

end Sys2Proof.Machine

/-! ## Refused accesses (O7, O8, O9, O12, O13) -/

namespace Sys2Proof.Machine

/-- The access-error log keeps its first record (R42). -/
theorem accErrLog_accErr (k : Nat) (h : ReqHdr) (s : State) :
    (accErrLog k h s).host.accErr = some (s.host.accErr.getD { kind := k, hdr := h }) := by
  unfold accErrLog
  split <;> simp_all

/-- The access-error log counts what follows its first record (R42). -/
theorem accErrLog_count (k : Nat) (h : ReqHdr) (s : State) :
    (accErrLog k h s).host.accErrCount = if s.host.accErr.isSome then inc16 s.host.accErrCount else s.host.accErrCount := by
  unfold accErrLog
  split <;> simp_all

theorem accErrLog_faults (k : Nat) (h : ReqHdr) (s : State) : (accErrLog k h s).faults = s.faults := by
  unfold accErrLog
  split <;> rfl

theorem aerReport_faults (adv : Bool) (k : Nat) (h : ReqHdr) (s : State) : (aerReport adv k h s).faults = s.faults := by
  obtain ⟨cor, out, he⟩ := aerReport_changes adv k h s
  rw [he]

section Refusal

variable (bar : Nat) (w : Bool) (k : Nat) (q : Req) (s : State)

theorem refuse_accErr :
    (refuse bar w k q s).host.accErr = some (s.host.accErr.getD { kind := k, hdr := reqHdr w bar q }) := by
  obtain ⟨cor, h⟩ := refuse_changes bar w k q s
  rw [h, ← accErrLog_accErr]

theorem refuse_accErrCount :
    (refuse bar w k q s).host.accErrCount =
      if s.host.accErr.isSome then inc16 s.host.accErrCount else s.host.accErrCount := by
  obtain ⟨cor, h⟩ := refuse_changes bar w k q s
  rw [h, ← accErrLog_count k (reqHdr w bar q)]

/-- AER takes Unsupported Request for kind 1, Completer Abort for every other kind (R41). -/
theorem refuse_aerUncor : bit (refuse bar w k q s).host.aerUncor (if k = 1 then 20 else 15) = true := by
  obtain ⟨cor, h⟩ := refuse_changes bar w k q s
  rw [h]
  exact bit_withBit _ _ _

theorem refuse_headerLog : (refuse bar w k q s).host.headerLog = some (reqHdr w bar q) := by
  obtain ⟨cor, h⟩ := refuse_changes bar w k q s
  rw [h]

/-- A refusal changes the log, AER and reports alone (R41, R42). -/
theorem refuse_reports :
    Reports { s with host := { s.host with accErr := (refuse bar w k q s).host.accErr
                                           accErrCount := (refuse bar w k q s).host.accErrCount
                                           aerUncor := (refuse bar w k q s).host.aerUncor
                                           aerCor := (refuse bar w k q s).host.aerCor
                                           headerLog := (refuse bar w k q s).host.headerLog } } (refuse bar w k q s) := by
  obtain ⟨cor, h⟩ := refuse_changes bar w k q s
  unfold Reports at *
  generalize refuse bar w k q s = t at h ⊢
  rw [h]

/-- The state in which HOSTIF ACC_ERR is detected: the log and AER have the refusal. -/
theorem refuse_faults :
    (refuse bar w k q s).faults =
      (detectNote 1 0 (aerReport (!w) (if k = 1 then 20 else 15) (reqHdr w bar q) (accErrLog k (reqHdr w bar q) s))).faults := by
  cases w <;> rfl

/-- A refusal is a detection of HOSTIF ACC_ERR (R42). -/
theorem refuse_sticky : bit ((refuse bar w k q s).fault 1).sticky 0 = true := by
  rw [State.fault, refuse_faults]
  exact (congrArg (bit · 0) (detectOne_sticky rfl ..)).trans (bit_withBit _ _ _)

theorem refuse_stickyGrows : StickyGrows s (refuse bar w k q s) := by
  have hbefore : StickyGrows s (aerReport (!w) (if k = 1 then 20 else 15) (reqHdr w bar q) (accErrLog k (reqHdr w bar q) s)) :=
    .of_faults_eq ((aerReport_faults ..).trans (accErrLog_faults ..))
  exact (hbefore.trans (detectOne_stickyGrows 1 0 _ _ _ _ _)).trans (.of_faults_eq (refuse_faults ..))

/-- A refused read completes last of all (R41). -/
theorem refuse_read_out :
    (refuse bar false k q s).out.getLast? = some (if k = 1 then .readUnsupported bar q.offset else .readAbort bar q.offset) :=
  List.getLast?_concat

end Refusal

/-- The tests of a register that the map holds refuse with no kind that stands for a reserved location (R39). -/
theorem writeKind_ne_one {r : Reg} {v k : Nat} {s : State} (h : writeKind r v s = some k) : k ≠ 1 := by
  unfold writeKind at h
  split_ifs at h <;> cases h <;> decide

/-- The lock after a refused write: it closes where the register is guarded, or where GLOBAL_UNLOCK was given a value of
kind 3 (R45, R46; log entry 12). -/
def lockAfterRefusal (r : Reg) (k : Nat) (g : Glob) : Glob :=
  { g with unlocked := g.unlocked && !r.guarded && !(r == .globalUnlock && k == 3) }

/-- A refused one-DW write: the refusal and the lock (R40). -/
theorem writeReg_refused {r : Reg} {v k : Nat} {s : State} (hs : s.Reachable) (hm : r.inMap = true) (hv : v < 2 ^ 32)
    (hk : writeKind r v s = some k) :
    writeReg r v s = { refuse 0 true k (regReq r) s with glob := lockAfterRefusal r k s.glob } := by
  obtain ⟨hcore, hd3⟩ := hs
  have hr : reqReg (regReq r) = some r := locate_aligned hm
  have hwidth : widthOk r (regReq r) = true := rfl
  have htests : writeTests (regReq r) v s = refuseWrite (regReq r) r k s := by
    unfold writeTests
    simp only [hr, hwidth, dwLo_eq v hv, hk, Bool.not_true, Bool.false_eq_true, if_false]
  have hglob : (refuse 0 true k (regReq r) s).glob = s.glob := by rw [(refuse_reports 0 true k (regReq r) s).glob_eq]
  unfold writeReg bar0Write
  rw [hostArrive_on s hcore]
  simp only [hd3, Bool.false_eq_true, if_false, rearm, hr, htests, refuseWrite]
  generalize refuse 0 true k (regReq r) s = t at hglob ⊢
  rw [← hglob, lockAfterRefusal]
  cases r.guarded <;> cases (r == Reg.globalUnlock && k == 3) <;> simp

/-- Settles O7: a refused write is `refuse` and the lock, and `refuse` is said by its lemmas. -/
theorem refusedWriteIsLogged : Obligations.RefusedWriteIsLogged := by
  unfold Obligations.RefusedWriteIsLogged
  intro r v k s hm hs hv hk
  have haer := refuse_aerUncor 0 true k (regReq r) s
  rw [if_neg (writeKind_ne_one hk)] at haer
  have hreports := refuse_reports 0 true k (regReq r) s
  refine ⟨_, congrArg Host.Outcome.next (writeReg_refused hs hm hv hk), refuse_accErr .., refuse_accErrCount .., haer,
    refuse_headerLog .., refuse_sticky .., fun u i => refuse_stickyGrows 0 true k (regReq r) s u i, rfl, ?_⟩
  unfold Reports at *
  generalize refuse 0 true k (regReq r) s = t at hreports ⊢
  rw [hreports]

/-- Settles O8, by the order of the tests in `writeKind`; in an open state no test of STATE or FATAL refuses. -/
theorem writeTestsInOrder : Obligations.WriteTestsInOrder := by
  refine ⟨fun r v s hbusy hexempt hwindow => ?_, fun r v s hbusy hguard hlock => ?_, fun r v s hs hr hlock => ?_⟩
  · have hbars : r.busyBars s = true := by simpa [Reg.busyBars, hbusy, hexempt] using imp_iff_not_or.mp hwindow
    simp [writeKind, hbars]
  · have hbars : r.busyBars s = false := by simp [Reg.busyBars, hbusy]
    have hr : r ≠ .globalUnlock := by
      rintro rfl
      cases hguard
    simp [writeKind, hbars, hr, hguard, hlock]
  · obtain ⟨-, hphase, hbusy, hoff, hfatal, -⟩ := hs
    have hbars : r.busyBars s = false := by simp [Reg.busyBars, hbusy]
    have hstate : stateBars r v s = false := by simp [stateBars, hphase, hoff, hfatal]
    have hopen : (r.guarded && !s.glob.unlocked) = false := by simpa using hlock
    simp [writeKind, hbars, hr, hstate, hopen]

/-- A read of an implemented register, all four bytes enabled (R36, R39). -/
theorem bar0Read_accepted {r : Reg} {s : State} (hs : s.Reachable) (hm : r.inMap = true) :
    bar0Read (regReq r) s = (s.emit (.readData 0 r.addr (leBytes 4 (regValue r s)))).tickFree := by
  obtain ⟨hcore, hd3⟩ := hs
  have hr : reqReg (regReq r) = some r := locate_aligned hm
  have hwidth : widthOk r (regReq r) = true := rfl
  have hbytes : readBytes (regReq r) r s = leBytes 4 (regValue r s) := List.append_nil _
  unfold bar0Read
  rw [hostArrive_on s hcore]
  simp only [hd3, hr, hwidth, hbytes, Bool.not_true, Bool.false_eq_true, if_false]
  rfl

/-- A one-DW read of a reserved location is refused with kind 1 (R39). -/
theorem bar0Read_reserved {a : Nat} {s : State} (hs : s.Reachable) (ha : a % 4 = 0) (hl : locate a = none) :
    bar0Read { offset := a, lenDw := 1, fbe := 15, lbe := 0 } s =
      refuse 0 false 1 { offset := a, lenDw := 1, fbe := 15, lbe := 0 } s := by
  obtain ⟨hcore, hd3⟩ := hs
  have hr : reqReg { offset := a, lenDw := 1, fbe := 15, lbe := 0 } = none := by
    rw [reqReg, Nat.div_mul_cancel (Nat.dvd_of_mod_eq_zero ha), hl]
  unfold bar0Read
  rw [hostArrive_on s hcore]
  simp [hd3, hr]

/-- Settles O9: an accepted read adds its completion, and a refused one is said by the lemmas of `refuse`. -/
theorem readsReturnOrAreUnsupported : Obligations.ReadsReturnOrAreUnsupported := by
  refine ⟨fun r s hm hs => congrArg Host.Outcome.next (bar0Read_accepted hs hm), fun a s ha hl hs => ?_⟩
  refine ⟨_, congrArg Host.Outcome.next (bar0Read_reserved hs ha hl), refuse_read_out .., fun hempty => ?_,
    refuse_aerUncor .., refuse_reports ..⟩
  rw [refuse_accErr, hempty]
  rfl

/-- A write of 1 to HOSTIF_ACC_ERR_INFO.VALID meets no test, long operation or not, where STATE is not Off (R57). -/
theorem writeKind_accErrInfo {v : Nat} {s : State} (hoff : s.power.state ≠ .off) : writeKind .hostifAccErrInfo v s = none := by
  have hbars : Reg.hostifAccErrInfo.busyBars s = false := by
    have : Reg.hostifAccErrInfo.busyExempt = true := rfl
    simp [Reg.busyBars, this]
  have hstate : stateBars .hostifAccErrInfo v s = false := by
    have : Reg.hostifAccErrInfo.onlyW1C = true := rfl
    simp [stateBars, hoff, this]
  simp [writeKind, hbars, hstate, Reg.guarded, regBusy, shadowBusy, Reg.group, regState, regRange]

/-- Settles O12: the write's effect is `accErrClear`, and in the state it leaves a refusal finds the log empty. -/
theorem accErrLogClears : Obligations.AccErrLogClears := by
  unfold Obligations.AccErrLogClears
  intro s hs hoff hmove
  have hclear : writeReg .hostifAccErrInfo 0x80000000 s = accErrClear s :=
    writeReg_accepted hs rfl (by decide) (writeKind_accErrInfo hoff) rfl hmove
  refine ⟨accErrClear s, congrArg Host.Outcome.next hclear, rfl, fun r v k hm hv hk => ?_⟩
  exact ⟨_, congrArg Host.Outcome.next (writeReg_refused (s := accErrClear s) hs hm hv hk), refuse_accErr .., refuse_accErrCount ..⟩

/-- The table of R45 in an open state: the key and 0 are accepted, every other value is refused with kind 3. -/
theorem writeKind_globalUnlock {key : Nat} {s : State} (hs : s.Open) :
    writeKind .globalUnlock key s = if key = unlockKey ∨ key = 0 then none else some 3 := by
  obtain ⟨-, hphase, hbusy, hoff, hfatal, -⟩ := hs
  have hbars : Reg.globalUnlock.busyBars s = false := by simp [Reg.busyBars, hbusy]
  have hstate : stateBars .globalUnlock key s = false := by simp [stateBars, hphase, hoff, hfatal]
  simp [writeKind, hbars, hstate]

theorem writeReg_globalUnlock {key : Nat} {s : State} (hs : s.Open) (hkey : key = unlockKey ∨ key = 0) (hv : key < 2 ^ 32) :
    writeReg .globalUnlock key s = { s with glob := { s.glob with unlocked := key == unlockKey } } :=
  writeReg_accepted hs.reachable rfl hv (by rw [writeKind_globalUnlock hs, if_pos hkey]) rfl hs.move_eq

/-- Settles O13, by the three rows of the table of R45. -/
theorem unlockTable : Obligations.UnlockTable := by
  unfold Obligations.UnlockTable
  intro s hs
  refine ⟨congrArg Host.Outcome.next (writeReg_globalUnlock hs (.inl rfl) (by decide)),
    congrArg Host.Outcome.next (writeReg_globalUnlock hs (.inr rfl) (by decide)), fun key hv hne hzero => ?_⟩
  have hk : writeKind .globalUnlock key s = some 3 := by
    rw [writeKind_globalUnlock hs]
    exact if_neg (not_or.mpr ⟨hne, hzero⟩)
  have hreports := refuse_reports 0 true 3 (regReq .globalUnlock) s
  refine ⟨_, congrArg Host.Outcome.next (writeReg_refused hs.reachable rfl hv hk), ?_, fun hempty => ?_, hreports.regs_eq,
    hreports.mem_eq⟩
  · simp [lockAfterRefusal]
  · simp [refuse_accErr, hempty]

end Sys2Proof.Machine

/-! ## BAR2 accesses (O10, O11) -/

namespace Sys2Proof.Machine

/-- A request for memory joins the arbiter's wait, and nothing else changes (R31). -/
theorem hostRequests_eq (q : Req) (s : State) : hostRequests q s = { s with memc := (hostRequests q s).memc } :=
  forEach_keeps (fun t : State => t = { s with memc := t.memc }) _ _ (fun g t ht => by rw [ht]; rfl) s rfl

/-- Device memory after a BAR2 write of d, byte by byte (R35). -/
def State.bar2Written (q : Req) (d : List Nat) (s : State) : List Host.Cell :=
  forEach (reqBytes q) (fun i m => Mem.put (s.bar2Addr (q.offset + i)) (d.getD i 0) m) s.mem

/-- A write's own bytes do not move the window that they go through. -/
theorem bar2Store_eq (q : Req) (d : List Nat) (s : State) : bar2Store q d s = { s with mem := s.bar2Written q d } := by
  unfold bar2Store State.bar2Written
  generalize reqBytes q = l
  induction l generalizing s with
  | nil => rfl
  | cons i l ih => exact ih { s with mem := Mem.put (s.bar2Addr (q.offset + i)) (d.getD i 0) s.mem }

/-- Bytes that a list of byte writes does not name stay as they were. -/
theorem Mem.byte_forEach_put_out (l : List Nat) (addr v : Nat → Nat) (m : List Host.Cell) {b : Nat} (hb : ∀ i ∈ l, b ≠ addr i) :
    Mem.byte (forEach l (fun i m => Mem.put (addr i) (v i) m) m) b = Mem.byte m b := by
  induction l generalizing m with
  | nil => rfl
  | cons i l ih =>
    rw [forEach_cons, ih _ fun j hj => hb j (List.mem_cons_of_mem _ hj), Mem.byte_put_ne _ _ _ _ (hb i List.mem_cons_self)]

/-- A byte that a list of byte writes to different addresses names reads back. -/
theorem Mem.byte_forEach_put_in (l : List Nat) {addr : Nat → Nat} (v : Nat → Nat) (m : List Host.Cell)
    (haddr : Function.Injective addr) :
    ∀ i ∈ l, Mem.byte (forEach l (fun i m => Mem.put (addr i) (v i) m) m) (addr i) = v i % 256 := by
  refine forEach_reaches (fun i m => Mem.byte m (addr i) = v i % 256) l _ (fun i m => Mem.byte_put_same ..)
    (fun j i m hi => ?_) m
  by_cases h : i = j
  · rw [h, Mem.byte_put_same]
  · rw [Mem.byte_put_ne _ _ _ _ fun e => h (haddr e), hi]

theorem State.bar2Addr_add (s : State) (o i : Nat) : s.bar2Addr (o + i) = s.bar2Addr o + i :=
  (Nat.add_assoc ..).symm

/-- The content-change mark of every pipe and of the open window (R114, R333). -/
theorem noteChange_eq (s : State) : noteChange s = { s with scan := { s.scan with changed := true }, pipes := (noteChange s).pipes } :=
  forEach_keeps (fun t : State => t = { s with scan := { s.scan with changed := true }, pipes := t.pipes }) _ _
    (fun i t ht => by rw [ht]; rfl) _ rfl

theorem noteVersion_eq (s : State) :
    noteVersion s = { s with geom := { s.geom with versions := (noteVersion s).geom.versions } } := by
  unfold noteVersion
  split <;> rfl

section Bar2Access

variable {q : Req} {s : State}

/-- A refused BAR2 request (R35). -/
theorem bar2Access_refused (hs : s.Reachable) {k : Nat} (hk : bar2Kind q s = some k) (w : Bool) (d : List Nat) :
    bar2Access w q d s = refuse 2 w k q s := by
  obtain ⟨hcore, hd3⟩ := hs
  simp [bar2Access, hostArrive_on s hcore, hd3, hk]

/-- An accepted BAR2 write (R35, R114). -/
theorem bar2Access_stored (hs : s.Reachable) (hgone : s.memoryGone = false) (hk : bar2Kind q s = none) (d : List Nat) :
    bar2Access true q d s = noteChange (noteVersion (bar2Store q d (hostRequests q s))) := by
  obtain ⟨hcore, hd3⟩ := hs
  simp [bar2Access, hostArrive_on s hcore, hd3, hk, hgone]

/-- An accepted BAR2 read (R35). -/
theorem bar2Access_read (hs : s.Reachable) (hgone : s.memoryGone = false) (hk : bar2Kind q s = none) (d : List Nat) :
    bar2Access false q d s =
      (hostRequests q s).emit (.readData 2 q.offset ((reqBytes q).map fun i => s.byte (s.bar2Addr (q.offset + i)))) := by
  obtain ⟨hcore, hd3⟩ := hs
  simp [bar2Access, hostArrive_on s hcore, hd3, hk, hgone]

/-- With device memory lost and its controller trained, no BAR2 request is refused (R35, R391; log entry 8). -/
theorem bar2Kind_lost (hgone : s.memoryGone = true) (htrained : s.memc.trained = true) : bar2Kind q s = none := by
  simp [bar2Kind, hgone, htrained]

/-- A BAR2 access of a controller that has lost device memory (R35, R391). -/
theorem bar2Access_lost (hs : s.Reachable) (hgone : s.memoryGone = true) (htrained : s.memc.trained = true) (w : Bool)
    (d : List Nat) :
    bar2Access w q d s = if w then s else s.emit (.readData 2 q.offset ((reqBytes q).map fun _ => 0xFF)) := by
  obtain ⟨hcore, hd3⟩ := hs
  simp [bar2Access, hostArrive_on s hcore, hd3, bar2Kind_lost hgone htrained, hgone]

end Bar2Access

/-- Every number of a list of bytes is one, and what lies past its end reads 0. -/
theorem getD_lt_of_bytesOk {d : List Nat} (hd : bytesOk d = true) (i : Nat) : d.getD i 0 < 256 := by
  rw [List.getD_eq_getElem?_getD]
  cases h : d[i]? with
  | none => decide
  | some b => exact of_decide_eq_true (List.all_eq_true.mp hd b (List.mem_of_getElem? h))

/-- An accepted BAR2 write changes memory, the arbiter's wait, the versions that a geometry check reads, and the marks of a
content change. -/
theorem bar2Access_stored_eq {q : Req} {s : State} (hs : s.Reachable) (hgone : s.memoryGone = false)
    (hk : bar2Kind q s = none) (d : List Nat) :
    ∃ memc versions pipes, bar2Access true q d s =
      { s with mem := s.bar2Written q d, memc := memc, scan := { s.scan with changed := true }
               geom := { s.geom with versions := versions }, pipes := pipes } := by
  have hstore := bar2Store_eq q d (hostRequests q s)
  rw [hostRequests_eq] at hstore
  have hversion := noteVersion_eq (bar2Store q d (hostRequests q s))
  have hchange := noteChange_eq (noteVersion (bar2Store q d (hostRequests q s)))
  rw [← bar2Access_stored hs hgone hk d] at hchange
  rw [hostRequests_eq, hstore] at hversion
  rw [hchange, hostRequests_eq, hstore, hversion]
  exact ⟨_, _, _, rfl⟩

/-- A byte of memory after a BAR2 write that does not name it. -/
theorem State.byte_bar2Written_out (q : Req) (d : List Nat) (s : State) {b : Nat}
    (hb : ∀ i ∈ reqBytes q, b ≠ s.bar2Addr q.offset + i) : Mem.byte (s.bar2Written q d) b = s.byte b :=
  Mem.byte_forEach_put_out _ _ _ _ fun i hi => by rw [State.bar2Addr_add]; exact hb i hi

/-- A byte of memory after a BAR2 write that names it (R453). -/
theorem State.byte_bar2Written_in (q : Req) {d : List Nat} (s : State) (hd : bytesOk d = true) {i : Nat} (hi : i ∈ reqBytes q) :
    Mem.byte (s.bar2Written q d) (s.bar2Addr q.offset + i) = d.getD i 0 := by
  have haddr : Function.Injective fun i => s.bar2Addr (q.offset + i) := fun i j h => by
    simpa [State.bar2Addr_add] using h
  rw [← State.bar2Addr_add, State.bar2Written, Mem.byte_forEach_put_in _ _ _ haddr i hi, Nat.mod_eq_of_lt (getD_lt_of_bytesOk hd i)]

/-- Settles O10: memory after the write is `State.bar2Written`, and every step keeps its canonical form. -/
theorem bar2WriteStores : Obligations.Bar2WriteStores := by
  unfold Obligations.Bar2WriteStores
  intro q d s hd hs hgone hk
  obtain ⟨memc, versions, pipes, hrun⟩ := bar2Access_stored_eq hs hgone hk d
  have hexec := congrArg (Host.Outcome.next (φ := Fault) (ρ := Refusal)) hrun
  exact ⟨_, hexec, fun i hi => s.byte_bar2Written_in q hd hi, fun b hb => s.byte_bar2Written_out q d hb,
    fun hmem => exec_memOk (i := .bar2Access true q d) hmem hexec, rfl, rfl⟩

/-- Settles O11, by the three answers of `bar2Access`: a read, a refusal, and what a controller without memory gives. -/
theorem bar2ReadsAndRefusals : Obligations.Bar2ReadsAndRefusals := by
  refine ⟨fun q s hs hgone hk => ?read, fun w q d k s hs hk => ?refused, fun q d s hs hgone htrained => ?lost⟩
  case read =>
    refine ⟨_, congrArg Host.Outcome.next (bar2Access_read hs hgone hk []), ?_, ?_⟩
    · rw [hostRequests_eq]
      rfl
    · rw [hostRequests_eq]
      rfl
  case refused =>
    have hreports := refuse_reports 2 w k q s
    refine ⟨_, congrArg Host.Outcome.next (bar2Access_refused hs hk w d), hreports.mem_eq, hreports.regs_eq,
      refuse_accErr .., ?_⟩
    rintro rfl
    exact refuse_read_out ..
  case lost =>
    exact ⟨congrArg Host.Outcome.next (bar2Access_lost hs hgone htrained true d),
      congrArg Host.Outcome.next (bar2Access_lost hs hgone htrained false [])⟩

end Sys2Proof.Machine

/-! ## Poisoned writes, the link, configuration space and the MSI-X table (O14, O16, O17) -/

namespace Sys2Proof.Machine

theorem detectNote_sticky {u k sev : Nat} (h : severity u k = some sev) (s : State) :
    ((detectNote u k s).fault u).sticky = withBit (s.fault u).sticky k true :=
  detectOne_sticky h ..

/-- A poisoned write is a detection and an AER report, and nothing else (R38). -/
theorem poisonedTlp_reports (bar2 : Bool) (q : Req) (s : State) :
    ∃ cor header, Reports { s with host := { s.host with aerUncor := withBit s.host.aerUncor 12 true, aerCor := cor
                                                         headerLog := header } } (poisonedTlp bar2 q s) := by
  obtain ⟨cor, out, he⟩ := aerReport_changes false 12 (reqHdr true (if bar2 then 2 else 0) q) s
  refine ⟨cor, some (reqHdr true (if bar2 then 2 else 0) q), ?_⟩
  unfold poisonedTlp
  rw [he]
  exact Reports.trans rfl (detectNote_reports 1 1 _)

theorem poisonedTlp_sticky (bar2 : Bool) (q : Req) (s : State) :
    ((poisonedTlp bar2 q s).fault 1).sticky = withBit (s.fault 1).sticky 1 true := by
  rw [poisonedTlp, detectNote_sticky rfl, State.fault, aerReport_faults]
  rfl

/-- Settles O14, by the fault set's sticky bits and the frames of the two events. -/
theorem poisonAndLinkDown : Obligations.PoisonAndLinkDown := by
  refine ⟨fun bar2 q s => ⟨_, rfl, ?_, ?_, ?_, ?_⟩, fun s => ⟨_, rfl, ?_, detectNote_reports 1 2 _⟩⟩
  · rw [poisonedTlp_sticky, bit_withBit]
  · obtain ⟨cor, header, h⟩ := poisonedTlp_reports bar2 q s
    rw [h]
    exact bit_withBit _ _ _
  · rw [poisonedTlp_sticky, bit_withBit_ne _ _ (by decide)]
  · obtain ⟨cor, header, h⟩ := poisonedTlp_reports bar2 q s
    unfold Reports at *
    generalize poisonedTlp bar2 q s = t at h ⊢
    rw [h]
  · rw [pcieLinkDown, detectNote_sticky rfl, bit_withBit]

/-! ### Configuration space -/

/-- A status register is cleared by the ones written (R41). -/
theorem bit_sub_land (n v i : Nat) : bit (n - Nat.land n v) i = (bit n i && !bit v i) := by
  have hlow : Nat.land n v % 2 = 1 ↔ n % 2 = 1 ∧ v % 2 = 1 := Nat.and_mod_two_eq_one
  have hle : Nat.land n v ≤ n := Nat.and_le_left
  induction i generalizing n v with
  | zero =>
    rw [Bool.eq_iff_iff]
    simp only [bit, Nat.pow_zero, Nat.div_one, beq_iff_eq, Bool.and_eq_true, Bool.not_eq_true', beq_eq_false_iff_ne]
    omega
  | succ i ih =>
    have hhalf : Nat.land n v / 2 = Nat.land (n / 2) (v / 2) := Nat.and_div_two
    have hsub : (n - Nat.land n v) / 2 = n / 2 - Nat.land (n / 2) (v / 2) := by omega
    have hbit : ∀ m, bit m (i + 1) = bit (m / 2) i := fun m => by
      rw [bit, bit, Nat.pow_succ', Nat.div_div_eq_div_mul]
    rw [hbit, hbit, hbit, hsub]
    exact ih _ _ Nat.and_mod_two_eq_one Nat.and_le_left

theorem Messages.reports {s t : State} (h : Messages s t) : Reports s t := by
  unfold Messages at h
  rw [h]

theorem msixFlush_messages (v : Nat) (s : State) : Messages s (msixFlush v s) := by
  unfold msixFlush
  dsimp only
  split <;> rfl

theorem msixFlushAll_messages (s : State) : Messages s (msixFlushAll s) :=
  forEach_keeps (Messages s) _ _ (fun _ _ h => h.trans (msixFlush_messages ..)) s rfl

/-- Settles O16: messages alone follow the MSI-X settings, and every other configuration write stores what it names. -/
theorem configurationWrites : Obligations.ConfigurationWrites := by
  unfold Obligations.ConfigurationWrites
  intro s
  refine ⟨fun en mask => ?_, fun _ => rfl, fun _ => rfl, fun _ => rfl, fun _ => rfl, fun _ => rfl, fun _ => rfl,
    fun v => ⟨_, rfl, bit_sub_land _ v, rfl⟩, fun v => ⟨_, rfl, bit_sub_land _ v, rfl⟩⟩
  have h := msixFlushAll_messages { s with host := { s.host with msixEnable := en, funcMask := mask } }
  refine ⟨_, rfl, ?_, ?_, h.reports⟩
  · show (msixFlushAll _).host.msixEnable = en
    rw [h]
  · show (msixFlushAll _).host.funcMask = mask
    rw [h]

/-! ### The MSI-X table -/

/-- A write of the MSI-X table meets no test (R34, R57). -/
theorem writeKind_msixTable (i v : Nat) (s : State) : writeKind (.msixTable i) v s = none := by
  have hbars : (Reg.msixTable i).busyBars s = false := by
    simp [Reg.busyBars, Reg.busyExempt, Reg.isMsix]
  have hstate : stateBars (.msixTable i) v s = false := rfl
  simp [writeKind, hbars, hstate, Reg.guarded, regBusy, shadowBusy, Reg.group, regState, regRange]

/-- The table after a write, before messages that wait are looked at (R34). -/
def State.msixStored (i x : Nat) (s : State) : State :=
  { s with host := { s.host with msix := Tab.put {} (i / 4) ((s.msixEntry (i / 4)).set (i % 4) x) s.host.msix } }

/-- A message that waits is sent once nothing masks it, and waits no more (R101). -/
theorem msixFlush_sends {v : Nat} {s : State} (hwait : Tab.get false v s.host.pba = true) (hen : s.host.msixEnable = true)
    (hfunc : s.host.funcMask = false) (hmask : (s.msixEntry v).mask = false) :
    msixFlush v s = { s with host := { s.host with pba := Tab.put false v false s.host.pba } }.emit
      (.msix v (s.msixEntry v).addr (s.msixEntry v).data) := by
  simp [msixFlush, hwait, hen, hfunc, hmask]

/-- Settles O17: the entry is stored, and `msixFlush` sends what waited for it. -/
theorem msixTableWriteTakes : Obligations.MsixTableWriteTakes := by
  unfold Obligations.MsixTableWriteTakes
  intro i x s hi hx hs hmove
  have hmsg := msixFlush_messages (i / 4) (s.msixStored i x)
  have hrun : bar0Write (regReq (.msixTable i)) (leVal (leBytes 4 x)) s = msixFlush (i / 4) (s.msixStored i x) := by
    rw [leVal_leBytes, Nat.mod_eq_of_lt (by simpa using hx)]
    exact writeReg_accepted hs (decide_eq_true hi) hx (writeKind_msixTable i x s) rfl (hmsg.reports.move_eq.trans hmove)
  have hentry : ∀ v, (msixFlush (i / 4) (s.msixStored i x)).msixEntry v = (s.msixStored i x).msixEntry v := fun v => by
    rw [hmsg]
    rfl
  have hsame : (s.msixStored i x).msixEntry (i / 4) = (s.msixEntry (i / 4)).set (i % 4) x := Tab.get_put_same ..
  refine ⟨_, congrArg Host.Outcome.next hrun, (hentry _).trans hsame, fun v hv => ?_, ?_, fun hwait hen hfunc hmask => ?_⟩
  · exact (hentry v).trans (Tab.get_put_ne _ _ _ _ _ _ hv)
  · unfold Messages at hmsg
    generalize msixFlush (i / 4) (s.msixStored i x) = t at hmsg ⊢
    rw [hmsg]
    rfl
  · rw [← hsame] at hmask
    rw [hentry, msixFlush_sends (s := s.msixStored i x) hwait hen hfunc hmask]
    exact ⟨rfl, Tab.get_put_same ..⟩

end Sys2Proof.Machine

/-! ## What a retiring surface sets going (R82, R92) -/

namespace Sys2Proof.Machine

theorem RingWork.refl (s : State) : RingWork s s := rfl

theorem RingWork.trans {s t u : State} (h : RingWork s t) (k : RingWork t u) : RingWork s u := by
  unfold RingWork at *
  rw [k, h]

theorem RingWork.regs_eq {s t : State} (h : RingWork s t) : t.regs = s.regs := by rw [h]
theorem RingWork.work_eq {s t : State} (h : RingWork s t) : t.work = s.work := by rw [h]
theorem RingWork.move_eq {s t : State} (h : RingWork s t) : t.power.move = s.power.move := by rw [h]

/-- A completion is ring work. -/
theorem Completes.ringWork {s t : State} (h : Completes s t) : RingWork s t := by
  unfold Completes Reports at h
  unfold RingWork
  rw [h]

/-- Ring work repeated over a list. -/
theorem RingWork.forEach {α : Type} {f : α → State → State} (hf : ∀ a t, RingWork t (f a t)) (l : List α) (s : State) :
    RingWork s (forEach l f s) :=
  forEach_keeps (RingWork s) l f (fun a t ht => ht.trans (hf a t)) s (.refl s)

theorem noteChange_ringWork (s : State) : RingWork s (noteChange s) := by
  unfold RingWork
  rw [noteChange_eq]

/-- A LAYER_WRITE that begins to run reads host memory, asks for its channels and marks a content change (R80, R114). -/
theorem runWrite_ringWork (j : Job) (s : State) : RingWork s (runWrite j s) := by
  have hreads : RingWork (s.setJob { j with stage := .running }) (writeReads j (s.setJob { j with stage := .running })) :=
    .forEach (fun _ _ => rfl) _ _
  have hchannels : ∀ c g w (t : State), RingWork t (memRequestAll c g w t) := fun c g w t => .forEach (fun _ _ => rfl) _ t
  have hstart : RingWork s (s.setJob { j with stage := .running }) := rfl
  exact ((hstart.trans hreads).trans (hchannels 3 (j.engine / 9) (engineWho j.engine) _)).trans (noteChange_ringWork _)

theorem runReleased_ringWork (fuel : Nat) (s : State) : RingWork s (runReleased fuel s) := by
  induction fuel generalizing s with
  | zero => exact .refl s
  | succ fuel ih =>
    unfold runReleased
    dsimp only
    split
    · exact .refl s
    · exact (runWrite_ringWork ..).trans (ih _)

theorem retireOne_ringWork (detail : Nat) (j : Job) (s : State) : RingWork s (retireOne detail j s) := by
  unfold retireOne
  dsimp only
  split
  · exact .refl s
  · exact (RingWork.trans rfl (finishJob_completes j 0 detail _).ringWork).trans (runReleased_ringWork ..)

theorem retireCheck_ringWork (detail : Nat) (s : State) : RingWork s (retireCheck detail s) :=
  .forEach (retireOne_ringWork detail) _ s

/-- With no SURFACE_RETIRE waiting there is none to decide (R82). -/
theorem retireCheck_idle {s : State} (h : ∀ j ∈ s.jobs, j.stage ≠ .retiring) (detail : Nat) : retireCheck detail s = s := by
  have hnone : s.jobs.filter (fun j => j.stage == .retiring) = [] := by simpa using h
  rw [retireCheck, hnone, forEach_nil]

end Sys2Proof.Machine

/-! ## Commits (O38) -/

namespace Sys2Proof.Machine

/-- Two registers of the map at one address are one register (R450). -/
theorem Reg.addr_injective {q r : Reg} (hq : q.inMap = true) (hr : r.inMap = true) (h : q.addr = r.addr) : q = r :=
  Option.some.inj ((locate_addr hq).symm.trans (h ▸ locate_addr hr))

/-- The shadows of a list of registers become their working values (R49). -/
def State.applyShadows (l : List Reg) (s : State) : State := forEach l (fun r st => State.setWk r (st.rd r) st) s

/-- Working values change, and nothing else. -/
theorem State.applyShadows_eq (l : List Reg) (s : State) : s.applyShadows l = { s with work := (s.applyShadows l).work } :=
  forEach_keeps (fun t : State => t = { s with work := t.work }) l _ (fun r t ht => by rw [ht]; rfl) s rfl

/-- A register whose address no register of the list has keeps its working value. -/
theorem State.wk_applyShadows_out (l : List Reg) {r : Reg} (h : ∀ q ∈ l, q.addr ≠ r.addr) (s : State) :
    (s.applyShadows l).wk r = s.wk r := by
  induction l generalizing s with
  | nil => rfl
  | cons q l ih =>
    have hq : (s.setWk q (s.rd q)).wk r = s.wk r :=
      congrArg BitVec.toNat (Tab.get_put_ne _ _ _ _ _ _ (h q List.mem_cons_self).symm)
    exact (ih (fun p hp => h p (List.mem_cons_of_mem _ hp)) _).trans hq

/-- A register of the list takes its shadow. -/
theorem State.wk_applyShadows_in {l : List Reg} (hl : ∀ q ∈ l, q.inMap = true) {r : Reg} (hr : r ∈ l) (s : State) :
    (s.applyShadows l).wk r = s.rd r := by
  induction l generalizing s with
  | nil => cases hr
  | cons q l ih =>
    by_cases hmem : r ∈ l
    · exact ih (fun p hp => hl p (List.mem_cons_of_mem _ hp)) hmem _
    · obtain rfl : r = q := (List.mem_cons.mp hr).resolve_right hmem
      have hout : ∀ p ∈ l, p.addr ≠ r.addr := fun p hp h =>
        hmem (Reg.addr_injective (hl p (List.mem_cons_of_mem _ hp)) (hl r hr) h ▸ hp)
      refine (State.wk_applyShadows_out l hout _).trans ?_
      rw [State.wk_setWk, Nat.mod_eq_of_lt (s.rd_lt r)]

/-- The registers of a group are of the map, and its commit register is not one of them (R119, R124, R216). -/
theorem groupRegs_inMap (g : Group) : ∀ r ∈ groupRegs g, r.inMap = true ∧ r ≠ commitReg g := by
  cases g <;> decide +kernel

theorem commitReg_inMap (g : Group) : (commitReg g).inMap = true := by
  cases g <;> rfl

theorem groupRegs_addr_ne {g : Group} {r : Reg} (hr : r ∈ groupRegs g) : r.addr ≠ (commitReg g).addr := by
  obtain ⟨hm, hne⟩ := groupRegs_inMap g r hr
  exact fun h => hne (Reg.addr_injective hm (commitReg_inMap g) h)

/-- What a commit leaves before waiting surfaces are looked at: the group's shadows in force, the bit 0, the latch frame. -/
def State.groupCommitted (g : Group) (s : State) : State :=
  { ((s.wr (commitReg g) 1).applyShadows (groupRegs g)).wr (commitReg g) 0 with
    scan := { s.scan with latchFrame := s.scan.frame % 2 ^ 32 } }

theorem commitWrite_running {g : Group} {s : State} (h : s.scan.state ≠ .stopped) : commitWrite g s = s.wr (commitReg g) 1 :=
  if_neg h

theorem commitWrite_stopped {g : Group} {s : State} (h : s.scan.state = .stopped) :
    commitWrite g s = retireCheck 0 (s.groupCommitted g) := by
  have hscan : ((s.wr (commitReg g) 1).applyShadows (groupRegs g)).scan = s.scan := by rw [State.applyShadows_eq]; rfl
  rw [State.groupCommitted, ← hscan]
  exact if_pos h

/-- A commit changes the commit bit, working values and the latch frame. -/
theorem State.groupCommitted_eq (g : Group) (s : State) :
    s.groupCommitted g = { s with regs := (s.groupCommitted g).regs, work := (s.groupCommitted g).work
                                  scan := { s.scan with latchFrame := s.scan.frame % 2 ^ 32 } } := by
  unfold State.groupCommitted
  rw [State.applyShadows_eq]
  rfl

theorem State.groupCommitted_rd_ne {g : Group} {r : Reg} (h : r.addr ≠ (commitReg g).addr) (s : State) :
    (s.groupCommitted g).rd r = s.rd r := by
  refine (State.rd_wr_ne _ (commitReg g) r 0 h).trans ?_
  rw [State.applyShadows_eq]
  exact State.rd_wr_ne s (commitReg g) r 1 h

theorem State.groupCommitted_wk {g : Group} {r : Reg} (hr : r ∈ groupRegs g) (s : State) :
    (s.groupCommitted g).wk r = s.rd r :=
  (State.wk_applyShadows_in (fun q hq => (groupRegs_inMap g q hq).1) hr _).trans
    (State.rd_wr_ne s (commitReg g) r 1 (groupRegs_addr_ne hr))

/-- A commit of a group whose bit reads 0 meets no test while no layer breaks R119 (R49, R126). -/
theorem writeReg_commit {g : Group} {s : State} (hs : s.Open) (hbit : s.b (commitReg g) 0 = false)
    (hlayers : ∀ n, n < 64 → s.layerBreaks n = false) (hp : (commitWrite g s).power.move = .none) :
    writeReg (commitReg g) 1 s = commitWrite g s := by
  have hwrite : regWrite (commitReg g) 1 s = commitWrite g s := by
    have hcommit : commitBit g 1 s = commitWrite g s := by simp [commitBit, bit, hbit]
    rw [← hcommit]
    cases g <;> rfl
  have hstate : regState (commitReg g) 1 s = false := by
    cases g with
    | layer => simpa [regState, commitReg] using fun _ => hlayers
    | scan | res => rfl
  have hbusy : regBusy (commitReg g) 1 s = false := by
    cases g <;> rfl
  have hguard : (commitReg g).guarded = false := by
    cases g <;> rfl
  have hrange : regRange (commitReg g) 1 s = false := by
    cases g <;> rfl
  have hlock : commitReg g ≠ .globalUnlock := by
    cases g <;> nofun
  rw [← hwrite] at hp ⊢
  exact writeReg_open _ 1 hs (commitReg_inMap g) (by decide) hlock hguard hbusy hstate hrange hp

/-- Settles O38: while scan-out runs a commit is its bit, while STOPPED it is `State.groupCommitted` and what waiting surfaces
then do. -/
theorem commitsApply : Obligations.CommitsApply := by
  refine ⟨fun c g s hc hs hbit hlayers => ?_, fun s => ⟨fun hrun => congrArg Host.Outcome.next (if_neg hrun), fun hstop hbits => ?_⟩⟩
  · have hexec : exec c s = .next (writeReg (commitReg g) 1 s) := by
      simp only [List.mem_cons, Prod.mk.injEq, List.not_mem_nil, or_false] at hc
      rcases hc with ⟨rfl, rfl⟩ | ⟨rfl, rfl⟩ | ⟨rfl, rfl⟩ <;> rfl
    rw [hexec]
    refine ⟨fun hrun => ?_, fun hstop => ?_⟩
    · have hw := commitWrite_running (g := g) hrun
      exact congrArg Host.Outcome.next ((writeReg_commit hs hbit hlayers (by rw [hw]; exact hs.move_eq)).trans hw)
    · have hw := commitWrite_stopped (g := g) hstop
      have hring := retireCheck_ringWork 0 (s.groupCommitted g)
      have heq := s.groupCommitted_eq g
      have hmove : (s.groupCommitted g).power.move = .none := by rw [heq]; exact hs.move_eq
      refine ⟨retireCheck 0 (s.groupCommitted g), congrArg Host.Outcome.next
        ((writeReg_commit hs hbit hlayers (by rw [hw]; exact hring.move_eq.trans hmove)).trans hw), ?_, ?_, ?_, ?_, ?_, ?_⟩
      · intro r hr
        rw [State.wk, hring.work_eq]
        exact s.groupCommitted_wk hr
      · intro r hr
        rw [State.wk, hring.work_eq]
        exact State.wk_applyShadows_out _ hr _
      · rw [State.rd, hring.regs_eq]
        exact State.rd_wr ..
      · intro r hr
        rw [State.rd, hring.regs_eq]
        exact s.groupCommitted_rd_ne hr
      · rw [hring.regs_eq, hring.work_eq, ← heq]
        exact hring
      · intro hjobs
        rw [retireCheck_idle (by rw [heq]; exact hjobs)]
        exact heq
  · refine congrArg Host.Outcome.next ?_
    rw [commitComplete, if_pos hstop]
    simp [hbits]

end Sys2Proof.Machine

/-! ## The bytes of NVS_BUF (R378) -/

namespace Sys2Proof.Machine

/-- One byte of a word after another, or the same, was written. -/
theorem fld_withFld_byte {n : Nat} (hn : n < 2 ^ 32) (b : Nat) {j k : Nat} (hj : j < 4) (hk : k < 4) :
    fld (withFld n (8 * k + 7) (8 * k) b % 2 ^ 32) (8 * j + 7) (8 * j) =
      if j = k then b % 256 else fld n (8 * j + 7) (8 * j) := by
  interval_cases k <;> interval_cases j <;> simp [fld, withFld, at_] <;> omega

/-- One byte of NVS_BUF takes a value. -/
def State.putBuf (i b : Nat) (s : State) : State :=
  s.wr (.nvsBuf (i / 4)) (withFld (s.rd (.nvsBuf (i / 4))) (8 * (i % 4) + 7) (8 * (i % 4)) b)

theorem nvsBuf_addr_ne {i j : Nat} (h : i ≠ j) : (Reg.nvsBuf i).addr ≠ (Reg.nvsBuf j).addr := by
  simp only [Reg.addr]
  omega

/-- A byte put into NVS_BUF reads back, and every other byte stays. -/
theorem State.bufByte_putBuf (i j b : Nat) (s : State) :
    (s.putBuf i b).bufByte j = if j = i then b % 256 else s.bufByte j := by
  by_cases hw : j / 4 = i / 4
  · rw [State.bufByte, State.putBuf, hw, State.rd_wr, fld_withFld_byte (s.rd_lt _) b (by omega) (by omega), State.bufByte, hw]
    have : j % 4 = i % 4 ↔ j = i := by omega
    simp only [this]
  · have hne : j ≠ i := fun h => hw (h ▸ rfl)
    rw [State.bufByte, State.putBuf, State.rd_wr_ne _ _ _ _ (nvsBuf_addr_ne hw), if_neg hne, State.bufByte]

theorem bufPut_cons (i b : Nat) (l : List Nat) (s : State) : bufPut i (b :: l) s = bufPut (i + 1) l (s.putBuf i b) := rfl

theorem bufPut_regs (i : Nat) (l : List Nat) (s : State) : bufPut i l s = { s with regs := (bufPut i l s).regs } := by
  induction l generalizing i s with
  | nil => rfl
  | cons b l ih => rw [bufPut_cons, ih]; rfl

/-- Bytes of NVS_BUF outside the written range stay. -/
theorem bufByte_bufPut_out (l : List Nat) {i j : Nat} (h : j < i ∨ i + l.length ≤ j) (s : State) :
    (bufPut i l s).bufByte j = s.bufByte j := by
  induction l generalizing i s with
  | nil => rfl
  | cons b l ih =>
    rw [List.length_cons] at h
    rw [bufPut_cons, ih (by omega), State.bufByte_putBuf, if_neg (by omega)]

/-- Bytes put into NVS_BUF read back. -/
theorem bufByte_bufPut_in (l : List Nat) {i k : Nat} (hk : k < l.length) (s : State) :
    (bufPut i l s).bufByte (i + k) = l[k] % 256 := by
  induction l generalizing i k s with
  | nil => cases hk
  | cons b l ih =>
    rw [bufPut_cons]
    cases k with
    | zero => rw [bufByte_bufPut_out l (by omega), State.bufByte_putBuf, if_pos (Nat.add_zero i)]; rfl
    | succ k =>
      rw [← Nat.add_assoc, Nat.add_right_comm]
      exact ih (Nat.lt_of_succ_lt_succ hk) _

/-- Registers that are not of NVS_BUF stay. -/
theorem bufPut_rd {q : Reg} (hq : ∀ k, k < 512 → q.addr ≠ (Reg.nvsBuf k).addr) (l : List Nat) {i : Nat}
    (hl : i + l.length ≤ 2048) (s : State) : (bufPut i l s).rd q = s.rd q := by
  induction l generalizing i s with
  | nil => rfl
  | cons b l ih =>
    rw [List.length_cons] at hl
    rw [bufPut_cons, ih (by omega)]
    exact State.rd_wr_ne _ _ _ _ (hq _ (by omega))

end Sys2Proof.Machine

/-! ## What the store does for itself: page writes of saves, log entries (R357, R359, R369, R374) -/

namespace Sys2Proof.Machine

/-- With nothing queued the store starts nothing. -/
theorem nvsGo_idle {s : State} (h : s.nvs.queue = []) : nvsGo s = s := by
  simp [nvsGo, nvsKick, nextOp, h]

/-- Only internal log writes are queued. -/
def State.QueueInternal (s : State) : Prop := ∀ o ∈ s.nvs.queue, o.isInternal = true

/-- `t` differs from `s` at most in what the store's own page writes and log entries change: pages and their spares, the queue
and what runs of it, the samples of a Mace check, free values and reports. -/
def InternalFrame (s t : State) : Prop :=
  Reports { s with free := t.free, nvs := { s.nvs with
    pages := t.nvs.pages, replaced := t.nvs.replaced, leftOut := t.nvs.leftOut, logHead := t.nvs.logHead
    queue := t.nvs.queue, heldAppends := t.nvs.heldAppends, current := t.nvs.current, retry := t.nvs.retry
    vholdMv := t.nvs.vholdMv, availUj := t.nvs.availUj, needUj := t.nvs.needUj, pwrfailHigh := t.nvs.pwrfailHigh } } t

/-- The store's own work, which queues only internal log writes. -/
structure InternalWork (s t : State) : Prop where
  frame : InternalFrame s t
  queue : s.QueueInternal → t.QueueInternal

theorem InternalFrame.trans {s t u : State} (h : InternalFrame s t) (k : InternalFrame t u) : InternalFrame s u := by
  unfold InternalFrame Reports at *
  rw [k, h]

theorem InternalWork.trans {s t u : State} (h : InternalWork s t) (k : InternalWork t u) : InternalWork s u :=
  ⟨h.frame.trans k.frame, fun hq => k.queue (h.queue hq)⟩

theorem InternalWork.glob_eq {s t : State} (h : InternalWork s t) : t.glob = s.glob := by rw [h.frame]
theorem InternalWork.regs_eq {s t : State} (h : InternalWork s t) : t.regs = s.regs := by rw [h.frame]
theorem InternalWork.mem_eq {s t : State} (h : InternalWork s t) : t.mem = s.mem := by rw [h.frame]
theorem InternalWork.bist_eq {s t : State} (h : InternalWork s t) : t.bist = s.bist := by rw [h.frame]
theorem InternalWork.age_eq {s t : State} (h : InternalWork s t) : t.age = s.age := by rw [h.frame]
theorem InternalWork.result_eq {s t : State} (h : InternalWork s t) : t.nvs.result = s.nvs.result := by rw [h.frame]
theorem InternalWork.keepCopy_eq {s t : State} (h : InternalWork s t) : t.nvs.keepCopy = s.nvs.keepCopy := by rw [h.frame]

theorem InternalWork.refl (s : State) : InternalWork s s := ⟨rfl, id⟩

theorem InternalWork.of_reports {s t : State} (h : Reports s t) : InternalWork s t := by
  refine ⟨?_, fun hq => ?_⟩
  · unfold InternalFrame
    unfold Reports at *
    rw [h]
  · rwa [State.QueueInternal, h.nvs_eq]

theorem InternalWork.forEach {α : Type} {f : α → State → State} (hf : ∀ a t, InternalWork t (f a t)) (l : List α) (s : State) :
    InternalWork s (forEach l f s) :=
  forEach_keeps (InternalWork s) l f (fun a t ht => ht.trans (hf a t)) s (.refl s)

theorem logAppend_internalWork (kind : Nat) (payload : List Nat) (s : State) : InternalWork s (logAppend kind payload s) := by
  unfold logAppend
  dsimp only
  split
  · refine ⟨rfl, fun hq o ho => ?_⟩
    rcases List.mem_append.mp ho with ho | ho
    · exact hq o ho
    · rw [List.mem_singleton.mp ho]
      rfl
  · exact ⟨rfl, id⟩

theorem reportRetire_internalWork (p sp : Nat) (s : State) : InternalWork s (reportRetire p sp s) :=
  ((logAppend_internalWork ..).trans (.of_reports (raiseEvent_reports ..))).trans (.of_reports (detectNote_reports ..))

theorem retirePage_internalWork {p sp : Nat} {s t : State} (h : retirePage p s = some (sp, t)) : InternalWork s t := by
  unfold retirePage at h
  split at h
  · cases h
  · cases h
    exact ⟨rfl, id⟩

theorem programPage_internalWork (p part k seq : Nat) (d : Tab Nat) (s : State) : InternalWork s (programPage p part k seq d s) :=
  ⟨rfl, id⟩

/-- A page write, whichever page it reaches (R357, R359). -/
theorem pageWrite_internalWork (part k off : Nat) (bytes : List Nat) (fails : Bool) (s : State) :
    InternalWork s (pageWrite part k off bytes fails s).2.2 := by
  unfold pageWrite
  dsimp only
  split
  · split
    · exact ((retirePage_internalWork ‹_›).trans (programPage_internalWork ..)).trans (reportRetire_internalWork ..)
    · exact (InternalWork.of_reports (raiseEvent_reports 4 9 _ s)).trans (.of_reports (detectNote_reports 4 2 _))
  · exact programPage_internalWork ..

theorem saveWrite_internalWork (part k : Nat) (bytes : List Nat) (s : State) : InternalWork s (saveWrite part k bytes s) :=
  pageWrite_internalWork ..

theorem flushLogWrite_internalWork (op : NvsOp) (s : State) : InternalWork s (flushLogWrite op s) := by
  cases op with
  | append kind time payload => exact (pageWrite_internalWork ..).trans ⟨rfl, id⟩
  | spareMap page => exact pageWrite_internalWork ..
  | _ => exact .refl s

theorem writeCounterSet_internalWork (v : SaveCopy) (rpages kind : Nat) (s : State) :
    InternalWork s (writeCounterSet v rpages kind s) := by
  have hleft : ∀ l, InternalWork s { s with nvs := { s.nvs with leftOut := l } } := fun l => ⟨rfl, id⟩
  unfold writeCounterSet
  dsimp only
  refine InternalWork.trans ?_ (saveWrite_internalWork ..)
  exact (hleft _).trans (.forEach (fun _ _ => saveWrite_internalWork ..) _ _)

/-- A save writes pages, and queued log writes with them (R374). -/
theorem writeSave_internalWork (tier kind : Nat) (v : SaveCopy) (s : State) : InternalWork s (writeSave tier kind v s) := by
  have hdrop : InternalWork s { s with nvs := { s.nvs with queue := s.nvs.queue.filter fun o => !o.isInternal } } :=
    ⟨rfl, fun hq o ho => hq o (List.mem_filter.mp ho).1⟩
  unfold writeSave
  dsimp only
  split
  · exact .refl s
  · refine (InternalWork.trans ?_ (.forEach (fun _ _ => saveWrite_internalWork ..) _ _)).trans (writeCounterSet_internalWork ..)
    split
    · exact hdrop.trans (.forEach flushLogWrite_internalWork _ _)
    · exact .refl s

theorem maceSample_pinSample_internalWork (n : Nat) (s : State) : InternalWork s (maceSample n (pinSample s)) := by
  unfold pinSample
  split <;> exact ⟨rfl, id⟩

/-- Erasing a target changes pages alone (R357 step 3). -/
theorem eraseTarget_eq (part k : Nat) (s : State) : ∃ p, eraseTarget part k s = { s with nvs := { s.nvs with pages := p } } := by
  unfold eraseTarget
  dsimp only
  split
  · exact ⟨s.nvs.pages, rfl⟩
  · exact ⟨_, rfl⟩

/-- The operation that starts next was queued, and the others stay queued. -/
theorem nextOp_queue {s : State} {op : NvsOp} {rest : List NvsOp} (h : nextOp s = some (op, rest)) :
    op ∈ s.nvs.queue ∧ ∀ o ∈ rest, o ∈ s.nvs.queue := by
  unfold nextOp at h
  split at h
  · cases h
  · split at h
    · cases h
    · next hfind =>
      cases h
      exact ⟨List.mem_of_find?_eq_some hfind, fun o ho => List.mem_of_mem_erase ho⟩

/-- An internal log write has a page to write, and something to write there (R368, R402). -/
theorem NvsOp.target_of_isInternal {op : NvsOp} (h : op.isInternal = true) (s : State) :
    (∃ t, op.target s = some t) ∧ op.writesNothing = false := by
  cases op with
  | append | spareMap => exact ⟨⟨_, rfl⟩, rfl⟩
  | _ => cases h

/-- While only internal log writes are queued, the store starts one or waits to try again: it ends no host operation. -/
theorem nvsKick_internalWork (fuel : Nat) {s : State} (hq : s.QueueInternal) : InternalWork s (nvsKick fuel s) := by
  induction fuel generalizing s with
  | zero => exact .refl s
  | succ fuel ih =>
    have hsample := maceSample_pinSample_internalWork 1 s
    generalize hm : maceSample 1 (pinSample s) = m at hsample
    unfold nvsKick
    split
    · exact .refl s
    · split
      · exact .refl s
      · next op rest hnext =>
        obtain ⟨hop, hrest⟩ := nextOp_queue hnext
        obtain ⟨⟨page, htarget⟩, hwrites⟩ := op.target_of_isInternal (hq op hop) s
        simp only [htarget, hwrites, hq op hop, hm, Bool.false_eq_true, if_false, if_true]
        split
        · obtain ⟨p, hp⟩ := eraseTarget_eq page.1 page.2 { m with nvs := { m.nvs with queue := rest, current := some op } }
          rw [hp]
          exact ⟨hsample.frame.trans rfl, fun _ o ho => hq o (hrest o ho)⟩
        · have hretry : InternalWork m { m with nvs := { m.nvs with retry := true } } := ⟨rfl, id⟩
          have hnoted := (hsample.trans hretry).trans (.of_reports (detectNote_reports 4 4 _))
          exact hnoted.trans (ih (hnoted.queue hq))

theorem nvsGo_internalWork {s : State} (hq : s.QueueInternal) : InternalWork s (nvsGo s) := nvsKick_internalWork _ hq

end Sys2Proof.Machine

/-! ## The ends of store operations (O35) -/

namespace Sys2Proof.Machine

/-! ### Events and detections only add to what has left -/

theorem ringWrite_adds (n : Nat) (ws : List Nat) (s : State) : s.out <+: (ringWrite n ws s).out :=
  (List.prefix_append _ _).trans (ringWrite_out n ws s)

theorem writeLost_out (n : Nat) (s : State) : s.out <+: (writeLost n s).out := by
  unfold writeLost
  split
  · exact List.prefix_rfl
  · exact ringWrite_adds n _ (stamp 1 s).2.2

theorem deliverEvent_out (n : Nat) (ws : List Nat) (s : State) : s.out <+: (deliverEvent n ws s).out := by
  unfold deliverEvent
  dsimp only
  split
  · exact writeLost_out n s
  · exact (writeLost_out n s).trans (ringWrite_adds ..)

theorem routeEvent_out (code : Nat) (ws : List Nat) (s : State) : s.out <+: (routeEvent code ws s).out := by
  unfold routeEvent
  dsimp only
  split
  · exact deliverEvent_out ..
  · exact List.prefix_rfl

@[simp] theorem State.journal_out (e : Nat) (x : JournalEntry) (s : State) : (s.journal e x).out = s.out := by
  unfold State.journal
  split <;> rfl

theorem raiseEventAs_out (exempt : Bool) (src code sev : Nat) (payload : List Nat) (s : State) :
    s.out <+: (raiseEventAs exempt src code sev payload s).out := by
  have hstamped : (if src / 0x1000 = 3 then (stamp src s).2.2.journal ((stamp src s).2.2.dutyEngine (src % 32 / 4) (src % 4))
      (.event src) else (stamp src s).2.2).out = s.out := by
    split
    · exact State.journal_out ..
    · rfl
  unfold raiseEventAs
  dsimp only
  generalize (if src / 0x1000 = 3 then _ else _ : State) = u at hstamped ⊢
  rw [← hstamped]
  split
  · exact List.prefix_rfl
  · split
    · exact List.prefix_rfl
    · split
      · exact List.prefix_rfl
      · exact routeEvent_out ..

theorem detectNote_out (u k : Nat) (s : State) : s.out <+: (detectNote u k s).out := by
  have hset : ∀ v, (s.setFault u v).out = s.out := fun v => rfl
  unfold detectNote detectOne
  split
  · exact List.prefix_rfl
  · dsimp only
    split
    · split
      · exact (raiseEventAs_out _ _ _ _ _ (s.setFault u _)).trans (sendMsix_out ..)
      · exact raiseEventAs_out _ _ _ _ _ (s.setFault u _)
    · exact List.prefix_rfl

/-! ### Reads and page writes -/

/-- NVS_BUF is filled without a look at the store. -/
theorem bufPut_withNvs (i : Nat) (l : List Nat) (n : Nvs) (s : State) :
    bufPut i l { s with nvs := n } = { bufPut i l s with nvs := n } := by
  induction l generalizing i s with
  | nil => rfl
  | cons b l ih => exact ih (i + 1) (s.putBuf i b)

/-- The bytes that a read of a page takes from it (R356). -/
def readBytesOf (d : Tab Nat) (off len : Nat) : List Nat := (List.range len).map fun j => Tab.get 0 (off + j) d

/-- A register read of a page that can be read (R356, R378). -/
theorem nvsReadEnd_read {part page off len : Nat} {d : Tab Nat} {s : State}
    (hcur : s.nvs.current = some (.regRead part page off len)) (hqueue : s.nvs.queue = [])
    (hread : s.readPage part page = some d) :
    nvsReadEnd s = { bufPut off (readBytesOf d off len) s with
      nvs := { s.nvs with current := none, reading := false, result := 0, reason := 0 } } := by
  have hbytes : pageBytes { s with nvs := { s.nvs with current := none } } part page off len = some (readBytesOf d off len) := by
    rw [pageBytes]
    exact congrArg _ hread
  unfold nvsReadEnd
  simp only [hcur, hbytes, bufPut_withNvs]
  exact nvsGo_idle hqueue

/-- A register read of a page of which no copy can be read (R356). -/
theorem nvsReadEnd_unreadable {part page off len : Nat} {s : State}
    (hcur : s.nvs.current = some (.regRead part page off len)) (hqueue : s.nvs.queue = [])
    (hread : s.readPage part page = none) :
    nvsReadEnd s = { s with nvs := { s.nvs with current := none, reading := false, result := 7, reason := 4 } } := by
  have hbytes : pageBytes { s with nvs := { s.nvs with current := none } } part page off len = none := by
    rw [pageBytes]
    exact congrArg _ hread
  unfold nvsReadEnd
  simp only [hcur, hbytes]
  exact nvsGo_idle hqueue

/-- The write sequence number of a logical page's next write (R357). -/
def State.nextSeq (part page : Nat) (s : State) : Nat :=
  match s.bestCopy part page with
  | some c => c.2.seq + 1
  | none => 1

/-- The page that a write reaches (R357). -/
theorem programPage_phys (p part k seq : Nat) (d : Tab Nat) (s : State) :
    (programPage p part k seq d s).phys p =
      { s.phys p with part := part, lpage := k, seq := seq, hchk := true, data := d
                      wear := min ((s.phys p).wear + 1) 0xFFFFFF
                      dcrc := crc32 ({ s.phys p with data := d } : Phys).bytes } :=
  Tab.get_put_same ..

/-- A write leaves every other page. -/
theorem programPage_phys_ne {p q : Nat} (h : q ≠ p) (part k seq : Nat) (d : Tab Nat) (s : State) :
    (programPage p part k seq d s).phys q = s.phys q :=
  Tab.get_put_ne _ _ _ _ _ _ h

/-- A register page write that succeeds on a target that is not worn (R357). -/
theorem nvsPageWriteEnd_regWrite {part page off len : Nat} {s : State}
    (hcur : s.nvs.current = some (.regWrite part page off len)) (hqueue : s.nvs.queue = [])
    (hwear : (s.phys (writeTarget s part page)).wear < 1000000) :
    nvsPageWriteEnd false s = endRegister true 0 0 (programPage (writeTarget s part page) part page (s.nextSeq part page)
      (mergeData ((s.readPage part page).getD []) off ((List.range len).map fun i => s.bufByte (off + i)))
      { s with nvs := { s.nvs with current := none } }) := by
  have hworn : (false || decide (1000000 ≤ (s.phys (writeTarget s part page)).wear)) = false := by simpa using hwear
  have hwrite : pageWrite part page off ((List.range len).map fun i => s.bufByte (off + i)) false
      { s with nvs := { s.nvs with current := none } } =
        (0, 0, programPage (writeTarget s part page) part page (s.nextSeq part page)
          (mergeData ((s.readPage part page).getD []) off ((List.range len).map fun i => s.bufByte (off + i)))
          { s with nvs := { s.nvs with current := none } }) := if_neg (Bool.eq_false_iff.mp hworn)
  unfold nvsPageWriteEnd
  simp only [hcur, NvsOp.target, NvsOp.content, hwrite]
  exact nvsGo_idle hqueue

/-! ### Saves, log retries, measurements -/

/-- The end of a host save: its pages are written, then its outcome is given (R376). -/
theorem nvsSaveEnd_regSave {v : SaveCopy} {s : State} (hcur : s.nvs.current = some .regSave) (hcopy : s.nvs.keepCopy = some v) :
    nvsSaveEnd s = nvsGo (endRegister true 0 0
      (writeSave 1 4 v { s with nvs := { s.nvs with current := none, keepCopy := none } })) := by
  simp [nvsSaveEnd, nvsHostSaveEnd, hcur, hcopy, endOp]

/-- With the pin high and energy for one page, a queued page write that may start starts (R357, R365). -/
theorem nvsKick_starts {s : State} {op : NvsOp} {rest : List NvsOp} {part page : Nat} (hcur : s.nvs.current = none)
    (hscan : s.nvs.scanned = true) (hnext : nextOp s = some (op, rest)) (htarget : op.target s = some (part, page))
    (hwrites : op.writesNothing = false) (hmace : maceReason s = 0) (fuel : Nat) :
    ∃ n, nvsKick (fuel + 1) s = { s with nvs := n } ∧ n.current = some op ∧ n.queue = rest ∧ n.retry = s.nvs.retry := by
  have hpin : pinSample s = s := by
    refine if_pos ?_
    cases hhigh : s.nvs.pwrfailHigh with
    | true => rfl
    | false => simp [maceReason, hhigh] at hmace
  have hreason : maceReason (maceSample 1 s) = 0 := hmace
  obtain ⟨p, hp⟩ := eraseTarget_eq part page
    { maceSample 1 s with nvs := { (maceSample 1 s).nvs with queue := rest, current := some op } }
  refine ⟨{ (maceSample 1 s).nvs with queue := rest, current := some op, pages := p }, ?_, rfl, rfl, rfl⟩
  unfold nvsKick
  simp only [hcur, hscan, hnext, htarget, hwrites, hpin, hreason, Option.isSome_none, Bool.not_true, Bool.or_self,
    Bool.false_eq_true, if_false, if_true]
  exact hp

/-- What a capacitance measurement records (R364, R366). -/
def State.capRecorded (vhold fall : Nat) (s : State) : State :=
  (maceSample (worstSavePages { s with nvs := { s.nvs with capUf := 20000 / fall, vhold := vhold, measuring := false
                                                           lastMeasure := s.time.count } })
    { s with nvs := { s.nvs with capUf := 20000 / fall, vhold := vhold, measuring := false
                                 lastMeasure := s.time.count } }).emit (.holdSwitch true false)

/-- A measurement records its result and closes the charge switch; a worst-case save that it finds no energy for is a detection
(R364, R366). -/
theorem capMeasureEnd_recorded {vhold fall : Nat} {s : State} (hmeasure : s.nvs.measuring = true) (hfall : 0 < fall) :
    capMeasureEnd vhold fall s = s.capRecorded vhold fall ∨
      capMeasureEnd vhold fall s = detectNote 4 3 (s.capRecorded vhold fall) := by
  have hne : fall ≠ 0 := by omega
  unfold capMeasureEnd capResult
  simp only [hmeasure, hne, if_true, if_false]
  split
  · exact .inr rfl
  · exact .inl rfl

theorem capMeasureEnd_reports {vhold fall : Nat} {s : State} (hmeasure : s.nvs.measuring = true) (hfall : 0 < fall) :
    Reports (s.capRecorded vhold fall) (capMeasureEnd vhold fall s) ∧
      (s.capRecorded vhold fall).out <+: (capMeasureEnd vhold fall s).out := by
  rcases capMeasureEnd_recorded (vhold := vhold) hmeasure hfall with h | h <;> rw [h]
  · exact ⟨.refl _, List.prefix_rfl⟩
  · exact ⟨detectNote_reports .., detectNote_out ..⟩

/-- Settles O35, clause by clause from the lemma of each end. -/
theorem storeOperationsEnd : Obligations.StoreOperationsEnd := by
  refine ⟨fun part page off len s hmove hcur hqueue hlen => ⟨fun d hread => ?read, fun hread => ?unreadable⟩,
    fun part page off len p f s hmove hcur hqueue hp hwear => ?write, fun v s hcur hcopy hqueue => ?save,
    fun k time l s hcur hscan hqueue hmace => ?retry, fun s hmeasure hcur hstate => ?measure,
    fun vhold fall s hmeasure hfall => ?measured⟩
  case read =>
    have hend := nvsReadEnd_read hcur hqueue hread
    have hregs := bufPut_regs off (readBytesOf d off len) s
    have hcount : (readBytesOf d off len).length = len := by simp [readBytesOf]
    have hgo : powerGo (nvsReadEnd s) = nvsReadEnd s := powerGo_none _ (by rw [hend, hregs]; exact hmove)
    refine ⟨_, congrArg Host.Outcome.next (hgo.trans hend), fun i hi => ?_, ?_, fun q hq => ?_⟩
    · refine (bufByte_bufPut_in _ (hcount.symm ▸ hi) s).trans ?_
      simp [readBytesOf]
    · rw [hregs]
    · exact bufPut_rd hq _ (hcount.symm ▸ hlen) s
  case unreadable =>
    have hend := nvsReadEnd_unreadable hcur hqueue hread
    exact congrArg Host.Outcome.next ((powerGo_none _ (by rw [hend]; exact hmove)).trans hend)
  case write =>
    subst hp
    have hend := nvsPageWriteEnd_regWrite hcur hqueue hwear
    have hgo : powerGo (nvsPageWriteEnd (f && false) s) = nvsPageWriteEnd false s := by
      rw [Bool.and_false]
      exact powerGo_none _ (by rw [hend]; exact hmove)
    have hpage := programPage_phys (writeTarget s part page) part page (s.nextSeq part page)
      (mergeData ((s.readPage part page).getD []) off ((List.range len).map fun i => s.bufByte (off + i)))
      { s with nvs := { s.nvs with current := none } }
    refine ⟨_, congrArg Host.Outcome.next (hgo.trans hend), congrArg Phys.data hpage, congrArg Phys.part hpage,
      congrArg Phys.lpage hpage, (congrArg Phys.wear hpage).trans (Nat.min_eq_left ?_), congrArg Phys.seq hpage,
      fun q hq => programPage_phys_ne hq .., rfl⟩
    exact Nat.le_trans hwear (by decide)
  case save =>
    have hsaved := writeSave_internalWork 1 4 v { s with nvs := { s.nvs with current := none, keepCopy := none } }
    have hend := nvsSaveEnd_regSave hcur hcopy
    generalize writeSave 1 4 v { s with nvs := { s.nvs with current := none, keepCopy := none } } = w at hsaved hend
    have hinternal : State.QueueInternal { s with nvs := { s.nvs with current := none, keepCopy := none } } := by
      simp [State.QueueInternal, hqueue]
    have hgo := nvsGo_internalWork (s := endRegister true 0 0 w) (hsaved.queue hinternal)
    refine ⟨_, congrArg Host.Outcome.next hend, ?_, hgo.result_eq, hgo.keepCopy_eq.trans hsaved.keepCopy_eq,
      hgo.mem_eq.trans hsaved.mem_eq, hgo.regs_eq.trans hsaved.regs_eq, hgo.bist_eq.trans hsaved.bist_eq,
      hgo.age_eq.trans hsaved.age_eq⟩
    rw [hgo.glob_eq, ← show w.glob = s.glob from hsaved.glob_eq]
    rfl
  case retry =>
    have hnext : nextOp { s with nvs := { s.nvs with retry := false } } = some (.append k time l, []) := by
      simp [nextOp, hqueue]
    obtain ⟨n, hn, hrun, hrest, hretry⟩ := nvsKick_starts (s := { s with nvs := { s.nvs with retry := false } })
      hcur hscan hnext rfl rfl hmace s.nvs.queue.length
    exact ⟨_, congrArg Host.Outcome.next hn, hrun, hrest, hretry, rfl⟩
  case measure =>
    have hruns : (s.power.state == .run || s.power.state == .trim) = true := by simpa using hstate
    refine congrArg Host.Outcome.next (if_neg ?_)
    simp [hmeasure, hcur, hruns]
  case measured =>
    obtain ⟨hreports, hout⟩ := capMeasureEnd_reports (vhold := vhold) hmeasure hfall
    have hnvs := hreports.nvs_eq
    refine ⟨_, rfl, congrArg Nvs.capUf hnvs, congrArg Nvs.vhold hnvs, congrArg Nvs.vholdMv hnvs, congrArg Nvs.measuring hnvs,
      congrArg Nvs.lastMeasure hnvs, congrArg Nvs.availUj hnvs, hout, ?_⟩
    unfold Reports at *
    generalize capMeasureEnd vhold fall s = t at hreports ⊢
    rw [hreports]
    rfl

end Sys2Proof.Machine

/-! ## Ring commands from their engine, NOP and FENCE (O24) -/

namespace Sys2Proof.Machine

/-! ### What starting a command leaves (R70, R73, R393) -/

/-- What the engine of a command does after its work began: a command that is still outstanding has been handed to the unit that
performs it, which the journal tells (R393). -/
def State.handed (e : Nat) (j : Job) (s : State) : State :=
  if (s.jobAt j.ring j.slot).isSome then s.journal e (.handed j.ring j.slot) else s

/-- A command in the form x has joined the list, and engine e's journal is one of `l` (R70, R393). -/
def State.joined (e : Nat) (x : Job) (l : Tab (List JournalEntry)) (s : State) : State :=
  { s.took e with jobs := s.jobs ++ [x], journals := l }

@[simp] theorem State.joined_jobs (e : Nat) (x : Job) (l : Tab (List JournalEntry)) (s : State) :
    (s.joined e x l).jobs = s.jobs ++ [x] := rfl

@[simp] theorem State.joined_scan (e : Nat) (x : Job) (l : Tab (List JournalEntry)) (s : State) :
    (s.joined e x l).scan = s.scan := rfl

/-- A started command stands last in the list, and the journal knows of it. -/
theorem State.began_eq (e : Nat) (j : Job) (s : State) : ∃ l, s.began e j = s.joined e { j with stage := .running } l :=
  journal_eq ..

theorem State.handed_eq (e : Nat) (j : Job) (s : State) : ∃ l, s.handed e j = { s with journals := l } := by
  unfold State.handed
  split
  · exact journal_eq ..
  · exact ⟨s.journals, rfl⟩

theorem State.handed_joined (e : Nat) (j x : Job) (l : Tab (List JournalEntry)) (s : State) :
    ∃ l', (s.joined e x l).handed e j = s.joined e x l' :=
  State.handed_eq ..

theorem State.jobAt_eq_none {s : State} {j : Job} (h : s.Gone j) : s.jobAt j.ring j.slot = none := by
  simpa [State.jobAt] using fun x hx hr hs => h x hx ⟨hr, hs⟩

/-- A command that has left is handed to no unit. -/
theorem State.handed_gone {e : Nat} {j : Job} {s : State} (h : s.Gone j) : s.handed e j = s := by
  rw [State.handed, State.jobAt_eq_none h]
  rfl

/-- No other command has the key of one that starts. -/
theorem Starts.fresh {e op : Nat} {j : Job} {s : State} (h : Starts e op j s) : s.Gone j := by
  obtain ⟨-, -, -, -, -, hfresh⟩ := h
  exact hfresh

theorem Starts.opcode {e op : Nat} {j : Job} {s : State} (h : Starts e op j s) : j.opcode = op := by
  obtain ⟨-, hop, -⟩ := h
  exact hop

/-- A command that its state checks let start does its work (R70, R73). -/
theorem startJob_starts {e op : Nat} {j : Job} {s : State} (h : Starts e op j s) (work : Job → State → State) :
    startJob e op work s = (work j (s.began e j)).handed e j := by
  obtain ⟨hjob, hop, hcq, hstate, hlost, -⟩ := h
  have hmem : (opMemory op && (s.began e j).memLost) = false := by
    obtain ⟨l, hl⟩ := s.began_eq e j
    rw [hl]
    change (opMemory op && s.memLost) = false
    cases hm : opMemory op with
    | false => rfl
    | true => simpa using hlost hm
  unfold startJob
  simp only [hjob, hop, hcq, if_true, Bool.false_eq_true, if_false]
  change (if stateFails op j.desc (s.began e j) then _ else if (opMemory op && (s.began e j).memLost) then _ else _) = _
  rw [hmem, hstate]
  rfl

theorem Ends.gone {j : Job} {st d : Nat} {s t : State} (h : Ends j st d s t) : t.Gone j := fun x hx => (h.2.1 x hx).2

/-- A command that ends as it starts, whatever its work changed before (R70, R76). -/
theorem finishJob_ends_started (j x : Job) (st d : Nat) (u : State) (l : Tab (List JournalEntry)) (hr : x.ring = j.ring)
    (hs : x.slot = j.slot) : Ends j st d u (finishJob j st d { u with jobs := u.jobs ++ [x], journals := l }) :=
  finishJob_ends_new j x st d { u with journals := l } hr hs

/-- A started command that ends at once (R70, R76). -/
theorem startJob_finishes {e op : Nat} {j : Job} {s : State} (h : Starts e op j s) {work : Job → State → State} {st d : Nat}
    (hw : work j (s.began e j) = finishJob j st d (s.began e j)) : Ends j st d (s.took e) (startJob e op work s) := by
  obtain ⟨l, hl⟩ := s.began_eq e j
  have hends : Ends j st d (s.took e) (finishJob j st d (s.began e j)) := by
    rw [hl]
    exact finishJob_ends_started j _ st d (s.took e) l rfl rfl
  rw [startJob_starts h, hw, State.handed_gone hends.gone]
  exact hends

/-- Replacing the last command of a list, alone of its key. -/
theorem map_setJob_append {l : List Job} {x y : Job} (hr : x.ring = y.ring) (hs : x.slot = y.slot)
    (hl : ∀ z ∈ l, ¬(z.ring = y.ring ∧ z.slot = y.slot)) :
    (l ++ [x]).map (fun z => if z.ring == y.ring && z.slot == y.slot then y else z) = l ++ [y] := by
  have hkeep : l.map (fun z => if z.ring == y.ring && z.slot == y.slot then y else z) = l := by
    refine (List.map_congr_left fun z hz => ?_).trans (List.map_id l)
    simpa using fun h1 h2 => absurd ⟨h1, h2⟩ (hl z hz)
  rw [List.map_append, hkeep]
  simp [hr, hs]

/-- The last command of the list in a new form. -/
theorem State.setJob_joined {e : Nat} {x y : Job} {s : State} (hr : x.ring = y.ring) (hs : x.slot = y.slot) (hy : s.Gone y)
    (l : Tab (List JournalEntry)) : (s.joined e x l).setJob y = s.joined e y l :=
  congrArg (fun l' => { s.took e with jobs := l', journals := l }) (map_setJob_append hr hs hy)

/-- A started command in a new form is still the last of the list (R70). -/
theorem State.setJob_began {e op : Nat} {j y : Job} {s : State} (h : Starts e op j s) (hr : y.ring = j.ring)
    (hs : y.slot = j.slot) : ∃ l, (s.began e j).setJob y = s.joined e y l := by
  obtain ⟨l, hl⟩ := s.began_eq e j
  refine ⟨l, ?_⟩
  rw [hl]
  refine State.setJob_joined (x := { j with stage := .running }) hr.symm hs.symm ?_ l
  rw [State.Gone, hr, hs]
  exact h.fresh

/-- A started command that its work leaves in a new form, and nothing else. -/
theorem startJob_joins {e op : Nat} {j y : Job} {s : State} (h : Starts e op j s) {work : Job → State → State}
    (hr : y.ring = j.ring) (hs : y.slot = j.slot) (hw : work j (s.began e j) = (s.began e j).setJob y) :
    ∃ l, startJob e op work s = s.joined e y l := by
  obtain ⟨l, hl⟩ := State.setJob_began h hr hs
  rw [startJob_starts h, hw, hl]
  exact State.handed_joined ..

/-! ### FENCE (R79) -/

/-- Is a command a FENCE? -/
def Job.isFence (j : Job) : Bool := match j.stage with | .fence _ => true | _ => false

/-- Is a command anything but a FENCE? -/
def Job.isOther (j : Job) : Bool := match j.stage with | .fence _ => false | _ => true

theorem Job.isFence_eq_false {j : Job} (h : ∀ b, j.stage ≠ .fence b) : j.isFence = false := by
  unfold Job.isFence
  split
  · next b hb => exact absurd hb (h b)
  · rfl

/-- The conditions of R79 for the FENCE j of ring n. -/
def State.fenceDone (s : State) (n : Nat) (j : Job) : Bool :=
  ((s.jobs.filter fun o => o.ring == n && o.isOther).all fun o => o.stage == .parked && !bit (fld (wd j.desc 0) 15 8) 1) &&
    (!bit (fld (wd j.desc 0) 15 8) 0 || s.scan.state == .stopped || j.stage == .fence true)

/-- A FENCE has left the list, which is activity (R331). -/
def State.fenceLeft (s : State) (j : Job) : State :=
  { s with jobs := s.jobs.filter (fun x => x != j), power.activity := true }

/-- The FENCE of ring n that has reached its end leaves and completes (R79). -/
def State.fenceEnded (s : State) (n : Nat) (j : Job) : State :=
  writeCompletion n j.slot (fld (wd j.desc 0) 31 16) (fld (wd j.desc 0) 7 0) 0 0 (s.fenceLeft j)

/-- A FENCE's check looks at the ring's first FENCE and the conditions of R79. -/
theorem fenceCheck_eq (n : Nat) (s : State) : fenceCheck n s =
    (s.jobs.find? fun j => j.ring == n && j.isFence).elim s fun j => if s.fenceDone n j then s.fenceEnded n j else s := by
  unfold fenceCheck
  dsimp only
  split <;> rename_i h
  · rw [show s.jobs.find? (fun j => j.ring == n && j.isFence) = none from h]
    rfl
  · rw [show s.jobs.find? (fun j => j.ring == n && j.isFence) = some _ from h]
    rfl

/-- A check of a ring's first FENCE ends it where the conditions of R79 hold. -/
theorem fenceCheck_some {n : Nat} {s : State} {j : Job} (h : s.jobs.find? (fun j => j.ring == n && j.isFence) = some j) :
    fenceCheck n s = if s.fenceDone n j then s.fenceEnded n j else s := by
  rw [fenceCheck_eq, h]
  rfl

/-- The FENCE of a started command, judged as the only one of its ring (R79). -/
theorem runFence_began {e : Nat} {j : Job} {s : State} (h : Starts e 1 j s)
    (hl : ∀ x ∈ s.jobs, x.ring = j.ring → x.isFence = false) :
    ∃ l, runFence j (s.began e j) =
      if (s.joined e { j with stage := .fence false } l).fenceDone j.ring { j with stage := .fence false } then
        (s.joined e { j with stage := .fence false } l).fenceEnded j.ring { j with stage := .fence false }
      else s.joined e { j with stage := .fence false } l := by
  obtain ⟨l, hset⟩ := State.setJob_began h (y := { j with stage := .fence false }) rfl rfl
  refine ⟨l, ?_⟩
  rw [runFence, hset]
  refine fenceCheck_some ?_
  rw [State.joined_jobs, List.find?_append, List.find?_eq_none.mpr (by simpa using hl)]
  simp [Job.isFence]

/-- A FENCE that has to wait holds its ring (R71, R79). -/
theorem fence_waits {e : Nat} {j : Job} {s : State} (h : Starts e 1 j s) (hl : ∀ x ∈ s.jobs, x.ring = j.ring → x.isFence = false)
    (hwait : ∀ l, (s.joined e { j with stage := .fence false } l).fenceDone j.ring { j with stage := .fence false } = false) :
    ∃ t, startJob e 1 runFence s = t ∧ t.ringBlocked j.ring = true ∧
      t = { s.took e with jobs := s.jobs ++ [{ j with stage := .fence false }], journals := t.journals } := by
  obtain ⟨l, hrun⟩ := runFence_began h hl
  obtain ⟨l', hhand⟩ := s.handed_joined e j { j with stage := .fence false } l
  refine ⟨_, rfl, ?_⟩
  rw [startJob_starts h, hrun, hwait, if_neg Bool.false_ne_true, hhand]
  exact ⟨by simp [State.ringBlocked], rfl⟩

/-- The last of a list of commands, alone of its key, leaves it. -/
theorem filter_ne_last {l : List Job} {j : Job} (h : ∀ x ∈ l, ¬(x.ring = j.ring ∧ x.slot = j.slot)) :
    (l ++ [j]).filter (fun x => x != j) = l := by
  have hkeep : l.filter (fun x => x != j) = l :=
    List.filter_eq_self.mpr fun x hx => bne_iff_ne.mpr fun he => h x hx (he ▸ ⟨rfl, rfl⟩)
  rw [List.filter_append, hkeep]
  simp

/-- A FENCE that leaves as it joined. -/
theorem State.fenceLeft_joined {e : Nat} {j : Job} {s : State} (h : s.Gone j) (l : Tab (List JournalEntry)) :
    (s.joined e j l).fenceLeft j = { s.took e with journals := l } :=
  congrArg (fun l' => { s.took e with jobs := l', journals := l }) (filter_ne_last h)

/-- A FENCE alone in its ring, with no latch point to wait for, completes at once (R79). -/
theorem fence_ends {e : Nat} {j : Job} {s : State} (h : Starts e 1 j s) (halone : ∀ x ∈ s.jobs, x.ring ≠ j.ring)
    (hlatch : bit (fld (wd j.desc 0) 15 8) 0 = false) :
    Reports (s.took e) (startJob e 1 runFence s) ∧ ((s.took e).CqTakes j.ring →
      s.out ++ [(s.took e).compOut j.ring j.slot (fld (wd j.desc 0) 31 16) 1 0 0] <+: (startJob e 1 runFence s).out) := by
  obtain ⟨l, hrun⟩ := runFence_began h fun x hx hr => absurd hr (halone x hx)
  have hothers : s.jobs.filter (fun o => o.ring == j.ring && o.isOther) = [] := by
    simp only [List.filter_eq_nil_iff, Bool.and_eq_true, beq_iff_eq]
    exact fun x hx hr => halone x hx hr.1
  have hdone : (s.joined e { j with stage := .fence false } l).fenceDone j.ring { j with stage := .fence false } = true := by
    rw [State.fenceDone, State.joined_jobs, List.filter_append, hothers]
    simp [Job.isOther, hlatch]
  have hop : fld (wd j.desc 0) 7 0 = 1 := h.opcode
  rw [if_pos hdone, State.fenceEnded, State.fenceLeft_joined (j := { j with stage := .fence false }) h.fresh, hop] at hrun
  have hreports : Reports (s.took e) (runFence j (s.began e j)) := by
    rw [hrun]
    exact Reports.trans (t := { s.took e with journals := l }) rfl (writeCompletion_reports ..)
  have hgone : (runFence j (s.began e j)).Gone j := by
    rw [State.Gone, hreports.jobs_eq]
    exact h.fresh
  rw [startJob_starts h, State.handed_gone hgone]
  refine ⟨hreports, fun hcq => ?_⟩
  rw [hrun]
  exact writeCompletion_entry j.ring j.slot (fld (wd j.desc 0) 31 16) 1 0 0 { s.took e with journals := l } hcq

/-- Settles O24. NOP is the end of a command; a FENCE is judged as the last of its ring's commands. -/
theorem nopAndFenceComplete : Obligations.NopAndFenceComplete := by
  refine ⟨fun e j s h => ⟨_, rfl, startJob_finishes h rfl⟩, fun e j s h =>
    ⟨fun halone hlatch => ⟨_, rfl, fence_ends h halone hlatch⟩, fun ⟨x, hx, hring, hstage⟩ hfence => ?behind,
      fun halone hlatch hstop => ?latch⟩⟩
  case behind =>
    obtain ⟨t, ht, hheld⟩ := fence_waits h (fun y hy hr => Job.isFence_eq_false (hfence y hy hr)) fun l =>
      Bool.and_eq_false_iff.mpr (.inl (List.all_eq_false.mpr ⟨x, by simp [hx, hring, Job.isOther, hstage], by simp [hstage]⟩))
    exact ⟨t, congrArg Host.Outcome.next ht, hheld⟩
  case latch =>
    obtain ⟨t, ht, hheld⟩ := fence_waits h (fun y hy hr => absurd hr (halone y hy)) fun l => by
      simp [State.fenceDone, hlatch, hstop]
    exact ⟨t, congrArg Host.Outcome.next ht, hheld⟩

end Sys2Proof.Machine

/-! ## What the ends of commands leave; SURFACE_RETIRE and the start of LAYER_WRITE (O28, O25) -/

namespace Sys2Proof.Machine

/-! ### What the ends of commands leave of the list -/

/-- From `s` to `t` commands may have left or changed their form, but none has joined, and what has left the controller has only
grown. -/
structure Proceeds (s t : State) : Prop where
  keys : ∀ x ∈ t.jobs, ∃ y ∈ s.jobs, y.ring = x.ring ∧ y.slot = x.slot
  out : s.out <+: t.out

theorem Proceeds.refl (s : State) : Proceeds s s := ⟨fun x hx => ⟨x, hx, rfl, rfl⟩, List.prefix_rfl⟩

theorem Proceeds.trans {s t u : State} (h : Proceeds s t) (k : Proceeds t u) : Proceeds s u := by
  refine ⟨fun x hx => ?_, h.out.trans k.out⟩
  obtain ⟨y, hy, hyr, hys⟩ := k.keys x hx
  obtain ⟨z, hz, hzr, hzs⟩ := h.keys y hy
  exact ⟨z, hz, hzr.trans hyr, hzs.trans hys⟩

theorem Proceeds.forEach {α : Type} {f : α → State → State} (hf : ∀ a t, Proceeds t (f a t)) (l : List α) (s : State) :
    Proceeds s (forEach l f s) :=
  forEach_keeps (Proceeds s) l f (fun a t ht => ht.trans (hf a t)) s (.refl s)

/-- The commands stand as they did, and what has left has only grown. -/
theorem Proceeds.of_jobs_eq {s t : State} (h : t.jobs = s.jobs) (ho : s.out <+: t.out) : Proceeds s t :=
  ⟨fun x hx => ⟨x, h ▸ hx, rfl, rfl⟩, ho⟩

/-- A command that has left does not come back. -/
theorem Proceeds.gone {s t : State} {j : Job} (h : Proceeds s t) (hj : s.Gone j) : t.Gone j := by
  rintro x hx ⟨hr, hs⟩
  obtain ⟨y, hy, hyr, hys⟩ := h.keys x hx
  exact hj y hy ⟨hyr.trans hr, hys.trans hs⟩

theorem State.setJob_proceeds (j : Job) (s : State) : Proceeds s (s.setJob j) := by
  refine ⟨fun x hx => ?_, List.prefix_rfl⟩
  obtain ⟨y, hy, rfl⟩ := List.mem_map.mp hx
  refine ⟨y, hy, ?_⟩
  split
  · next h => simpa using h
  · exact ⟨rfl, rfl⟩

/-- A finished command has left the list. -/
theorem finishJob_gone (j : Job) (st d : Nat) (s : State) : (finishJob j st d s).Gone j := fun x hx => (finishJob_jobs j st d s x hx).2

theorem finishJob_out (j : Job) (st d : Nat) (s : State) : s.out <+: (finishJob j st d s).out := by
  unfold finishJob
  rw [stopCheck_out]
  refine List.IsPrefix.trans ?_ (fenceCheck_out ..)
  exact writeCompletion_out j.ring j.slot _ _ _ _
    { s with jobs := s.jobs.filter (fun x => !(x.ring == j.ring && x.slot == j.slot)), power.activity := true }

theorem finishJob_proceeds (j : Job) (st d : Nat) (s : State) : Proceeds s (finishJob j st d s) :=
  ⟨fun x hx => ⟨x, (finishJob_jobs j st d s x hx).1, rfl, rfl⟩, finishJob_out ..⟩

/-! ### LAYER_WRITE as it runs and as it is released (R80, R92) -/

/-- Outputs in turn. -/
theorem forEach_emit {α : Type} (l : List α) (f : α → Output) (s : State) :
    forEach l (fun a st => st.emit (f a)) s = { s with out := s.out ++ l.map f } := by
  induction l generalizing s with
  | nil => simp
  | cons a l ih => rw [forEach_cons, ih]; simp [State.emit]

/-- The source rows that a LAYER_WRITE reads from the host (R80). -/
def Job.sourceReads (j : Job) : List Output :=
  (List.range (wd j.desc 7)).map fun r => .hostRead (wd64 j.desc 2 + r * wd j.desc 8) (wd j.desc 6)

/-- A request for every channel changes the memory controller alone. -/
theorem memRequestAll_eq (cls group who : Nat) (s : State) :
    memRequestAll cls group who s = { s with memc := (memRequestAll cls group who s).memc } :=
  forEach_keeps (fun t : State => t = { s with memc := t.memc }) _ _ (fun i t ht => by rw [ht]; rfl) _ rfl

/-- A LAYER_WRITE that begins to run (R31, R80, R114). -/
theorem runWrite_eq (j : Job) (s : State) : ∃ m p, runWrite j s =
    { s.setJob { j with stage := .running } with
      out := s.out ++ j.sourceReads, memc := m, scan := { s.scan with changed := true }, pipes := p } := by
  unfold runWrite writeReads
  rw [forEach_emit, noteChange_eq, memRequestAll_eq]
  exact ⟨_, _, rfl⟩

theorem runWrite_proceeds (j : Job) (s : State) : Proceeds s (runWrite j s) := by
  obtain ⟨m, p, h⟩ := runWrite_eq j s
  rw [h]
  exact (State.setJob_proceeds ..).trans (.of_jobs_eq rfl (List.prefix_append ..))

theorem runReleased_proceeds (fuel : Nat) (s : State) : Proceeds s (runReleased fuel s) := by
  induction fuel generalizing s with
  | zero => exact .refl s
  | succ fuel ih =>
    unfold runReleased
    dsimp only
    split
    · exact .refl s
    · exact (runWrite_proceeds ..).trans (ih _)

/-- Where no write is parked none is released. -/
theorem runReleased_idle {s : State} (h : ∀ x ∈ s.jobs, x.stage ≠ .parked) (fuel : Nat) : runReleased fuel s = s := by
  cases fuel with
  | zero => rfl
  | succ fuel =>
    unfold runReleased
    dsimp only
    split
    · rfl
    · next j hfind =>
      have hfound := List.find?_some hfind
      simp only [Bool.and_eq_true, beq_iff_eq] at hfound
      obtain ⟨⟨hstage, -⟩, -⟩ := hfound
      exact absurd hstage (h j (List.mem_of_find?_eq_some hfind))

/-! ### SURFACE_RETIRE (R82, R92) -/

/-- The parked writes whose destination meets the range of SURFACE_RETIRE j are released (R92). -/
def State.releasedBy (s : State) (j : Job) : State :=
  { s with jobs := s.jobs.map fun o =>
      if o.stage == .parked && rangesMeet o.dst.1 o.dst.2 (wd64 j.desc 4) (wd64 j.desc 6) then { o with aux := 1 } else o }

theorem retireOne_referenced {j : Job} {s : State} (h : s.references (wd64 j.desc 4) (wd64 j.desc 6) = true) (d : Nat) :
    retireOne d j s = s :=
  if_pos h

theorem retireOne_unreferenced {j : Job} {s : State} (h : s.references (wd64 j.desc 4) (wd64 j.desc 6) = false) (d : Nat) :
    retireOne d j s = runReleased (finishJob j 0 d (s.releasedBy j)).jobs.length (finishJob j 0 d (s.releasedBy j)) :=
  if_neg (by rw [h]; exact Bool.false_ne_true)

theorem State.releasedBy_proceeds (s : State) (j : Job) : Proceeds s (s.releasedBy j) := by
  refine ⟨fun x hx => ?_, List.prefix_rfl⟩
  obtain ⟨y, hy, rfl⟩ := List.mem_map.mp hx
  refine ⟨y, hy, ?_⟩
  split <;> exact ⟨rfl, rfl⟩

/-- Where no write is parked none is released. -/
theorem State.releasedBy_idle {s : State} (h : ∀ x ∈ s.jobs, x.stage ≠ .parked) (j : Job) : s.releasedBy j = s := by
  have hkeep : s.jobs.map (fun o =>
      if o.stage == .parked && rangesMeet o.dst.1 o.dst.2 (wd64 j.desc 4) (wd64 j.desc 6) then { o with aux := 1 } else o) =
      s.jobs := by
    refine (List.map_congr_left fun x hx => ?_).trans (List.map_id _)
    simp [h x hx]
  exact congrArg (fun l => { s with jobs := l }) hkeep

theorem retireOne_proceeds (d : Nat) (j : Job) (s : State) : Proceeds s (retireOne d j s) := by
  cases h : s.references (wd64 j.desc 4) (wd64 j.desc 6) with
  | true => rw [retireOne_referenced h]; exact .refl s
  | false =>
    rw [retireOne_unreferenced h]
    exact ((s.releasedBy_proceeds j).trans (finishJob_proceeds ..)).trans (runReleased_proceeds ..)

theorem retireCheck_proceeds (d : Nat) (s : State) : Proceeds s (retireCheck d s) :=
  .forEach (retireOne_proceeds d) _ s

/-- The writes that are still parked at the end were parked before, in the same form: what runs is parked no more. -/
def ParkedFrom (s t : State) : Prop := ∀ x ∈ t.jobs, x.stage = .parked → x ∈ s.jobs

theorem ParkedFrom.trans {s t u : State} (h : ParkedFrom s t) (k : ParkedFrom t u) : ParkedFrom s u :=
  fun x hx hp => h x (k x hx hp) hp

theorem runWrite_parkedFrom (j : Job) (s : State) : ParkedFrom s (runWrite j s) := by
  obtain ⟨m, p, h⟩ := runWrite_eq j s
  rw [h]
  intro x hx hp
  obtain ⟨y, hy, rfl⟩ := List.mem_map.mp hx
  split at hp
  · cases hp
  · next hkey => rwa [if_neg hkey]

theorem runReleased_parkedFrom (fuel : Nat) (s : State) : ParkedFrom s (runReleased fuel s) := by
  induction fuel generalizing s with
  | zero => exact fun x hx _ => hx
  | succ fuel ih =>
    unfold runReleased
    dsimp only
    split
    · exact fun x hx _ => hx
    · exact (runWrite_parkedFrom _ _).trans (ih _)

theorem finishJob_parkedFrom (j : Job) (st d : Nat) (s : State) : ParkedFrom s (finishJob j st d s) :=
  fun x hx _ => (finishJob_jobs j st d s x hx).1

/-- A parked write that a SURFACE_RETIRE releases and that does not run yet is marked as released (R92). -/
theorem retireOne_released {j : Job} {s : State} (h : s.references (wd64 j.desc 4) (wd64 j.desc 6) = false) (d : Nat) :
    ∀ x ∈ (retireOne d j s).jobs, x.stage = .parked →
      rangesMeet x.dst.1 x.dst.2 (wd64 j.desc 4) (wd64 j.desc 6) = true → x.aux = 1 := by
  rw [retireOne_unreferenced h]
  intro x hx hp hmeet
  have hfrom := ((finishJob_parkedFrom j 0 d (s.releasedBy j)).trans (runReleased_parkedFrom _ _)) x hx hp
  obtain ⟨y, hy, rfl⟩ := List.mem_map.mp hfrom
  split at hmeet
  · next hc => rw [if_pos hc]
  · next hc => rw [if_neg hc] at hp; exact absurd (by simp [hp, hmeet]) hc

/-- A SURFACE_RETIRE whose range nothing references completes first, before what it releases runs (R82). -/
theorem retireOne_entry {j : Job} {s : State} (h : s.references (wd64 j.desc 4) (wd64 j.desc 6) = false) (d : Nat)
    (hcq : s.CqTakes j.ring) :
    s.out ++ [s.compOut j.ring j.slot (fld (wd j.desc 0) 31 16) j.opcode 0 d] <+: (retireOne d j s).out := by
  rw [retireOne_unreferenced h]
  obtain ⟨-, -, -, hentry⟩ := finishJob_ends j 0 d (s.releasedBy j)
  exact (hentry hcq).trans (runReleased_proceeds ..).out

theorem retireOne_gone {j : Job} {s : State} (h : s.references (wd64 j.desc 4) (wd64 j.desc 6) = false) (d : Nat) :
    (retireOne d j s).Gone j := by
  rw [retireOne_unreferenced h]
  exact (runReleased_proceeds ..).gone (finishJob_gone _ _ _ _)

/-- Where no write is parked a SURFACE_RETIRE that completes does nothing more (R82). -/
theorem retireOne_unparked {j : Job} {s : State} (h : s.references (wd64 j.desc 4) (wd64 j.desc 6) = false)
    (hp : ∀ x ∈ s.jobs, x.stage ≠ .parked) (d : Nat) : retireOne d j s = finishJob j 0 d s := by
  rw [retireOne_unreferenced h, State.releasedBy_idle hp]
  exact runReleased_idle (fun x hx => hp x (finishJob_jobs j 0 d s x hx).1) _

/-- What a command that starts changes is ring work. -/
theorem State.joined_ringWork (e : Nat) (x : Job) (l : Tab (List JournalEntry)) (s : State) : RingWork s (s.joined e x l) := rfl

@[simp] theorem State.joined_references (e : Nat) (x : Job) (l : Tab (List JournalEntry)) (s : State) (a n : Nat) :
    (s.joined e x l).references a n = s.references a n := rfl

@[simp] theorem State.joined_ringSpan (e : Nat) (x : Job) (l : Tab (List JournalEntry)) (s : State) (n : Nat) :
    (s.joined e x l).ringSpan n = s.ringSpan n := rfl

/-- Settles O28, from the two outcomes of a SURFACE_RETIRE's decision. -/
theorem surfaceRetireWaits : Obligations.SurfaceRetireWaits := by
  intro e j s h
  obtain ⟨l, hset⟩ := State.setJob_began h (y := { j with stage := .retiring }) rfl rfl
  refine ⟨fun href => ?_, fun href => ?_⟩
  · obtain ⟨l', hl'⟩ := startJob_joins h (work := runRetire) (y := { j with stage := .retiring }) rfl rfl
      (by rw [runRetire, hset, retireOne_referenced (by rw [State.joined_references, href])])
    exact ⟨s.joined e { j with stage := .retiring } l', congrArg Host.Outcome.next hl', rfl⟩
  · generalize hu : s.joined e { j with stage := .retiring } l = u at hset
    have hrefu : u.references (wd64 j.desc 4) (wd64 j.desc 6) = false := by rw [← hu, State.joined_references, href]
    have hstart : startJob e 4 runRetire s = retireOne 0 j u := by
      rw [startJob_starts h, runRetire, hset, State.handed_gone (retireOne_gone hrefu 0)]
    refine ⟨_, congrArg Host.Outcome.next hstart, retireOne_gone hrefu 0, ?_, ?_, fun hp => ?_, retireOne_released hrefu 0⟩
    · exact (hu ▸ s.joined_ringWork e _ l).trans (retireOne_ringWork ..)
    · rw [← h.opcode]
      subst hu
      exact retireOne_entry hrefu 0
    · rw [retireOne_unparked hrefu (by rw [← hu, State.joined_jobs, List.forall_mem_append]; exact ⟨hp, by simp⟩), ← hu]
      exact finishJob_ends_started j { j with stage := .retiring } 0 0 (s.took e) l rfl rfl

/-! ### LAYER_WRITE starts (R80, R91, R93) -/

/-- A command in its new form at the end of the list, where it stood. -/
theorem State.moveLast_joined {e : Nat} {x y : Job} {s : State} (hr : x.ring = y.ring) (hs : x.slot = y.slot) (hy : s.Gone y)
    (l : Tab (List JournalEntry)) : (s.joined e x l).moveLast y = s.joined e y l := by
  have hkeep : (s.jobs ++ [x]).filter (fun z => !(z.ring == y.ring && z.slot == y.slot)) = s.jobs := by
    have hold : s.jobs.filter (fun z => !(z.ring == y.ring && z.slot == y.slot)) = s.jobs :=
      List.filter_eq_self.mpr fun z hz => by simpa [← not_and_or] using hy z hz
    rw [List.filter_append, hold]
    simp [hr, hs]
  exact congrArg (fun l' => { s.took e with jobs := l' ++ [y], journals := l }) hkeep

/-- A command that is not parked takes no parking slot. -/
theorem State.joined_parked {e : Nat} {x : Job} {s : State} (hx : x.stage ≠ .parked) (l : Tab (List JournalEntry)) (sp : Nat) :
    (s.joined e x l).parked sp = s.parked sp := by
  have hspan : ∀ n, (s.joined e x l).ringSpan n = s.ringSpan n := fun _ => rfl
  simp [State.parked, hspan, List.filter_append, hx]

theorem runLayerWrite_empty {j : Job} (h : j.dst.2 = 0) (s : State) : runLayerWrite j s = finishJob j 0 0 s := if_pos h

theorem runLayerWrite_free {j : Job} {s : State} (h : j.dst.2 ≠ 0) (href : s.references j.dst.1 j.dst.2 = false) :
    runLayerWrite j s = runWrite j s := by
  have hfree : (!s.references j.dst.1 j.dst.2) = true := by rw [href]; rfl
  exact (if_neg h).trans (if_pos hfree)

/-- The further choices of R91 and R93, for a destination that is referenced. -/
theorem runLayerWrite_referenced {j : Job} {s : State} (h : j.dst.2 ≠ 0) (href : s.references j.dst.1 j.dst.2 = true) :
    runLayerWrite j s = if bit (fld (wd j.desc 0) 15 8) 0 then finishJob j 2 0 s
      else if s.parked (s.ringSpan j.ring) < 64 then fenceCheck j.ring (s.moveLast { j with stage := .parked, aux := 0 })
      else s.setJob { j with stage := .stalled } := by
  have hheld : ¬(!s.references j.dst.1 j.dst.2) = true := by rw [href]; exact Bool.false_ne_true
  exact (if_neg h).trans (if_neg hheld)

/-- A FENCE's check leaves what is no FENCE in the list. -/
theorem fenceCheck_keeps {n : Nat} {s : State} {x : Job} (hx : x ∈ s.jobs) (hf : x.isFence = false) : x ∈ (fenceCheck n s).jobs := by
  rw [fenceCheck_eq]
  cases hfind : s.jobs.find? fun j => j.ring == n && j.isFence with
  | none => exact hx
  | some j =>
    have hj := List.find?_some hfind
    simp only [Bool.and_eq_true] at hj
    have hne : x ≠ j := fun he => by rw [he, hj.2] at hf; cases hf
    simp only [Option.elim]
    split
    · rw [State.fenceEnded, writeCompletion_jobs]
      exact List.mem_filter.mpr ⟨hx, bne_iff_ne.mpr hne⟩
    · exact hx

/-- Settles O25, by the branches of LAYER_WRITE's start. -/
theorem layerWriteStarts : Obligations.LayerWriteStarts := by
  intro e j s h
  obtain ⟨l, hbegan⟩ := s.began_eq e j
  have hrefs : (s.began e j).references j.dst.1 j.dst.2 = s.references j.dst.1 j.dst.2 := by
    rw [hbegan, State.joined_references]
  have hparked : (s.began e j).parked ((s.began e j).ringSpan j.ring) = s.parked (s.ringSpan j.ring) := by
    rw [hbegan, State.joined_ringSpan, State.joined_parked (by simp)]
  refine ⟨fun h0 => ⟨_, rfl, startJob_finishes h (runLayerWrite_empty h0 _)⟩, fun h0 href => ?runs,
    fun h0 href hflag => ⟨_, rfl, startJob_finishes h ?_⟩, fun h0 href hflag hfree => ?parks, fun h0 href hflag hfull => ?stalls⟩
  case runs =>
    obtain ⟨m, p, hrun⟩ := runWrite_eq j (s.began e j)
    obtain ⟨l', hset⟩ := State.setJob_began h (y := { j with stage := .running }) rfl rfl
    rw [hset, hbegan] at hrun
    obtain ⟨l'', hhand⟩ := State.handed_eq e j (runWrite j (s.began e j))
    have hstart := startJob_starts h runLayerWrite
    rw [runLayerWrite_free h0 (hrefs.trans href), hhand, hbegan, hrun] at hstart
    exact ⟨_, congrArg Host.Outcome.next hstart, rfl, rfl, rfl⟩
  case parks =>
    have hwork := runLayerWrite_referenced h0 (hrefs.trans href)
    rw [hflag, if_neg Bool.false_ne_true, hparked, if_pos hfree, hbegan,
      State.moveLast_joined (x := { j with stage := .running }) (y := { j with stage := .parked, aux := 0 }) rfl rfl h.fresh] at hwork
    obtain ⟨l', hhand⟩ := State.handed_eq e j (runLayerWrite j (s.began e j))
    have hstart := startJob_starts h runLayerWrite
    rw [hhand, hbegan, hwork] at hstart
    refine ⟨_, congrArg Host.Outcome.next hstart, ?_, ?_⟩
    · exact fenceCheck_keeps (List.mem_append_right _ (List.mem_singleton_self _)) rfl
    · exact ((Completes.trans (t := s.joined e { j with stage := .parked, aux := 0 } l) rfl (fenceCheck_completes ..)).trans rfl)
  case stalls =>
    have hwork := runLayerWrite_referenced h0 (hrefs.trans href)
    rw [hflag, if_neg Bool.false_ne_true, hparked, if_neg (Nat.not_lt.mpr hfull)] at hwork
    obtain ⟨l', hstart⟩ := startJob_joins h (work := runLayerWrite) (y := { j with stage := .stalled }) rfl rfl hwork
    exact ⟨_, congrArg Host.Outcome.next hstart, by simp [State.ringStalled], rfl⟩
  · rw [runLayerWrite_referenced h0 (hrefs.trans href), if_pos hflag]

end Sys2Proof.Machine

/-! ## LAYER_BIND (O27) -/

namespace Sys2Proof.Machine

/-! ### LAYER_BIND (R81, R126) -/

/-- What every round of a `forEach` keeps for the members of its list, the whole keeps. -/
theorem forEach_keeps_mem {β σ : Type} (P : σ → Prop) (l : List β) (f : β → σ → σ) (h : ∀ a ∈ l, ∀ s, P s → P (f a s)) (s : σ)
    (hs : P s) : P (forEach l f s) := by
  induction l generalizing s with
  | nil => exact hs
  | cons a l ih => exact ih (fun b hb => h b (List.mem_cons_of_mem _ hb)) _ (h a List.mem_cons_self s hs)

/-- Completions repeated over a list. -/
theorem Completes.forEach {α : Type} {f : α → State → State} (hf : ∀ a t, Completes t (f a t)) (l : List α) (s : State) :
    Completes s (forEach l f s) :=
  forEach_keeps (Completes s) l f (fun a t ht => ht.trans (hf a t)) s rfl

/-- The end of a command leaves every command of another key that is no FENCE. -/
theorem finishJob_keeps {j x : Job} {s : State} (hx : x ∈ s.jobs) (hkey : ¬(x.ring = j.ring ∧ x.slot = j.slot))
    (hf : x.isFence = false) (st d : Nat) : x ∈ (finishJob j st d s).jobs := by
  unfold finishJob
  rw [stopCheck_reports]
  refine fenceCheck_keeps ?_ hf
  rw [writeCompletion_jobs]
  exact List.mem_filter.mpr ⟨hx, by simpa [← not_and_or] using hkey⟩

/-- The binds of a list of commands that a LAYER_BIND with word 2 of `d` replaces (R81). -/
def bindsOf (d : List Nat) (l : List Job) : List Job := l.filter fun o => o.stage == .binding && wd o.desc 2 == wd d 2

/-- The earlier binds of j's layer are aborted (R81). -/
def abortBinds (j : Job) (s : State) : State := forEach (bindsOf j.desc s.jobs) (fun o st => finishJob o 6 0 st) s

theorem runBind_running {j : Job} {s : State} (h : s.scan.state ≠ .stopped) :
    runBind j s = (abortBinds j s).setJob { j with stage := .binding } := by
  have hscan : ((abortBinds j s).setJob { j with stage := .binding }).scan = s.scan := by
    have habort : Completes s (abortBinds j s) := .forEach (fun o t => finishJob_completes o 6 0 t) _ s
    rw [State.setJob, habort]
  rw [← hscan] at h
  exact if_neg h

theorem bindsOf_joined {j x : Job} (hx : x.stage ≠ .binding) (l : List Job) : bindsOf j.desc (l ++ [x]) = bindsOf j.desc l := by
  simp [bindsOf, List.filter_append, hx]

theorem bindsOf_none {l : List Job} (h : ∀ x ∈ l, x.stage ≠ .binding) (d : List Nat) : bindsOf d l = [] := by
  simpa [bindsOf] using fun x hx hb => absurd hb (h x hx)

theorem mem_bindsOf {d : List Nat} {l : List Job} {o : Job} (ho : o ∈ l) (hb : o.stage = .binding) (hw : wd o.desc 2 = wd d 2) :
    o ∈ bindsOf d l :=
  List.mem_filter.mpr ⟨ho, by simp [hb, hw]⟩

/-- A LAYER_BIND that waits for a latch point (R81): it stands in the list, and the binds that it replaces have left. -/
theorem layerBind_waits {e : Nat} {j : Job} {s : State} (h : Starts e 3 j s) (hscan : s.scan.state ≠ .stopped) :
    ∃ t, startJob e 3 runBind s = t ∧ { j with stage := .binding } ∈ t.jobs ∧ (∀ o ∈ bindsOf j.desc s.jobs, t.Gone o) ∧
      Completes (s.took e) t ∧ ∀ o, bindsOf j.desc s.jobs = [o] → (s.took e).CqTakes o.ring →
        s.out ++ [(s.took e).compOut o.ring o.slot (fld (wd o.desc 0) 31 16) o.opcode 6 0] <+: t.out := by
  obtain ⟨l, hbegan⟩ := s.began_eq e j
  generalize hu : s.joined e { j with stage := .running } l = u at hbegan
  have hold : bindsOf j.desc u.jobs = bindsOf j.desc s.jobs := by rw [← hu]; exact bindsOf_joined (by simp) _
  have hwork : runBind j (s.began e j) = (abortBinds j u).setJob { j with stage := .binding } := by
    rw [hbegan]
    exact runBind_running (by rw [← hu]; exact hscan)
  obtain ⟨l', hhand⟩ := State.handed_eq e j ((abortBinds j u).setJob { j with stage := .binding })
  have hstart := startJob_starts h runBind
  rw [hwork, hhand] at hstart
  have hin : { j with stage := .running } ∈ (abortBinds j u).jobs := by
    refine forEach_keeps_mem (fun t : State => { j with stage := .running } ∈ t.jobs) _ _ (fun o ho t ht => ?_) u (by simp [← hu])
    rw [hold] at ho
    exact finishJob_keeps ht (fun hkey => h.fresh o (List.mem_filter.mp ho).1 ⟨hkey.1.symm, hkey.2.symm⟩) rfl 6 0
  refine ⟨_, hstart, ?_, fun o ho => ?_, ?_, fun o ho hcq => ?_⟩
  · exact List.mem_map.mpr ⟨_, hin, by simp⟩
  · have hgone : (abortBinds j u).Gone o :=
      forEach_reaches (fun o (t : State) => t.Gone o) _ _ (fun o t => finishJob_gone o 6 0 t)
        (fun a o t ht => (finishJob_proceeds a 6 0 t).gone ht) u o (hold ▸ ho)
    exact (State.setJob_proceeds ..).gone hgone
  · have habort : Completes u (abortBinds j u) := .forEach (fun o t => finishJob_completes o 6 0 t) _ u
    have hjoin : Completes (s.took e) u := by rw [← hu]; rfl
    exact (hjoin.trans habort).trans rfl
  · obtain ⟨-, -, -, hentry⟩ := finishJob_ends o 6 0 u
    have habort : abortBinds j u = finishJob o 6 0 u := by rw [abortBinds, hold, ho]; rfl
    rw [← hu] at hentry
    rw [habort, ← hu]
    exact hentry hcq

/-- Layer `n` takes a surface (R81). -/
def State.setLayer (n : Nat) (u : Surface) (s : State) : State := { s with layers := Tab.put {} n u s.layers }

/-- While STOPPED a bind that replaces none applies and completes, and waiting surfaces are looked at (R81, R82, R126). -/
theorem runBind_stopped {j : Job} {e : Nat} {s : State} (h : s.scan.state = .stopped) (hfresh : s.Gone j)
    (hnone : ∀ x ∈ s.jobs, x.stage ≠ .binding) (l : Tab (List JournalEntry)) :
    runBind j (s.joined e { j with stage := .running } l) =
      retireCheck 0 (finishJob j 0 0
        ((s.joined e { j with stage := .binding } l).setLayer (fld (wd j.desc 2) 5 0) (descSurface j.desc 3))) := by
  have hold : bindsOf j.desc (s.jobs ++ [{ j with stage := .running }]) = [] := by
    rw [bindsOf_joined (by simp), bindsOf_none hnone]
  have habort : abortBinds j (s.joined e { j with stage := .running } l) = s.joined e { j with stage := .running } l := by
    rw [abortBinds, State.joined_jobs, hold, forEach_nil]
  have hset : (abortBinds j (s.joined e { j with stage := .running } l)).setJob { j with stage := .binding } =
      s.joined e { j with stage := .binding } l := by
    rw [habort]
    exact State.setJob_joined (x := { j with stage := .running }) (y := { j with stage := .binding }) rfl rfl hfresh l
  have hbinds : (s.jobs ++ [{ j with stage := .binding }]).filter (fun x => x.stage == Stage.binding) =
      [{ j with stage := .binding }] := by
    have hkeep : s.jobs.filter (fun x => x.stage == .binding) = [] := by simpa using hnone
    rw [List.filter_append, hkeep]
    rfl
  have happly : applyBinds 0 (s.joined e { j with stage := .binding } l) = finishJob j 0 0
      ((s.joined e { j with stage := .binding } l).setLayer (fld (wd j.desc 2) 5 0) (descSurface j.desc 3)) := by
    rw [applyBinds, State.joined_jobs, hbinds]
    rfl
  have hscan : ((abortBinds j (s.joined e { j with stage := .running } l)).setJob { j with stage := .binding }).scan.state =
      .stopped := by rw [hset]; exact h
  rw [← happly, ← hset]
  exact if_pos hscan

/-- A LAYER_BIND that applies at once (R81, R126). -/
theorem layerBind_applies {e : Nat} {j : Job} {s : State} (h : Starts e 3 j s) (hscan : s.scan.state = .stopped)
    (hnone : ∀ x ∈ s.jobs, x.stage ≠ .binding) :
    ∃ t, startJob e 3 runBind s = t ∧
      t.layers = Tab.put {} (fld (wd j.desc 2) 5 0) (descSurface j.desc 3) s.layers ∧ t.Gone j ∧
      ((s.took e).CqTakes j.ring →
        s.out ++ [(s.took e).compOut j.ring j.slot (fld (wd j.desc 0) 31 16) 3 0 0] <+: t.out) ∧
      RingWork { s with layers := t.layers } t ∧
      ((∀ x ∈ s.jobs, x.stage ≠ .retiring) → Ends j 0 0 { s.took e with layers := t.layers } t) := by
  obtain ⟨l, hbegan⟩ := s.began_eq e j
  have hwork := runBind_stopped (e := e) hscan h.fresh hnone l
  rw [← hbegan] at hwork
  have hends : Ends j 0 0 ((s.took e).setLayer (fld (wd j.desc 2) 5 0) (descSurface j.desc 3)) (finishJob j 0 0
      ((s.joined e { j with stage := .binding } l).setLayer (fld (wd j.desc 2) 5 0) (descSurface j.desc 3))) :=
    finishJob_ends_started j { j with stage := .binding } 0 0
      ((s.took e).setLayer (fld (wd j.desc 2) 5 0) (descSurface j.desc 3)) l rfl rfl
  generalize finishJob j 0 0 ((s.joined e { j with stage := .binding } l).setLayer (fld (wd j.desc 2) 5 0)
    (descSurface j.desc 3)) = v at hends hwork
  have hretire := retireCheck_ringWork 0 v
  have hproceeds := retireCheck_proceeds 0 v
  obtain ⟨hcompletes, hjobs, -, hentry⟩ := id hends
  have hlayers : v.layers = Tab.put {} (fld (wd j.desc 2) 5 0) (descSurface j.desc 3) s.layers := by
    rw [hcompletes]
    rfl
  have hfinal : (retireCheck 0 v).layers = v.layers := by rw [hretire]
  have hgone := hproceeds.gone hends.gone
  have hstart := startJob_starts h runBind
  rw [hwork, State.handed_gone hgone] at hstart
  rw [h.opcode] at hentry
  refine ⟨_, hstart, hfinal.trans hlayers, hgone, fun hcq => (hentry hcq).trans hproceeds.out, ?_, fun hidle => ?_⟩
  · rw [hfinal, hlayers]
    exact (RingWork.trans (t := (s.took e).setLayer _ _) rfl hcompletes.ringWork).trans hretire
  · have hsame : retireCheck 0 v = v := retireCheck_idle (fun x hx => hidle x (hjobs x hx).1) 0
    rw [hsame, hlayers]
    exact hends

/-- Settles O27: while STOPPED the bind applies, otherwise it waits. -/
theorem layerBindBinds : Obligations.LayerBindBinds := by
  refine fun e j s h => ⟨fun hscan hnone => ?_, fun hscan => ?_⟩
  · obtain ⟨t, ht, hlayers, hgone, hentry, hwork, hends⟩ := layerBind_applies h hscan hnone
    refine ⟨t, congrArg Host.Outcome.next ht, ?_, fun n hn => ?_, hgone, hentry, hwork, hends⟩
    · rw [State.layer, hlayers, Tab.get_put_same]
    · rw [State.layer, hlayers, Tab.get_put_ne _ _ _ _ _ _ hn]
      rfl
  · obtain ⟨t, ht, hin, hgone, hcompletes, hentry⟩ := layerBind_waits h hscan
    exact ⟨t, congrArg Host.Outcome.next ht, hin, fun o ho hb hw => hgone o (mem_bindsOf ho hb hw), hcompletes, hentry⟩

end Sys2Proof.Machine

/-! ## The copy of a LAYER_WRITE (O26) -/

namespace Sys2Proof.Machine

/-! ### LAYER_WRITE ends (R77, R80) -/

/-- Rows written one after another, p bytes apart. -/
def putRows (a p : Nat) (row : Nat → List Nat) (n : Nat) (m : List Host.Cell) : List Host.Cell :=
  forEach (List.range n) (fun r m => Mem.puts (a + r * p) (row r) m) m

theorem putRows_succ (a p : Nat) (row : Nat → List Nat) (n : Nat) (m : List Host.Cell) :
    putRows a p row (n + 1) m = Mem.puts (a + n * p) (row n) (putRows a p row n m) := by
  simp [putRows, forEach, List.range_succ]

theorem putRows_wf (a p : Nat) (row : Nat → List Nat) (n : Nat) {m : List Host.Cell} (h : Mem.wf m = true) :
    Mem.wf (putRows a p row n m) = true :=
  forEach_keeps (fun m => Mem.wf m = true) _ _ (fun _ m hm => Mem.wf_puts _ _ m hm) m h

/-- Rows of at most b bytes that do not overlap read back as written. -/
theorem byte_putRows_in {a p b n : Nat} {row : Nat → List Nat} (hlen : ∀ r, (row r).length ≤ b) (hp : n ≤ 1 ∨ b ≤ p)
    (m : List Host.Cell) : ∀ r < n, ∀ i (hi : i < (row r).length),
      Mem.byte (putRows a p row n m) (a + r * p + i) = (row r)[i] % 256 := by
  induction n with
  | zero => nofun
  | succ n ih =>
    intro r hr i hi
    rw [putRows_succ]
    rcases Nat.lt_succ_iff_lt_or_eq.mp hr with hlt | rfl
    · have hbelow : a + r * p + i < a + n * p := by
        have hrow := hlen r
        have hstep : (r + 1) * p ≤ n * p := Nat.mul_le_mul_right p hlt
        have hsplit : (r + 1) * p = r * p + p := Nat.succ_mul r p
        omega
      rw [Mem.byte_puts_out _ _ _ _ (.inl hbelow)]
      exact ih (by omega) r hlt i hi
    · exact Mem.byte_puts_in _ _ _ _ hi

/-- A byte of no row stays as it was. -/
theorem byte_putRows_out {a p n x : Nat} {row : Nat → List Nat}
    (hx : ∀ r < n, ∀ i < (row r).length, x ≠ a + r * p + i) (m : List Host.Cell) :
    Mem.byte (putRows a p row n m) x = Mem.byte m x := by
  refine forEach_keeps_mem (fun m' => Mem.byte m' x = Mem.byte m x) _ _ (fun r hr m' hm' => ?_) m rfl
  rw [← hm']
  refine Mem.byte_puts_out _ _ _ _ ?_
  by_contra hin
  exact hx r (List.mem_range.mp hr) (x - (a + r * p)) (by omega) (by omega)

/-- Row r of b bytes of the first h bytes that were read. -/
def rowBytes (data : List Nat) (h b r : Nat) : List Nat := ((data.take h).drop (r * b)).take b

theorem rowBytes_length (data : List Nat) (h b r : Nat) : (rowBytes data h b r).length = min b (min h data.length - r * b) := by
  simp [rowBytes]

theorem rowBytes_getElem {data : List Nat} {h b r i : Nat} (hi : i < (rowBytes data h b r).length) :
    (rowBytes data h b r)[i] = data.getD (r * b + i) 0 := by
  have hlen := rowBytes_length data h b r
  have hk : r * b + i < data.length := by omega
  simp [rowBytes, hk]

/-- The copy of a LAYER_WRITE of `h` bytes in rows of b bytes, p apart from a (R80). -/
def copyRows (a p b h : Nat) (data : List Nat) (m : List Host.Cell) : List Host.Cell :=
  putRows a p (rowBytes data h b) (divUp h b) m

theorem lt_divUp_iff {h b r : Nat} (hb : 0 < b) : r < divUp h b ↔ r * b < h := by
  rw [divUp, ← Nat.succ_le_iff, Nat.le_div_iff_mul_le hb, Nat.succ_mul]
  omega

theorem divUp_le {h b n : Nat} (hb : 0 < b) (hn : h ≤ n * b) : divUp h b ≤ n := by
  by_contra hlt
  have := (lt_divUp_iff hb).mp (Nat.not_le.mp hlt)
  omega

/-- Byte k of what was read stands at its place in row k / b. -/
theorem byte_copyRows_in {a p b h k n : Nat} {data : List Nat} (hb : 0 < b) (hn : h ≤ n * b) (hp : n ≤ 1 ∨ b ≤ p) (hk : k < h)
    (hd : k < data.length) (m : List Host.Cell) :
    Mem.byte (copyRows a p b h data m) (a + k / b * p + k % b) = data.getD k 0 % 256 := by
  have hmod := Nat.mod_lt k hb
  have hdiv : k / b * b + k % b = k := Nat.div_add_mod' k b
  have hrow := rowBytes_length data h b (k / b)
  have hi : k % b < (rowBytes data h b (k / b)).length := by omega
  have hshort := divUp_le hb hn
  have hin := byte_putRows_in (a := a) (p := p) (b := b) (n := divUp h b) (row := rowBytes data h b)
    (fun r => by have := rowBytes_length data h b r; omega) (by omega) m (k / b) ((lt_divUp_iff hb).mpr (by omega)) (k % b) hi
  rw [copyRows, hin, rowBytes_getElem, hdiv]

/-- Every other byte stays as it was. -/
theorem byte_copyRows_out {a p b h x : Nat} {data : List Nat} (hb : 0 < b)
    (hx : ∀ k, k < data.length → k < h → x ≠ a + k / b * p + k % b) (m : List Host.Cell) :
    Mem.byte (copyRows a p b h data m) x = Mem.byte m x := by
  refine byte_putRows_out (fun r hr i hi => ?_) m
  have hlen := rowBytes_length data h b r
  have hib : i < b := by omega
  have hne := hx (r * b + i) (by omega) (by omega)
  rwa [Nat.mul_comm r b, Nat.mul_add_div hb, Nat.div_eq_of_lt hib, Nat.mul_add_mod, Nat.mod_eq_of_lt hib] at hne

/-- The bytes of a LAYER_WRITE's destination that `data` fills (R80). -/
def Job.filled (j : Job) (data : List Nat) : Nat := min data.length (wd j.desc 7 * wd j.desc 6)

/-- A finished LAYER_WRITE has copied its rows, and noted it (R80, R114). -/
def State.copied (s : State) (j : Job) (data : List Nat) : State :=
  noteChange (noteVersion { s with
    mem := copyRows (wd64 j.desc 4) (wd j.desc 9) (wd j.desc 6) (j.filled data) data s.mem })

/-- Rows written to device memory one after another change memory alone. -/
theorem forEach_puts (a p n : Nat) (row : Nat → List Nat) (s : State) :
    forEach (List.range n) (fun r st => st.puts (a + r * p) (row r)) s = { s with mem := putRows a p row n s.mem } := by
  induction n with
  | zero => rfl
  | succ n ih =>
    rw [putRows_succ, List.range_succ, forEach, List.foldl_append]
    exact congrArg (fun t : State => t.puts (a + n * p) (row n)) ih

/-- LAYER_WRITE_DONE: the copy, the end of the command, and what may run now (R77, R80, R92). -/
theorem layerWriteDone_eq {n slot : Nat} {data : List Nat} {error : Bool} {j : Job} {s : State} (hj : s.jobOf 2 n slot = some j)
    (hlen : error = true ∨ wd j.desc 7 * wd j.desc 6 ≤ data.length) :
    ∃ fuel, layerWriteDone n slot data error s = runReleased fuel (finishJob j (if error then 7 else 0)
      (if error then j.filled data / wd j.desc 6 else wd j.desc 7) (s.copied j data)) := by
  have henough : (!error && decide (data.length < wd j.desc 7 * wd j.desc 6)) = false := by
    rcases hlen with h | h
    · simp [h]
    · simp [Nat.not_lt.mpr h]
  unfold layerWriteDone
  rw [hj]
  simp only [henough, Bool.false_eq_true, if_false, forEach_puts]
  cases error <;> exact ⟨_, rfl⟩

/-- A copy changes memory, the versions that a geometry check may see, and the marks of a content change. -/
theorem State.copied_eq (s : State) (j : Job) (data : List Nat) : ∃ v p, s.copied j data =
    { s with mem := copyRows (wd64 j.desc 4) (wd j.desc 9) (wd j.desc 6) (j.filled data) data s.mem
             geom := { s.geom with versions := v }, scan := { s.scan with changed := true }, pipes := p } := by
  unfold State.copied
  rw [noteChange_eq, noteVersion_eq]
  exact ⟨_, _, rfl⟩

/-- Settles O26: the copy's bytes are those of `copyRows`, and what follows it is ring work. -/
theorem layerWriteStores : Obligations.LayerWriteStores := by
  intro ring slot data error j s hj hmove hdata hb hp hlen
  obtain ⟨fuel, hdone⟩ := layerWriteDone_eq hj hlen
  obtain ⟨v, p, hcopied⟩ := s.copied_eq j data
  have hop : j.opcode = 2 := by
    have hfind := List.find?_some hj
    simp only [Bool.and_eq_true, beq_iff_eq] at hfind
    obtain ⟨⟨-, hop⟩, -⟩ := hfind
    exact hop
  generalize (if error then 7 else 0) = st at hdone ⊢
  rw [Job.filled] at hdone
  generalize (if error then min data.length (wd j.desc 7 * wd j.desc 6) / wd j.desc 6 else wd j.desc 7) = d at hdone ⊢
  have hproceeds := runReleased_proceeds fuel (finishJob j st d (s.copied j data))
  have hringWork := (finishJob_completes j st d (s.copied j data)).ringWork.trans (runReleased_ringWork fuel _)
  rw [← hdone] at hproceeds hringWork
  have hmem : (layerWriteDone ring slot data error s).mem =
      copyRows (wd64 j.desc 4) (wd j.desc 9) (wd j.desc 6) (j.filled data) data s.mem := by
    rw [hringWork, hcopied]
  have hgeom : (layerWriteDone ring slot data error s).geom = { s.geom with versions := v } := by
    rw [hringWork, hcopied]
  have hgo : powerGo (layerWriteDone ring slot data error s) = layerWriteDone ring slot data error s :=
    powerGo_none _ (by rw [hringWork, hcopied]; exact hmove)
  have hfit : j.filled data ≤ wd j.desc 7 * wd j.desc 6 := Nat.min_le_right ..
  refine ⟨_, congrArg Host.Outcome.next hgo, fun k hk hk' => ?_, fun b hout => ?_, fun hok => ?_,
    hproceeds.gone (finishJob_gone _ _ _ _), fun hcq => ?_, ?_⟩
  · have hbyte : data.getD k 0 < 256 := by
      have hall := List.all_eq_true.mp hdata data[k] (List.getElem_mem hk)
      rw [List.getD_eq_getElem _ _ hk]
      exact of_decide_eq_true hall
    rw [State.byte, hmem, byte_copyRows_in hb hfit hp (Nat.lt_min.mpr ⟨hk, hk'⟩) hk, Nat.mod_eq_of_lt hbyte]
  · rw [State.byte, hmem]
    exact byte_copyRows_out hb (fun k hk hk' => hout k hk (Nat.lt_of_lt_of_le hk' hfit)) _
  · rw [State.MemOk, hmem]
    exact putRows_wf _ _ _ _ hok
  · obtain ⟨-, -, -, hentry⟩ := finishJob_ends j st d (s.copied j data)
    refine List.IsPrefix.trans ?_ hproceeds.out
    rw [hop] at hentry
    rw [hcopied] at hentry ⊢
    exact hentry hcq
  · rw [hmem, hgeom]
    refine RingWork.trans ?_ hringWork
    rw [hcopied]

end Sys2Proof.Machine

/-! ## FLUSH (O29) -/

namespace Sys2Proof.Machine

/-! ### FLUSH (R83, R241) -/

/-- FLUSH at context i: its open block closes, which is a detection (R241). -/
def flushPipe (i : Nat) (s : State) : State :=
  if (s.codec i).open_.isSome then detectNote (codecUnit i) 1 (closeBlock i false s) else s

/-- `t` differs from `s` at most in codec contexts and reports. -/
def CodecReports (s t : State) : Prop := Reports { s with codecs := t.codecs } t

theorem CodecReports.trans {s t u : State} (h : CodecReports s t) (k : CodecReports t u) : CodecReports s u := by
  unfold CodecReports Reports at *
  rw [k, h]

theorem CodecReports.pipeOf_eq {s t : State} (h : CodecReports s t) (p : Nat) : t.pipeOf p = s.pipeOf p := by
  rw [h]
  rfl

theorem Reports.codecReports {s t : State} (h : Reports s t) : CodecReports s t := by
  unfold CodecReports
  rw [h.codecs_eq]
  exact h

theorem closeBlock_open {i : Nat} {s : State} {b : Block} (h : (s.codec i).open_ = some b) (last : Bool) :
    closeBlock i last s = s.modCodec i fun c =>
      { c with open_ := none, closed := c.closed ++ [{ b with last := last }], raw := c.raw + b.raw } := by
  unfold closeBlock
  rw [h]

theorem flushPipe_idle {i : Nat} {s : State} (h : (s.codec i).open_ = none) : flushPipe i s = s := by
  rw [flushPipe, h]
  rfl

theorem flushPipe_codecReports (i : Nat) (s : State) : CodecReports s (flushPipe i s) := by
  cases h : (s.codec i).open_ with
  | none => rw [flushPipe_idle h]; exact (Reports.refl s).codecReports
  | some b =>
    rw [flushPipe, h, closeBlock_open h]
    exact CodecReports.trans (t := s.modCodec i _) rfl (detectNote_reports ..).codecReports

/-- A block that was open is among the closed ones, and none is open. -/
def BlockClosed (o : Option Block) (c : Codec) : Prop := c.open_ = none ∧ ∀ b, o = some b → { b with last := false } ∈ c.closed

theorem detectNote_codec (u k i : Nat) (s : State) : (detectNote u k s).codec i = s.codec i := by
  rw [State.codec, (detectNote_reports u k s).codecs_eq]
  rfl

theorem flushPipe_closes (i : Nat) (s : State) : BlockClosed (s.codec i).open_ ((flushPipe i s).codec i) := by
  cases h : (s.codec i).open_ with
  | none => rw [flushPipe_idle h]; exact ⟨h, nofun⟩
  | some b =>
    rw [flushPipe, h, closeBlock_open h]
    simp only [Option.isSome_some, if_true]
    rw [detectNote_codec, State.codec_modCodec]
    refine ⟨rfl, fun c hc => ?_⟩
    cases hc
    simp

theorem flushPipe_codec_ne {i k : Nat} (hk : k ≠ i) (s : State) : (flushPipe i s).codec k = s.codec k := by
  cases h : (s.codec i).open_ with
  | none => rw [flushPipe_idle h]
  | some b =>
    rw [flushPipe, h, closeBlock_open h]
    exact (detectNote_codec ..).trans (State.codec_modCodec_ne _ _ _ _ hk)

theorem flushPipe_keeps {o : Option Block} {k : Nat} {s : State} (h : BlockClosed o (s.codec k)) (i : Nat) :
    BlockClosed o ((flushPipe i s).codec k) := by
  by_cases hk : k = i
  · subst hk
    rwa [flushPipe_idle h.1]
  · rwa [flushPipe_codec_ne hk]

/-- The ports of a FLUSH, one after another (R83). -/
def flushPorts (l : List Nat) (s : State) : State := forEach l (fun p st => flushPipe (st.pipeOf p) st) s

theorem flushPorts_codecReports (l : List Nat) (s : State) : CodecReports s (flushPorts l s) :=
  forEach_keeps (CodecReports s) l _ (fun _ _ h => h.trans (flushPipe_codecReports ..)) s rfl

/-- Every port of the list has the block closed that was open. -/
theorem flushPorts_closes (l : List Nat) (s : State) : ∀ p ∈ l,
    BlockClosed (s.codec (s.pipeOf p)).open_ ((flushPorts l s).codec (s.pipeOf p)) := by
  induction l generalizing s with
  | nil => nofun
  | cons a l ih =>
    intro p hp
    by_cases hpa : s.pipeOf p = s.pipeOf a
    · refine forEach_keeps (fun t : State => BlockClosed (s.codec (s.pipeOf p)).open_ (t.codec (s.pipeOf p))) l _
        (fun q t ht => flushPipe_keeps ht _) _ ?_
      rw [hpa]
      exact flushPipe_closes ..
    · have hl : p ∈ l := (List.mem_cons.mp hp).resolve_left fun he => hpa (he ▸ rfl)
      have hrest := ih (flushPipe (s.pipeOf a) s) p hl
      rwa [(flushPipe_codecReports ..).pipeOf_eq, flushPipe_codec_ne hpa] at hrest

theorem flushPorts_idle {l : List Nat} {s : State} (h : ∀ p ∈ l, (s.codec (s.pipeOf p)).open_ = none) : flushPorts l s = s :=
  forEach_keeps_mem (fun t => t = s) l _ (fun p hp t ht => by rw [ht]; exact flushPipe_idle (h p hp)) s rfl

/-- The ports that FLUSH j names and that are UP (R83). -/
def State.flushed (s : State) (j : Job) : List Nat := (List.range 32).filter fun p => bit (wd j.desc 2) p && (s.port p).state == 2

theorem runFlush_eq (j : Job) (s : State) : runFlush j s = finishJob j 0 0 (flushPorts (s.flushed j) s) := rfl

/-- Settles O29, by the loop over the named ports and the end of the command. -/
theorem flushClosesBlocks : Obligations.FlushClosesBlocks := by
  intro e j s h
  obtain ⟨l, hbegan⟩ := s.began_eq e j
  have hstart := startJob_starts h runFlush
  have hgone := finishJob_gone j 0 0 (flushPorts ((s.began e j).flushed j) (s.began e j))
  rw [runFlush_eq, State.handed_gone hgone] at hstart
  rw [hbegan] at hstart hgone
  generalize hu : s.joined e { j with stage := .running } l = u at hbegan hstart hgone
  have hports : u.flushed j = s.flushed j := by rw [← hu]; rfl
  have hcodec : ∀ i, u.codec i = s.codec i := fun i => by rw [← hu]; rfl
  have hpipe : ∀ p, u.pipeOf p = s.pipeOf p := fun p => by rw [← hu]; rfl
  have hflush := flushPorts_codecReports (u.flushed j) u
  have hend := finishJob_completes j 0 0 (flushPorts (u.flushed j) u)
  have hcodecs : (finishJob j 0 0 (flushPorts (u.flushed j) u)).codecs = (flushPorts (u.flushed j) u).codecs := by rw [hend]
  refine ⟨_, congrArg Host.Outcome.next hstart, hgone, ?_, fun p hp hbit hup => ?_, fun hnone => ?_⟩
  · rw [hcodecs]
    refine Completes.trans ?_ hend
    rw [hflush, ← hu]
    rfl
  · have hin : p ∈ u.flushed j := by
      rw [hports]
      exact List.mem_filter.mpr ⟨List.mem_range.mpr hp, by simp [hbit, hup]⟩
    have hclosed := flushPorts_closes (u.flushed j) u p hin
    rw [hpipe, hcodec] at hclosed
    rw [State.codec, hcodecs]
    exact hclosed
  · have hidle : flushPorts (u.flushed j) u = u := flushPorts_idle fun p hp => by
      rw [hcodec, hpipe]
      exact hnone p (List.mem_range.mp (List.mem_filter.mp hp).1)
    rw [hidle, ← hu]
    exact finishJob_ends_started j { j with stage := .running } 0 0 (s.took e) l rfl rfl

end Sys2Proof.Machine

/-! ## TILE_CMD (O30) -/

namespace Sys2Proof.Machine

/-! ### TILE_CMD and its time-out (R85, R296) -/

/-- `t` differs from `s` at most in port p. -/
def PortOnly (p : Nat) (s t : State) : Prop := t = { s with ports := t.ports } ∧ ∀ q, q ≠ p → t.port q = s.port q

theorem PortOnly.refl (p : Nat) (s : State) : PortOnly p s s := ⟨rfl, fun _ _ => rfl⟩

theorem PortOnly.trans {p : Nat} {s t u : State} (h : PortOnly p s t) (k : PortOnly p t u) : PortOnly p s u :=
  ⟨by rw [k.1, h.1], fun q hq => (k.2 q hq).trans (h.2 q hq)⟩

theorem State.modPort_portOnly (p : Nat) (g : Port → Port) (s : State) : PortOnly p s (s.modPort p g) :=
  ⟨rfl, fun q hq => State.port_modPort_ne s p q g hq⟩

theorem sendCmd_portOnly (p hop tag : Nat) (payload : List Nat) (s : State) : PortOnly p s (sendCmd p hop tag payload s) :=
  State.modPort_portOnly ..

/-- Handing waiting CMDs to the link changes its port alone. -/
theorem pumpCmds_portOnly (p : Nat) (s : State) : PortOnly p s (pumpCmds p s) := by
  refine forEach_keeps (PortOnly p s) _ _ (fun i t ht => ?_) s (.refl p s)
  split
  · split
    · exact (ht.trans (State.modPort_portOnly ..)).trans (sendCmd_portOnly ..)
    · exact ht
  · exact ht

theorem dropCmd_portOnly (p : Nat) (c : Cmd) (s : State) : PortOnly p s (dropCmd p c s) :=
  (State.modPort_portOnly ..).trans (pumpCmds_portOnly ..)

/-- A CMD that joins a queue in which every other has been sent, none to its hop, goes out (R296). -/
theorem pumpCmds_last {p : Nat} {s : State} {l : List Cmd} {c : Cmd} (hl : (s.port p).cmds = l ++ [c]) (hc : c.sent = false)
    (hsent : ∀ d ∈ l, d.sent = true ∧ d.hop ≠ c.hop) :
    pumpCmds p s = sendCmd p c.hop c.tag c.payload
      (s.modPort p fun q => { q with cmds := q.cmds.set l.length { c with sent := true } }) := by
  have hfree : (l ++ [c]).any (fun d => d.sent && d.hop == c.hop) = false := by
    simp only [List.any_append, Bool.or_eq_false_iff, List.any_eq_false]
    exact ⟨fun d hd => by simp [(hsent d hd).2], by simp [hc]⟩
  unfold pumpCmds
  rw [hl, List.length_append, List.length_singleton, List.range_succ, forEach, List.foldl_append]
  rw [show List.foldl _ s (List.range l.length) = s from forEach_keeps_mem (fun t => t = s) _ _ (fun i hi t ht => ?_) s rfl]
  · simp only [List.foldl_cons, List.foldl_nil, hl, List.getElem?_concat_length, hc, hfree]
    rfl
  · rw [ht]
    have hlt := List.mem_range.mp hi
    simp [hl, List.getElem?_append_left hlt, hlt, (hsent _ (List.getElem_mem hlt)).1]

/-- The port of TILE_CMD j (R85). -/
def Job.cmdPort (j : Job) : Nat := fld (wd j.desc 2) 4 0

/-- The hop of TILE_CMD j; 0 is every tile (R85). -/
def Job.cmdHop (j : Job) : Nat := fld (wd j.desc 2) 15 8

/-- The TAG of a TILE_CMD that port p sends next (R296). -/
def State.nextTag (s : State) (p : Nat) : Nat := (s.port p).tagTile % 128

/-- A TAG is taken (R296). -/
def State.tagTaken (s : State) (p : Nat) : State := s.modPort p fun q => { q with tagTile := (q.tagTile + 1) % 128 }

theorem sendTileCmd_broadcast {j : Job} (h : j.cmdHop = 0) (l : List Nat) (s : State) :
    sendTileCmd l j s = sendCmd j.cmdPort 0 (s.nextTag j.cmdPort) l ((s.tagTaken j.cmdPort).modPort j.cmdPort fun q =>
      { q with bcasts := q.bcasts ++ [(packetBytes 4 0 ([s.nextTag j.cmdPort, 0] ++ l), j.ring, j.slot)] }) :=
  if_pos h

theorem sendTileCmd_hop {j : Job} (h : j.cmdHop ≠ 0) (l : List Nat) (s : State) :
    sendTileCmd l j s = pumpCmds j.cmdPort ((s.tagTaken j.cmdPort).modPort j.cmdPort fun q =>
      { q with cmds := q.cmds ++ [{ hop := j.cmdHop, tag := s.nextTag j.cmdPort, payload := l, owner := .tile j.ring j.slot }] }) :=
  if_neg h

theorem sendTileCmd_portOnly (l : List Nat) (j : Job) (s : State) : PortOnly j.cmdPort s (sendTileCmd l j s) := by
  have htag : PortOnly j.cmdPort s (s.tagTaken j.cmdPort) := State.modPort_portOnly ..
  by_cases h : j.cmdHop = 0
  · rw [sendTileCmd_broadcast h]
    exact (htag.trans (State.modPort_portOnly ..)).trans (sendCmd_portOnly ..)
  · rw [sendTileCmd_hop h]
    exact (htag.trans (State.modPort_portOnly ..)).trans (pumpCmds_portOnly ..)

/-- What a TILE_CMD leaves in its port: its packet in the queue, the next TAG, and a note of it, as a broadcast or as the
outstanding CMD of its hop (R85, R296). -/
theorem sendTileCmd_port {j : Job} {s : State} (l : List Nat)
    (hfree : j.cmdHop ≠ 0 → ∀ c ∈ (s.port j.cmdPort).cmds, c.sent = true ∧ c.hop ≠ j.cmdHop) :
    ((sendTileCmd l j s).port j.cmdPort).txCmd =
        (s.port j.cmdPort).txCmd ++ [packetBytes 4 j.cmdHop ([s.nextTag j.cmdPort, 0] ++ l)] ∧
      ((sendTileCmd l j s).port j.cmdPort).tagTile = ((s.port j.cmdPort).tagTile + 1) % 128 ∧
      (j.cmdHop = 0 → ((sendTileCmd l j s).port j.cmdPort).bcasts =
        (s.port j.cmdPort).bcasts ++ [(packetBytes 4 0 ([s.nextTag j.cmdPort, 0] ++ l), j.ring, j.slot)]) ∧
      (j.cmdHop ≠ 0 → ((sendTileCmd l j s).port j.cmdPort).cmds = (s.port j.cmdPort).cmds ++
        [{ hop := j.cmdHop, tag := s.nextTag j.cmdPort, payload := l, owner := .tile j.ring j.slot, sent := true }]) := by
  by_cases h : j.cmdHop = 0
  · rw [sendTileCmd_broadcast h]
    simp [sendCmd, State.tagTaken, h]
  · rw [sendTileCmd_hop h, pumpCmds_last (l := (s.port j.cmdPort).cmds)
      (c := { hop := j.cmdHop, tag := s.nextTag j.cmdPort, payload := l, owner := .tile j.ring j.slot })
      (by simp [State.tagTaken]) rfl (hfree h)]
    simp [sendCmd, State.tagTaken, h]

/-- The read that TILE_CMD makes (R85). -/
def State.cmdRead (s : State) (j : Job) : State := s.emit (.hostRead (wd64 j.desc 4) (fld (wd j.desc 3) 15 0))

theorem runTileCmd_read {j : Job} {payload : Option (List Nat)} {l : List Nat} (h : hostBytes (fld (wd j.desc 3) 15 0) payload = some l)
    (s : State) : runTileCmd payload j s = sendTileCmd l j (s.cmdRead j) := by
  unfold runTileCmd
  dsimp only
  rw [h]
  rfl

theorem runTileCmd_failed {j : Job} {payload : Option (List Nat)} (h : hostBytes (fld (wd j.desc 3) 15 0) payload = none)
    (s : State) : runTileCmd payload j s = readFailed j (s.cmdRead j) := by
  unfold runTileCmd
  dsimp only
  rw [h]
  rfl

/-- A CMD of a TAG that waits for its response, and is no CONFIG (R296, R305). -/
def State.cmdOf (s : State) (p h tag : Nat) : Option Cmd :=
  (s.port p).cmds.find? fun c => c.sent && c.hop == h && c.tag == tag && c.owner != .config

theorem tileCmdTimeout_none {p h tag : Nat} {s : State} (hc : s.cmdOf p h tag = none) : tileCmdTimeout p h tag s = s := by
  rw [State.cmdOf] at hc
  unfold tileCmdTimeout
  rw [hc]

theorem tileCmdTimeout_tile {p h tag : Nat} {s : State} {c : Cmd} {j : Job} (hc : s.cmdOf p h tag = some c)
    (ho : c.owner = .tile j.ring j.slot) (hj : s.jobAt j.ring j.slot = some j) :
    tileCmdTimeout p h tag s = finishJob j 7 0 (dropCmd p c s) := by
  have hjob : (dropCmd p c s).jobAt j.ring j.slot = some j := by
    rw [(dropCmd_portOnly p c s).1]
    exact hj
  rw [State.cmdOf] at hc
  unfold tileCmdTimeout
  rw [hc]
  simp only [ho, hjob]

theorem tileCmdTimeout_own {p h tag : Nat} {s : State} {c : Cmd} (hc : s.cmdOf p h tag = some c)
    (ho : ∀ n k, c.owner ≠ .tile n k) : tileCmdTimeout p h tag s = dropCmd p c s := by
  rw [State.cmdOf] at hc
  unfold tileCmdTimeout
  rw [hc]
  dsimp only
  split
  · next n k hk => exact absurd hk (ho n k)
  · rfl

/-- Settles O30: the read and the packet, the failed read, and the time-out by the owner of the CMD. -/
theorem tileCommandsSendAndTimeOut : Obligations.TileCommandsSendAndTimeOut := by
  refine ⟨fun e payload j s p h tag hstarts hp hh htag => ⟨fun l hread hfree => ?sends, fun hread => ?fails⟩,
    fun p h tag s hmove => ⟨fun c hc => ⟨fun j ho hj => ?answer, fun ho => ?own⟩, fun hc => ?nothing⟩⟩
  case sends =>
    obtain rfl : j.cmdPort = p := hp.symm
    obtain rfl : j.cmdHop = h := hh.symm
    obtain rfl : s.nextTag j.cmdPort = tag := htag.symm
    obtain ⟨k, hbegan⟩ := s.began_eq e j
    have hstart := startJob_starts hstarts (runTileCmd payload)
    obtain ⟨k', hhand⟩ := State.handed_eq e j (runTileCmd payload j (s.began e j))
    rw [hhand, runTileCmd_read hread, hbegan] at hstart
    have honly := sendTileCmd_portOnly l j ((s.joined e { j with stage := .running } k).cmdRead j)
    obtain ⟨htx, hnext, hbcast, hcmds⟩ :=
      sendTileCmd_port (j := j) (s := (s.joined e { j with stage := .running } k).cmdRead j) l hfree
    refine ⟨_, congrArg Host.Outcome.next hstart, htx, hnext, honly.2, hbcast, hcmds, ?_⟩
    rw [honly.1]
    rfl
  case fails =>
    obtain ⟨k, hbegan⟩ := s.began_eq e j
    have hends : Ends j 7 (Config.freeValue s.free % 2 ^ 32) { s.took e with
        free := s.free + 1, out := s.out ++ [.hostRead (wd64 j.desc 4) (fld (wd j.desc 3) 15 0)] }
        (readFailed j ((s.joined e { j with stage := .running } k).cmdRead j)) :=
      finishJob_ends_started j { j with stage := .running } 7 _ { s.took e with
        free := s.free + 1, out := s.out ++ [.hostRead (wd64 j.desc 4) (fld (wd j.desc 3) 15 0)] } k rfl rfl
    have hstart := startJob_starts hstarts (runTileCmd payload)
    rw [runTileCmd_failed hread, hbegan, State.handed_gone hends.gone] at hstart
    exact ⟨_, _, congrArg Host.Outcome.next hstart, hends⟩
  case answer =>
    have hdone := tileCmdTimeout_tile hc ho hj
    have honly := dropCmd_portOnly p c s
    have hends := finishJob_ends j 7 0 (dropCmd p c s)
    have hports : (finishJob j 7 0 (dropCmd p c s)).ports = (dropCmd p c s).ports := by rw [finishJob_completes]
    have hgo : powerGo (tileCmdTimeout p h tag s) = finishJob j 7 0 (dropCmd p c s) := by
      rw [hdone]
      exact powerGo_none _ (by rw [finishJob_completes, honly.1]; exact hmove)
    refine ⟨_, congrArg Host.Outcome.next hgo, ?_, fun q hq => ?_⟩
    · rw [hports, ← honly.1]
      exact hends
    · rw [State.port, hports]
      exact honly.2 q hq
  case own =>
    have honly := dropCmd_portOnly p c s
    have hgo : powerGo (tileCmdTimeout p h tag s) = dropCmd p c s := by
      rw [tileCmdTimeout_own hc ho]
      exact powerGo_none _ (by rw [honly.1]; exact hmove)
    exact ⟨_, congrArg Host.Outcome.next hgo, honly.1, honly.2⟩
  case nothing =>
    have hgo : powerGo (tileCmdTimeout p h tag s) = s := by
      rw [tileCmdTimeout_none hc]
      exact powerGo_none _ hmove
    exact congrArg Host.Outcome.next hgo

end Sys2Proof.Machine

/-! ## RING_ENABLE and RING_DISABLE (O20, O21) -/

namespace Sys2Proof.Machine

/-- RING_CTL of ring n takes a value (R62). -/
def State.ringCtlStored (s : State) (n v : Nat) : State := s.wr (.ringCtl n) ((Reg.ringCtl n).keep v)

theorem State.ringCtlStored_ringOn (s : State) (n v : Nat) : (s.ringCtlStored n v).ringOn n = bit v 0 := by
  have hrw : bit (Reg.ringCtl n).rw 0 = true := by simp [Reg.rw, bit]
  rw [State.ringOn, State.b, State.ringCtlStored, State.rd_wr, bit_mod_two_pow (by omega), Reg.bit_keep, hrw, Bool.and_true]

theorem State.ringCtlStored_rd_ne {q : Reg} {n : Nat} (h : q.addr ≠ (Reg.ringCtl n).addr) (s : State) (v : Nat) :
    (s.ringCtlStored n v).rd q = s.rd q :=
  State.rd_wr_ne s _ q _ h

/-- A RING_CTL write that no test refuses has its effect (R63, R64). -/
theorem writeReg_ringCtl {n : Fin 8192} {v : Nat} {s : State} (hs : s.Open) (hv : v < 2 ^ 32)
    (hbusy : regBusy (.ringCtl n) v s = false) (hstate : ringCtlState n v s = false)
    (hmove : (ringCtlWrite n v s).power.move = .none) : writeReg (.ringCtl n) v s = ringCtlWrite n v s :=
  writeReg_open (.ringCtl n) v hs (decide_eq_true n.isLt) hv nofun rfl hbusy hstate rfl hmove

theorem ringCtlWrite_enable {n v : Nat} {s : State} (hv : bit v 0 = true) (hoff : s.ringOn n = false) :
    ringCtlWrite n v s = ringStart n (s.ringCtlStored n v) := by
  simp [ringCtlWrite, hv, hoff, State.ringCtlStored]

theorem ringCtlWrite_disable {n v : Nat} {s : State} (hv : bit v 0 = false) (hon : s.ringOn n = true) :
    ringCtlWrite n v s = ringStop n (s.ringCtlStored n v) := by
  simp [ringCtlWrite, hv, hon, State.ringCtlStored]

/-- Settles O20: the write meets no test, and its effect is `ringStart`. -/
theorem ringEnableStartsAfresh : Obligations.RingEnableStartsAfresh := by
  intro n v s hs hv hoff hstop hstate
  have hbit : bit (withBit v 0 true) 0 = true := bit_withBit ..
  have hwrite := ringCtlWrite_enable hbit hoff
  have hreg := writeReg_ringCtl hs (withBit_lt true hv (by decide)) (by simp [regBusy, hstop]) hstate
    (by rw [hwrite]; exact hs.move_eq)
  refine ⟨_, congrArg Host.Outcome.next (hreg.trans hwrite), rfl, ?_, Tab.get_put_same .., fun m hm => Tab.get_put_ne _ _ _ _ _ _ hm,
    fun q hq => State.ringCtlStored_rd_ne hq s _⟩
  exact (State.ringCtlStored_ringOn s n _).trans hbit

/-! ### What ends of commands leave of STOPPING (R64) -/

/-- STOPPING of every ring stands as it did. -/
structure KeepsStopping (s t : State) : Prop where
  at_ring : ∀ m, (t.ring m).stopping = (s.ring m).stopping

theorem KeepsStopping.refl (s : State) : KeepsStopping s s := ⟨fun _ => rfl⟩

theorem KeepsStopping.trans {s t u : State} (h : KeepsStopping s t) (k : KeepsStopping t u) : KeepsStopping s u :=
  ⟨fun m => (k.at_ring m).trans (h.at_ring m)⟩

theorem KeepsStopping.of_rings_eq {s t : State} (h : t.rings = s.rings) : KeepsStopping s t :=
  ⟨fun m => by rw [State.ring, State.ring, h]⟩

theorem KeepsStopping.setRing {n : Nat} {r : Ring} {s : State} (h : r.stopping = (s.ring n).stopping) :
    KeepsStopping s (s.setRing n r) := by
  refine ⟨fun m => ?_⟩
  by_cases hm : m = n
  · subst hm
    exact (congrArg Ring.stopping (Tab.get_put_same ..)).trans h
  · exact congrArg Ring.stopping (Tab.get_put_ne _ _ _ _ _ _ hm)

theorem sendMsix_rings (v : Nat) (s : State) : (sendMsix v s).rings = s.rings := by
  unfold sendMsix
  split
  · rfl
  · split <;> rfl

theorem ringInterrupt_keepsStopping (n : Nat) (s : State) : KeepsStopping s (ringInterrupt n s) := by
  unfold ringInterrupt
  split
  · exact (KeepsStopping.of_rings_eq (sendMsix_rings ..)).trans (.setRing rfl)
  · exact .refl s

theorem ringWrite_keepsStopping (n : Nat) (ws : List Nat) (s : State) : KeepsStopping s (ringWrite n ws s) := by
  unfold ringWrite
  refine KeepsStopping.trans (.of_rings_eq (t := s.emit _) rfl) (KeepsStopping.trans (.setRing ?_) (ringInterrupt_keepsStopping ..))
  rfl

theorem writeCompletion_keepsStopping (n slot tag op st d : Nat) (s : State) :
    KeepsStopping s (writeCompletion n slot tag op st d s) := by
  obtain ⟨l, hl⟩ := journal_eq (s.ringEngine n) (.completed n slot) s
  have hjournal : KeepsStopping s { s with journals := l } := .of_rings_eq rfl
  unfold writeCompletion
  simp only [hl]
  split
  · exact hjournal
  · split
    · exact hjournal.trans (.setRing rfl)
    · exact hjournal.trans (ringWrite_keepsStopping ..)

theorem fenceCheck_keepsStopping (n : Nat) (s : State) : KeepsStopping s (fenceCheck n s) := by
  rw [fenceCheck_eq]
  cases s.jobs.find? fun j => j.ring == n && j.isFence with
  | none => exact .refl s
  | some j =>
    simp only [Option.elim]
    split
    · exact (KeepsStopping.of_rings_eq (s := s) (t := s.fenceLeft j) rfl).trans (writeCompletion_keepsStopping ..)
    · exact .refl s

/-- A stop's end changes STOPPING of its own ring, or nothing (R64). -/
theorem stopCheck_cases (n : Nat) (s : State) :
    stopCheck n s = s ∨ stopCheck n s = s.modRing n fun r => { r with stopping := false } := by
  unfold stopCheck
  dsimp only
  split
  · exact .inr rfl
  · exact .inl rfl

/-- A ring one of whose commands is left has not stopped (R64). -/
theorem stopCheck_busy {n : Nat} {s : State} {j : Job} (hj : j ∈ s.jobs) (hr : j.ring = n) : stopCheck n s = s := by
  have hbusy : s.jobs.any (fun x => x.ring == n) = true := List.any_eq_true.mpr ⟨j, hj, by simp [hr]⟩
  unfold stopCheck
  simp [hbusy]

theorem stopCheck_ring_ne {m n : Nat} (hm : m ≠ n) (s : State) : (stopCheck n s).ring m = s.ring m := by
  rcases stopCheck_cases n s with h | h <;> rw [h]
  exact State.ring_modRing_ne _ _ _ _ hm

/-- A STOPPING ring with a command left stays so at the check of any ring. -/
theorem stopCheck_keeps {n : Nat} {s : State} {j : Job} (hj : j ∈ s.jobs) (hr : j.ring = n) (m : Nat) :
    ((stopCheck m s).ring n).stopping = (s.ring n).stopping := by
  by_cases hm : n = m
  · subst hm
    rw [stopCheck_busy hj hr]
  · rw [stopCheck_ring_ne hm]

theorem stopCheck_jobs (n : Nat) (s : State) : (stopCheck n s).jobs = s.jobs := (stopCheck_reports n s).jobs_eq

/-- Command j of a STOPPING ring runs, and no other has its key (R64). -/
structure StillRuns (j : Job) (s : State) : Prop where
  mem : j ∈ s.jobs
  alone : ∀ x ∈ s.jobs, x.ring = j.ring → x.slot = j.slot → x = j
  stopping : (s.ring j.ring).stopping = true

/-- The end of another command leaves it running. -/
theorem StillRuns.finishJob {j x : Job} {s : State} (h : StillRuns j s) (hrun : j.stage = .running)
    (hkey : ¬(x.ring = j.ring ∧ x.slot = j.slot)) (st d : Nat) : StillRuns j (finishJob x st d s) := by
  have hmem : j ∈ (Sys2Proof.Machine.finishJob x st d s).jobs :=
    finishJob_keeps h.mem (fun hk => hkey ⟨hk.1.symm, hk.2.symm⟩) (Job.isFence_eq_false (by simp [hrun])) st d
  refine ⟨hmem, fun y hy => h.alone y (finishJob_jobs x st d s y hy).1, ?_⟩
  unfold Sys2Proof.Machine.finishJob at hmem ⊢
  dsimp only at hmem ⊢
  rw [stopCheck_jobs] at hmem
  rw [stopCheck_keeps hmem rfl, (fenceCheck_keepsStopping ..).at_ring, (writeCompletion_keepsStopping ..).at_ring]
  exact h.stopping

/-- A parked write that begins to run leaves it running. -/
theorem StillRuns.runWrite {j x : Job} {s : State} (h : StillRuns j s)
    (hkey : ¬(x.ring = j.ring ∧ x.slot = j.slot)) : StillRuns j (runWrite x s) := by
  obtain ⟨m, p, heq⟩ := runWrite_eq x s
  rw [heq]
  refine ⟨List.mem_map.mpr ⟨j, h.mem, if_neg ?_⟩, fun y hy hr hs => ?_, h.stopping⟩
  · simpa using fun hr hs => hkey ⟨hr.symm, hs.symm⟩
  · obtain ⟨z, hz, rfl⟩ := List.mem_map.mp hy
    split at hr
    · next hc => rw [if_pos hc] at hs; exact absurd ⟨hr, hs⟩ hkey
    · next hc => rw [if_neg hc] at hs ⊢; exact h.alone z hz hr hs

theorem StillRuns.runReleased {j : Job} {s : State} (h : StillRuns j s) (hrun : j.stage = .running) (fuel : Nat) :
    StillRuns j (runReleased fuel s) := by
  induction fuel generalizing s with
  | zero => exact h
  | succ fuel ih =>
    unfold Sys2Proof.Machine.runReleased
    dsimp only
    split
    · exact h
    · next k hfind =>
      have hfound := List.find?_some hfind
      simp only [Bool.and_eq_true, beq_iff_eq] at hfound
      obtain ⟨⟨hparked, -⟩, -⟩ := hfound
      refine ih (h.runWrite fun hk => ?_)
      have hkj := h.alone k (List.mem_of_find?_eq_some hfind) hk.1 hk.2
      rw [hkj, hrun] at hparked
      exact absurd hparked nofun

theorem StillRuns.stopCheck {j : Job} {s : State} (h : StillRuns j s) : StillRuns j (stopCheck j.ring s) := by
  rwa [stopCheck_busy h.mem rfl]

/-! ### The two loops of RING_DISABLE (R64) -/

/-- Stages in which a command of a ring that stops leaves (R64). -/
def Stage.leaves : Stage → Bool
  | .fetched | .stalled | .parked | .binding | .retiring => true
  | _ => false

theorem Stage.leaves_iff (x : Stage) :
    x.leaves = true ↔ x = .fetched ∨ x = .stalled ∨ x = .parked ∨ x = .binding ∨ x = .retiring := by
  cases x <;> simp [Stage.leaves]

/-- The commands of ring n that leave as it stops. -/
def State.leaving (s : State) (n : Nat) : List Job := s.jobs.filter fun j => j.ring == n && j.stage.leaves

/-- Every command of a list is aborted (R64). -/
def abortAll (l : List Job) (s : State) : State := forEach l (fun j st => finishJob j 6 0 st) s

/-- Engine e drops and aborts the descriptor that it holds of ring n (R64). -/
def dropHeld (n e : Nat) (s : State) : State :=
  match (s.engine e).job with
  | some j => if j.ring = n then finishJob j 6 0 (s.modEngine e fun g => { g with job := none }) else s
  | none => s

/-- Ring n is STOPPING. -/
def State.stoppingRing (s : State) (n : Nat) : State := s.modRing n fun r => { r with stopping := true }

/-- Every command of ring n that does not run has been aborted. -/
def State.ringAborted (s : State) (n : Nat) : State :=
  forEach (List.range 72) (dropHeld n) (abortAll ((s.stoppingRing n).leaving n) (s.stoppingRing n))

theorem ringStop_submission {n : Nat} {s : State} (h : s.ringKind n = 0) :
    ringStop n s = stopCheck n (runReleased (s.ringAborted n).jobs.length (s.ringAborted n)) :=
  (if_neg (not_not.mpr h) : _)

theorem dropHeld_held {n e : Nat} {s : State} {j : Job} (hj : (s.engine e).job = some j) (hr : j.ring = n) :
    dropHeld n e s = finishJob j 6 0 (s.modEngine e fun g => { g with job := none }) := by
  unfold dropHeld
  rw [hj]
  exact if_pos hr

theorem dropHeld_idle {n e : Nat} {s : State} (h : ∀ j, (s.engine e).job = some j → j.ring ≠ n) : dropHeld n e s = s := by
  unfold dropHeld
  split
  · next j hj => exact if_neg (h j hj)
  · rfl

/-- What engine e's descriptor comes to: nothing, or the end of that descriptor's command. -/
theorem dropHeld_cases (n e : Nat) (s : State) : dropHeld n e s = s ∨ ∃ j, (s.engine e).job = some j ∧ j.ring = n ∧
    dropHeld n e s = finishJob j 6 0 (s.modEngine e fun g => { g with job := none }) := by
  by_cases h : ∀ j, (s.engine e).job = some j → j.ring ≠ n
  · exact .inl (dropHeld_idle h)
  · push Not at h
    obtain ⟨j, hj, hr⟩ := h
    exact .inr ⟨j, hj, hr, dropHeld_held hj hr⟩

theorem dropHeld_proceeds (n e : Nat) (s : State) : Proceeds s (dropHeld n e s) := by
  have hdrop : Proceeds s (s.modEngine e fun g => { g with job := none }) := .of_jobs_eq rfl List.prefix_rfl
  rcases dropHeld_cases n e s with h | ⟨j, -, -, h⟩ <;> rw [h]
  · exact .refl s
  · exact hdrop.trans (finishJob_proceeds ..)

theorem dropHeld_ringWork (n e : Nat) (s : State) : RingWork s (dropHeld n e s) := by
  have hdrop : RingWork s (s.modEngine e fun g => { g with job := none }) := rfl
  rcases dropHeld_cases n e s with h | ⟨j, -, -, h⟩
  · rw [h]
  · rw [h]
    exact hdrop.trans (finishJob_completes ..).ringWork

/-- Of an engine's descriptors, dropping one of ring n leaves none of it in that engine and the others as they were. -/
theorem dropHeld_engine (n e : Nat) (s : State) : (∀ j, ((dropHeld n e s).engine e).job = some j → j.ring ≠ n) ∧
    ∀ f, f ≠ e → (dropHeld n e s).engine f = s.engine f := by
  by_cases h : ∀ j, (s.engine e).job = some j → j.ring ≠ n
  · rw [dropHeld_idle h]
    exact ⟨h, fun _ _ => rfl⟩
  · push Not at h
    obtain ⟨j, hj, hr⟩ := h
    have hengines : ∀ f, (dropHeld n e s).engine f = (s.modEngine e fun g => { g with job := none }).engine f := fun f => by
      rw [dropHeld_held hj hr, State.engine, finishJob_completes]
      rfl
    refine ⟨fun k hk => ?_, fun f hf => ?_⟩
    · rw [hengines, State.engine_modEngine] at hk
      cases hk
    · rw [hengines, State.engine_modEngine_ne _ _ _ _ hf]

/-- Commands only leave the list. -/
def OnlyLeave (s t : State) : Prop := ∀ x ∈ t.jobs, x ∈ s.jobs

theorem abortAll_onlyLeave (l : List Job) (s : State) : OnlyLeave s (abortAll l s) :=
  forEach_keeps (OnlyLeave s) l _ (fun j t ht x hx => ht x (finishJob_jobs j 6 0 t x hx).1) s fun _ h => h

theorem dropHeld_onlyLeave (n e : Nat) (s : State) : OnlyLeave s (dropHeld n e s) := by
  rcases dropHeld_cases n e s with h | ⟨j, -, -, h⟩ <;> rw [h]
  · exact fun _ hx => hx
  · exact fun x hx => (finishJob_jobs j 6 0 _ x hx).1

/-- A command that is aborted has left. -/
theorem abortAll_gone {l : List Job} {j : Job} (hj : j ∈ l) (s : State) : (abortAll l s).Gone j :=
  forEach_reaches (fun j (t : State) => t.Gone j) l _ (fun j t => finishJob_gone j 6 0 t)
    (fun a _ t ht => (finishJob_proceeds a 6 0 t).gone ht) s j hj

theorem abortAll_ringWork (l : List Job) (s : State) : RingWork s (abortAll l s) :=
  .forEach (fun j t => (finishJob_completes j 6 0 t).ringWork) l s

theorem State.ringAborted_ringWork (s : State) (n : Nat) : RingWork s (s.ringAborted n) := by
  have hstop : RingWork s (s.stoppingRing n) := rfl
  have habort := abortAll_ringWork ((s.stoppingRing n).leaving n) (s.stoppingRing n)
  have hdrop := RingWork.forEach (dropHeld_ringWork n) (List.range 72) (abortAll ((s.stoppingRing n).leaving n) (s.stoppingRing n))
  unfold State.ringAborted
  exact (RingWork.trans hstop habort).trans hdrop

/-- No command of ring n is left in a stage that leaves. -/
def NoneLeaves (n : Nat) (s : State) : Prop := ∀ j ∈ s.jobs, j.ring = n → j.stage.leaves = false

theorem State.ringAborted_noneLeaves (s : State) (n : Nat) : NoneLeaves n (s.ringAborted n) := by
  have hdrop : OnlyLeave (abortAll ((s.stoppingRing n).leaving n) (s.stoppingRing n)) (s.ringAborted n) :=
    forEach_keeps (OnlyLeave (abortAll ((s.stoppingRing n).leaving n) (s.stoppingRing n))) _ _
      (fun e t ht x hx => ht x (dropHeld_onlyLeave n e t x hx)) _ fun _ h => h
  intro j hj hr
  by_contra hleaves
  have hbefore := hdrop j hj
  have hin : j ∈ (s.stoppingRing n).leaving n :=
    List.mem_filter.mpr ⟨abortAll_onlyLeave _ _ j hbefore, by simpa [hr] using hleaves⟩
  exact abortAll_gone hin _ j hbefore ⟨rfl, rfl⟩

theorem runWrite_noneLeaves {n : Nat} {s : State} (h : NoneLeaves n s) (j : Job) : NoneLeaves n (runWrite j s) := by
  obtain ⟨m, p, heq⟩ := runWrite_eq j s
  rw [heq]
  intro x hx hr
  obtain ⟨y, hy, rfl⟩ := List.mem_map.mp hx
  split at hr
  · next hc => rw [if_pos hc]; rfl
  · next hc => rw [if_neg hc]; exact h y hy hr

theorem runReleased_noneLeaves {n : Nat} {s : State} (h : NoneLeaves n s) (fuel : Nat) : NoneLeaves n (runReleased fuel s) := by
  induction fuel generalizing s with
  | zero => exact h
  | succ fuel ih =>
    unfold runReleased
    dsimp only
    split
    · exact h
    · exact ih (runWrite_noneLeaves h _)

/-- What runs when parked writes are released leaves the engines. -/
theorem runReleased_engines (fuel : Nat) (s : State) : (runReleased fuel s).engines = s.engines := by
  induction fuel generalizing s with
  | zero => rfl
  | succ fuel ih =>
    unfold runReleased
    dsimp only
    split
    · rfl
    · next k _ =>
      obtain ⟨m, p, heq⟩ := runWrite_eq { k with aux := 2 } s
      rw [ih, heq]
      rfl

/-- No engine holds a descriptor of ring n. -/
theorem State.ringAborted_engine (s : State) (n : Nat) : ∀ e, e < 72 → ∀ j, ((s.ringAborted n).engine e).job = some j → j.ring ≠ n := by
  intro e he
  refine forEach_reaches (fun e (t : State) => ∀ j, (t.engine e).job = some j → j.ring ≠ n) _ _ (fun e t => (dropHeld_engine n e t).1)
    (fun a b t ht => ?_) _ e (List.mem_range.mpr he)
  by_cases hba : b = a
  · subst hba
    exact (dropHeld_engine n b t).1
  · rwa [(dropHeld_engine n a t).2 b hba]

/-- A command that runs, alone of its key and with no engine holding another of it, still runs, and its ring is STOPPING. -/
theorem State.ringAborted_stillRuns {n : Nat} {s : State} {j : Job} (hj : j ∈ s.jobs) (hr : j.ring = n) (hrun : j.stage = .running)
    (halone : ∀ x ∈ s.jobs, x.ring = n → x.slot = j.slot → x = j)
    (heng : ∀ e, e < 72 → ∀ x, (s.engine e).job = some x → ¬(x.ring = n ∧ x.slot = j.slot)) : StillRuns j (s.ringAborted n) := by
  subst hr
  have hstart : StillRuns j (s.stoppingRing j.ring) := ⟨hj, halone, congrArg Ring.stopping (Tab.get_put_same ..)⟩
  have habort : StillRuns j (abortAll ((s.stoppingRing j.ring).leaving j.ring) (s.stoppingRing j.ring)) := by
    refine forEach_keeps_mem (StillRuns j) _ _ (fun x hx t ht => ht.finishJob hrun (fun hk => ?_) 6 0) _ hstart
    obtain ⟨hxs, hleaves⟩ := List.mem_filter.mp hx
    rw [halone x hxs hk.1 hk.2, hrun] at hleaves
    simp [Stage.leaves] at hleaves
  have hengines : (abortAll ((s.stoppingRing j.ring).leaving j.ring) (s.stoppingRing j.ring)).engines = s.engines :=
    forEach_same (fun t : State => t.engines) _ _ (fun x t => by rw [finishJob_completes]) _
  refine (forEach_keeps_mem (fun t : State => StillRuns j t ∧
    ∀ e, e < 72 → ∀ x, (t.engine e).job = some x → ¬(x.ring = j.ring ∧ x.slot = j.slot)) _ _ (fun e he t ht => ?_) _
    ⟨habort, fun e he x hx => heng e he x ?_⟩).1
  · obtain ⟨hruns, hheld⟩ := ht
    refine ⟨?_, fun f hf x hx => ?_⟩
    · rcases dropHeld_cases j.ring e t with h | ⟨x, hx, -, h⟩ <;> rw [h]
      · exact hruns
      · have hdrop : StillRuns j (t.modEngine e fun g => { g with job := none }) := ⟨hruns.mem, hruns.alone, hruns.stopping⟩
        exact hdrop.finishJob hrun (hheld e (List.mem_range.mp he) x hx) 6 0
    · obtain ⟨hown, hothers⟩ := dropHeld_engine j.ring e t
      by_cases hfe : f = e
      · subst hfe
        exact fun hk => hown x hx hk.1
      · rw [hothers f hfe] at hx
        exact hheld f hf x hx
  · rwa [State.engine, hengines] at hx

end Sys2Proof.Machine

/-! ## What RING_DISABLE leaves and completes (O21) -/

namespace Sys2Proof.Machine

/-- Two rings' registers lie apart (R450). -/
theorem Reg.ring_addr_ne (m n : Nat) : (Reg.ringBaseLo m).addr ≠ (Reg.ringCtl n).addr ∧
    (Reg.ringBaseHi m).addr ≠ (Reg.ringCtl n).addr ∧ (Reg.ringCfg m).addr ≠ (Reg.ringCtl n).addr ∧
    (m ≠ n → (Reg.ringCtl m).addr ≠ (Reg.ringCtl n).addr) := by
  simp only [Reg.addr]
  omega

section Stored

variable (s : State) (n v : Nat)

theorem State.ringCtlStored_ringCfg (m : Nat) : (s.ringCtlStored n v).rd (.ringCfg m) = s.rd (.ringCfg m) := by
  obtain ⟨-, -, hcfg, -⟩ := Reg.ring_addr_ne m n
  exact State.ringCtlStored_rd_ne hcfg s v

@[simp] theorem State.ringCtlStored_ringKind (m : Nat) : (s.ringCtlStored n v).ringKind m = s.ringKind m := by
  rw [State.ringKind, State.ringKind, State.f, State.f, State.ringCtlStored_ringCfg]

@[simp] theorem State.ringCtlStored_ringCq (m : Nat) : (s.ringCtlStored n v).ringCq m = s.ringCq m := by
  rw [State.ringCq, State.ringCq, State.f, State.f, State.ringCtlStored_ringCfg]

end Stored

/-- A ring whose completion ring is another takes its entries as it did, and they read as they did. -/
theorem State.stoppingRing_entry {n : Nat} {s : State} (v slot tag op st d : Nat) (hne : s.ringCq n ≠ n) (h : s.CqTakes n) :
    State.CqTakes ((s.ringCtlStored n v).stoppingRing n) n ∧
      ((s.ringCtlStored n v).stoppingRing n).compOut n slot tag op st d = s.compOut n slot tag op st d := by
  obtain ⟨hlo, hhi, -, hctl⟩ := Reg.ring_addr_ne (s.ringCq n) n
  have hrd : ∀ q : Reg, q.addr ≠ (Reg.ringCtl n).addr → ((s.ringCtlStored n v).stoppingRing n).rd q = s.rd q :=
    fun q hq => State.ringCtlStored_rd_ne hq s v
  have hcfg : ∀ m, ((s.ringCtlStored n v).stoppingRing n).rd (.ringCfg m) = s.rd (.ringCfg m) := s.ringCtlStored_ringCfg n v
  have hcq : ((s.ringCtlStored n v).stoppingRing n).ringCq n = s.ringCq n := s.ringCtlStored_ringCq n v n
  have hring : ((s.ringCtlStored n v).stoppingRing n).ring (s.ringCq n) = s.ring (s.ringCq n) := Tab.get_put_ne _ _ _ _ _ _ hne
  obtain ⟨hn, hon, hfull, hwait, hfatal, hrec⟩ := h
  refine ⟨⟨hn, ?_, ?_, ?_, hfatal, hrec⟩, ?_⟩
  · rw [hcq, State.ringOn, State.b, hrd _ (hctl hne)]
    exact hon
  · rw [hcq, State.ringFull, hring, State.ringSize, State.ringLog, State.f, hcfg]
    exact hfull
  · rw [hcq, hring]
    exact hwait
  · have htime : ∀ k, ((s.ringCtlStored n v).stoppingRing n).islandTime k = s.islandTime k := fun _ => rfl
    have heng : ((s.ringCtlStored n v).stoppingRing n).ringEngine n = s.ringEngine n := by
      rw [State.ringEngine, State.ringEngine, hcfg]
      rfl
    rw [State.compOut, State.compOut, hcq, hring, State.ringBase, State.ringBase, State.pair, State.pair, hrd _ hlo, hrd _ hhi,
      htime, heng]

/-- What one command of a ring that stops, and only it, writes first (R64). -/
theorem State.ringAborted_entry_job {n : Nat} {s : State} {j : Job} (hj : (s.stoppingRing n).leaving n = [j]) (hr : j.ring = n)
    (hcq : (s.stoppingRing n).CqTakes n) :
    s.out ++ [(s.stoppingRing n).compOut n j.slot (fld (wd j.desc 0) 31 16) j.opcode 6 0] <+: (s.ringAborted n).out := by
  subst hr
  obtain ⟨-, -, -, hentry⟩ := finishJob_ends j 6 0 (s.stoppingRing j.ring)
  have hdrop := Proceeds.forEach (dropHeld_proceeds j.ring) (List.range 72) (finishJob j 6 0 (s.stoppingRing j.ring))
  unfold State.ringAborted
  rw [hj]
  exact (hentry hcq).trans hdrop.out

/-- What an engine that holds the only command of a ring that stops writes first (R64). -/
theorem State.ringAborted_entry_held {n e : Nat} {s : State} {j : Job} (hnone : (s.stoppingRing n).leaving n = []) (he : e < 72)
    (hj : (s.engine e).job = some j) (hr : j.ring = n)
    (hothers : ∀ f, f < 72 → f ≠ e → ∀ x, (s.engine f).job = some x → x.ring ≠ n) (hcq : (s.stoppingRing n).CqTakes n) :
    s.out ++ [(s.stoppingRing n).compOut n j.slot (fld (wd j.desc 0) 31 16) j.opcode 6 0] <+: (s.ringAborted n).out := by
  subst hr
  obtain ⟨before, after, hsplit⟩ := List.append_of_mem (List.mem_range.mpr he)
  have hnot : e ∉ before := by
    have hnodup := List.nodup_range (n := 72)
    rw [hsplit, List.nodup_append] at hnodup
    obtain ⟨-, -, hdisjoint⟩ := hnodup
    exact fun hmem => hdisjoint e hmem e List.mem_cons_self rfl
  have hbefore : forEach before (dropHeld j.ring) (s.stoppingRing j.ring) = s.stoppingRing j.ring := by
    refine forEach_keeps_mem (fun t => t = s.stoppingRing j.ring) _ _ (fun f hf t ht => ?_) _ rfl
    rw [ht]
    have hf72 : f < 72 := List.mem_range.mp (hsplit ▸ List.mem_append_left _ hf)
    exact dropHeld_idle (hothers f hf72 fun hfe => hnot (hfe ▸ hf))
  obtain ⟨-, -, -, hentry⟩ := finishJob_ends j 6 0 ((s.stoppingRing j.ring).modEngine e fun g => { g with job := none })
  have hdrop : dropHeld j.ring e (s.stoppingRing j.ring) =
      finishJob j 6 0 ((s.stoppingRing j.ring).modEngine e fun g => { g with job := none }) := dropHeld_held hj rfl
  have hafter := Proceeds.forEach (dropHeld_proceeds j.ring) after (dropHeld j.ring e (s.stoppingRing j.ring))
  have hloop : s.ringAborted j.ring = forEach after (dropHeld j.ring) (dropHeld j.ring e (s.stoppingRing j.ring)) := by
    unfold State.ringAborted
    rw [hnone, abortAll, forEach_nil, hsplit, forEach, List.foldl_append, List.foldl_cons]
    exact congrArg (fun t => forEach after (dropHeld j.ring) (dropHeld j.ring e t)) hbefore
  rw [hloop]
  rw [← hdrop] at hentry
  exact (hentry hcq).trans hafter.out

/-! ### Completion and event rings -/

/-- `t` differs from `s` at most in STOPPING of submission rings. -/
structure StopsSettle (s t : State) : Prop where
  rings : t = { s with rings := t.rings }
  kept : ∀ m, s.ringKind m ≠ 0 → t.ring m = s.ring m

theorem stopChecks_settle (s : State) : StopsSettle s (stopChecks s) := by
  refine forEach_keeps (StopsSettle s) _ _ (fun m t ht => ?_) s ⟨rfl, fun _ _ => rfl⟩
  have hkind : ∀ k, t.ringKind k = s.ringKind k := fun k => by rw [ht.rings]; rfl
  split
  · next hm =>
    refine ⟨?_, fun k hk => ?_⟩
    · rcases stopCheck_cases m t with h | h <;> rw [h, ht.rings]
      rfl
    · have hkm : k ≠ m := fun he => hk (he ▸ hkind m ▸ hm)
      rw [stopCheck_ring_ne hkm, ht.kept k hk]
  · exact ht

theorem ringStop_other {n : Nat} {s : State} (h : s.ringKind n ≠ 0) :
    ringStop n s = stopChecks (s.modRing n fun r => { r with waiting := [], lost := 0 }) :=
  if_pos h

/-- A completion or event ring that stops has dropped the entries that waited for it (R64). -/
theorem ringStop_drops {n : Nat} {s : State} (h : s.ringKind n ≠ 0) : ((ringStop n s).ring n).waiting = [] ∧
    ((ringStop n s).ring n).lost = 0 ∧ ringStop n s = { s with rings := (ringStop n s).rings } := by
  have hsettle := stopChecks_settle (s.modRing n fun r => { r with waiting := [], lost := 0 })
  have hring := hsettle.kept n h
  rw [State.ring_modRing, ← ringStop_other h] at hring
  have hrings := hsettle.rings
  rw [← ringStop_other h] at hrings
  exact ⟨by rw [hring], by rw [hring], hrings⟩

/-- What a submission ring's stop leaves is ring work, and what has left only grows after the aborts. -/
theorem ringStop_submission_ringWork {n : Nat} {s : State} (h : s.ringKind n = 0) :
    RingWork s (ringStop n s) ∧ Proceeds (s.ringAborted n) (ringStop n s) ∧ (ringStop n s).engines = (s.ringAborted n).engines := by
  rw [ringStop_submission h]
  have hrel := runReleased_ringWork (s.ringAborted n).jobs.length (s.ringAborted n)
  have hproc := runReleased_proceeds (s.ringAborted n).jobs.length (s.ringAborted n)
  have heng := runReleased_engines (s.ringAborted n).jobs.length (s.ringAborted n)
  generalize runReleased (s.ringAborted n).jobs.length (s.ringAborted n) = u at hrel hproc heng
  have hstop := stopCheck_reports n u
  refine ⟨((s.ringAborted_ringWork n).trans hrel).trans hstop.completes.ringWork,
    hproc.trans (.of_jobs_eq hstop.jobs_eq ?_), hstop.engines_eq.trans heng⟩
  rw [stopCheck_out]

theorem ringStop_noneLeaves {n : Nat} {s : State} (h : s.ringKind n = 0) : NoneLeaves n (ringStop n s) := by
  intro j hj
  rw [ringStop_submission h, stopCheck_jobs] at hj
  exact runReleased_noneLeaves (s.ringAborted_noneLeaves n) _ j hj

/-- RING_DISABLE as its register write (R64). -/
theorem exec_ringDisable {n : Fin 8192} {v : Nat} {s : State} (hs : s.Open) (hv : v < 2 ^ 32) (hon : s.ringOn n = true)
    (hstate : ringCtlState n (withBit v 0 false) s = false) :
    exec (.ringDisable n v) s = .next (ringStop n (s.ringCtlStored n (withBit v 0 false))) := by
  have hbit : bit (withBit v 0 false) 0 = false := bit_withBit ..
  have hwrite := ringCtlWrite_disable hbit hon
  have hmove : (ringStop n (s.ringCtlStored n (withBit v 0 false))).power.move = .none := by
    by_cases hkind : (s.ringCtlStored n (withBit v 0 false)).ringKind n = 0
    · exact (ringStop_submission_ringWork hkind).1.move_eq.trans hs.move_eq
    · obtain ⟨-, -, hrings⟩ := ringStop_drops hkind
      rw [hrings]
      exact hs.move_eq
  exact congrArg Host.Outcome.next ((writeReg_ringCtl hs (withBit_lt false hv (by decide)) (by simp [regBusy, hbit]) hstate
    (by rw [hwrite]; exact hmove)).trans hwrite)

theorem State.leaving_singleton {n : Nat} {s : State} {j : Job}
    (h : s.jobs.filter (fun x => x.ring == n && x.stage != .running) = [j]) (hstage : j.stage.leaves = true) : s.leaving n = [j] := by
  have hnarrow : s.leaving n = (s.jobs.filter (fun x => x.ring == n && x.stage != .running)).filter fun x => x.stage.leaves := by
    rw [State.leaving, List.filter_filter]
    refine List.filter_congr fun x _ => ?_
    cases x.stage <;> simp [Stage.leaves]
  rw [hnarrow, h]
  simp [hstage]

theorem State.leaving_nil {n : Nat} {s : State} (h : ∀ x ∈ s.jobs, x.ring = n → x.stage = .running) : s.leaving n = [] := by
  refine List.filter_eq_nil_iff.mpr fun x hx hc => ?_
  simp only [Bool.and_eq_true, beq_iff_eq] at hc
  rw [h x hx hc.1] at hc
  exact absurd hc.2 Bool.false_ne_true

/-- Settles O21: a completion or event ring drops what waited, a submission ring aborts what does not run. -/
theorem ringDisableStops : Obligations.RingDisableStops := by
  intro n v s hs hv hon hstate
  generalize hw : withBit v 0 false = w at hstate
  have hbit : bit w 0 = false := hw ▸ bit_withBit ..
  have hexec := exec_ringDisable hs hv hon (hw ▸ hstate)
  rw [hw] at hexec
  have hkind : (s.ringCtlStored n w).ringKind n = s.ringKind n := s.ringCtlStored_ringKind n w n
  have hframe : (ringStop n (s.ringCtlStored n w)).regs = (s.ringCtlStored n w).regs ∧
      (ringStop n (s.ringCtlStored n w)).mem = s.mem := by
    by_cases hk : (s.ringCtlStored n w).ringKind n = 0
    · obtain ⟨hwork, -, -⟩ := ringStop_submission_ringWork hk
      exact ⟨hwork.regs_eq, by rw [hwork]; rfl⟩
    · obtain ⟨-, -, hrings⟩ := ringStop_drops hk
      exact ⟨by rw [hrings], by rw [hrings]; rfl⟩
  obtain ⟨hregs, hmem⟩ := hframe
  refine ⟨_, hexec, ?_, fun q hq => ?_, hmem, fun hk => ?other, fun hk => ?submission⟩
  · rw [State.ringOn, State.b, State.rd, hregs]
    exact (State.ringCtlStored_ringOn s n w).trans hbit
  · rw [State.rd, hregs]
    exact State.ringCtlStored_rd_ne hq s w
  case other =>
    obtain ⟨hwait, hlost, hrings⟩ := ringStop_drops (n := n) (s := s.ringCtlStored n w) (by rwa [hkind])
    refine ⟨hwait, hlost, ?_⟩
    rw [hregs]
    exact hrings
  case submission =>
    have hk' := hkind.trans hk
    obtain ⟨-, hproceeds, hengines⟩ := ringStop_submission_ringWork hk'
    refine ⟨fun j hj hr => ?_, fun e he j hj => ?_, fun j hj hr hrun halone hheld => ?_, fun j hr hne hcq halone => ?_⟩
    · have hleaves := ringStop_noneLeaves hk' j hj hr
      simpa [← Bool.not_eq_true, Stage.leaves_iff] using hleaves
    · rw [State.engine, hengines] at hj
      exact State.ringAborted_engine _ n e he j hj
    · have hruns := (State.ringAborted_stillRuns (s := s.ringCtlStored n w) hj hr hrun halone hheld).runReleased hrun
        ((s.ringCtlStored n w).ringAborted n).jobs.length
      have hstop := hruns.stopCheck
      rw [hr, ← ringStop_submission hk'] at hstop
      exact ⟨hstop.mem, hr ▸ hstop.stopping⟩
    · obtain ⟨hcq', hentry⟩ := State.stoppingRing_entry w j.slot (fld (wd j.desc 0) 31 16) j.opcode 6 0 hne hcq
      rw [← hentry]
      refine List.IsPrefix.trans ?_ hproceeds.out
      rcases halone with ⟨hjobs, hstage, -⟩ | ⟨hjobs, e, he, hj, hothers⟩
      · have hleaves : j.stage.leaves = true := (Stage.leaves_iff _).mpr (.inr hstage)
        exact State.ringAborted_entry_job (s := s.ringCtlStored n w) (State.leaving_singleton hjobs hleaves) hr hcq'
      · exact State.ringAborted_entry_held (s := s.ringCtlStored n w) (State.leaving_nil hjobs) he hj hr hothers hcq'

end Sys2Proof.Machine

/-! ## Doorbells (O19) -/

namespace Sys2Proof.Machine

/-- An open state in Run or Trim has nothing to wake (R341). -/
theorem wakeBy_awake {s : State} (hmove : s.power.move = .none) (hstate : s.power.state = .run ∨ s.power.state = .trim) (src : Nat) :
    wakeBy src s = s := by
  have hawake : ¬(s.power.state = .hold ∨ s.power.state = .keep) := by rcases hstate with h | h <;> simp [h]
  unfold wakeBy
  rw [hmove]
  exact if_neg hawake

/-- A doorbell that no test refuses has its effect (R65, R66). -/
theorem exec_doorbell {n : Fin 8192} {v : Nat} {s : State} (hs : s.Open) (hv : v < 2 ^ 32) (hon : s.ringOn n = true)
    (hbad : doorbellBad n v s = false) (hmove : (ringBell n (fld v 15 0) s).power.move = .none) :
    exec (.doorbell n v) s = .next (ringBell n (fld v 15 0) s) :=
  congrArg Host.Outcome.next (writeReg_open (.doorbell n) v hs (decide_eq_true n.isLt) hv nofun rfl rfl
    (by simp [regState, hon]) hbad hmove)

/-- A ring's tail takes an index (R65, R66). -/
def State.tailSet (s : State) (n i : Nat) : State := s.modRing n fun r => { r with sw := i }

/-- A doorbell counts as activity (R331). -/
def State.active (s : State) : State := { s with power := { s.power with activity := true } }

/-- What a submission ring's doorbell sets: the tail known at once to a class-0 ring, with the time, and queued for another
(R69, R324, R331). -/
def State.bellTaken (s : State) (n i : Nat) : State :=
  if s.ringClass n = 0 then (s.tailSet n i).active.modRing n fun r => { r with seen := i, rung := r.rung ++ [(i, s.time.count)] }
  else (s.tailSet n i).active.modEngine (s.ringEngine n) fun g => { g with bells := g.bells ++ [n] }

theorem State.bellTaken_power (s : State) (n i : Nat) : (s.bellTaken n i).power = { s.power with activity := true } := by
  unfold State.bellTaken
  split <;> rfl

/-- A submission ring's doorbell in Run or Trim (R65, R69, R324, R331). -/
theorem ringBell_submission {n i : Nat} {s : State} (hk : s.ringKind n = 0) (hmove : s.power.move = .none)
    (hstate : s.power.state = .run ∨ s.power.state = .trim) :
    ringBell n i s = s.bellTaken n i := by
  have hbell : ringBell n i s = wakeBy 0 (s.bellTaken n i) := if_pos hk
  rw [hbell]
  exact wakeBy_awake (by rw [State.bellTaken_power]; exact hmove) (by rw [State.bellTaken_power]; exact hstate) 0

/-- A completion or event ring's doorbell, before entries that wait go out (R66, R100). -/
def State.rearmed (s : State) (n i : Nat) : State := (s.tailSet n i).modRing n fun r => { r with armed := true }

/-- The interrupt that a doorbell raises again where entries are left (R100). -/
def bellInterrupt (n i : Nat) (s : State) : State :=
  if ((s.rearmed n i).ring n).hw = i then s.rearmed n i else ringInterrupt n (s.rearmed n i)

theorem ringBell_other {n i : Nat} {s : State} (hk : s.ringKind n ≠ 0) : ringBell n i s =
    stopChecks (if (drainCompletions n ((bellInterrupt n i s).ring n).waiting.length (bellInterrupt n i s)).ringKind n = 2 then
        writeLost n (drainCompletions n ((bellInterrupt n i s).ring n).waiting.length (bellInterrupt n i s))
      else drainCompletions n ((bellInterrupt n i s).ring n).waiting.length (bellInterrupt n i s)) :=
  if_neg hk

theorem stopChecks_reports (s : State) : Reports s (stopChecks s) := by
  unfold Reports
  rw [(stopChecks_settle s).rings]

theorem bellInterrupt_reports (n i : Nat) (s : State) : Reports s (bellInterrupt n i s) := by
  have hset : Reports s (s.rearmed n i) := rfl
  unfold bellInterrupt
  split
  · exact hset
  · exact hset.trans (ringInterrupt_reports ..)

theorem ringBell_other_reports {n i : Nat} {s : State} (hk : s.ringKind n ≠ 0) : Reports s (ringBell n i s) := by
  rw [ringBell_other hk]
  refine Reports.trans ?_ (stopChecks_reports _)
  have hdrain := (bellInterrupt_reports n i s).trans (drainCompletions_reports n ((bellInterrupt n i s).ring n).waiting.length _)
  split
  · exact hdrain.trans (writeLost_reports ..)
  · exact hdrain

/-- An interrupt may take ARMED away, and changes nothing else of a ring. -/
theorem ringInterrupt_ring (n : Nat) (s : State) : ∃ b, (ringInterrupt n s).ring n = { s.ring n with armed := b } := by
  unfold ringInterrupt
  split
  · refine ⟨false, ?_⟩
    rw [State.ring_modRing, State.ring, sendMsix_rings]
    rfl
  · exact ⟨_, rfl⟩

/-- What the ring itself becomes: its tail, armed or not. -/
theorem bellInterrupt_ring (n i : Nat) (s : State) :
    (∃ b, (bellInterrupt n i s).ring n = { s.ring n with sw := i, armed := b }) ∧
      ((s.ring n).hw = i → (bellInterrupt n i s).ring n = { s.ring n with sw := i, armed := true } ∧ (bellInterrupt n i s).out = s.out) := by
  have hset : (s.rearmed n i).ring n = { s.ring n with sw := i, armed := true } := by
    rw [State.rearmed, State.ring_modRing, State.tailSet, State.ring_modRing]
  have hhw : ((s.rearmed n i).ring n).hw = (s.ring n).hw := by rw [hset]
  unfold bellInterrupt
  rw [hhw]
  refine ⟨?_, fun h => ?_⟩
  · split
    · exact ⟨true, hset⟩
    · obtain ⟨b, hb⟩ := ringInterrupt_ring n (s.rearmed n i)
      exact ⟨b, by rw [hb, hset]⟩
  · rw [if_pos h]
    exact ⟨hset, rfl⟩

/-- With nothing waiting, a completion or event ring's doorbell ends with the checks of R64. -/
theorem ringBell_quiet {n i : Nat} {s : State} (hk : s.ringKind n ≠ 0) (hwait : (s.ring n).waiting = []) (hlost : (s.ring n).lost = 0) :
    ringBell n i s = stopChecks (bellInterrupt n i s) := by
  obtain ⟨⟨b, hb⟩, -⟩ := bellInterrupt_ring n i s
  have hdrain : drainCompletions n ((bellInterrupt n i s).ring n).waiting.length (bellInterrupt n i s) = bellInterrupt n i s := by
    rw [hb, hwait]
    rfl
  have hwrite : writeLost n (bellInterrupt n i s) = bellInterrupt n i s := by
    unfold writeLost
    rw [hb, hlost]
    rfl
  rw [ringBell_other hk, hdrain, hwrite, ite_self]

theorem stopChecks_out (s : State) : (stopChecks s).out = s.out := by rw [(stopChecks_settle s).rings]

/-- Settles O19: a submission ring's doorbell by its class, another ring's as a report. -/
theorem doorbellMovesTail : Obligations.DoorbellMovesTail := by
  intro n v s hs hstate hv hon hbad
  have hmove := hs.move_eq
  have hbell : s.ringKind n = 0 → exec (.doorbell n v) s = .next (ringBell n (fld v 15 0) s) := fun hk =>
    exec_doorbell hs hv hon hbad (by rw [ringBell_submission hk hmove hstate, State.bellTaken_power]; exact hmove)
  have hother : s.ringKind n ≠ 0 → exec (.doorbell n v) s = .next (ringBell n (fld v 15 0) s) := fun hk =>
    exec_doorbell hs hv hon hbad ((ringBell_other_reports hk).move_eq.trans hmove)
  refine ⟨fun hk hc => ⟨_, hbell hk, ?_⟩, fun hk hc => ?_, fun hk hwait hlost _ => ⟨_, hother hk, ?_⟩,
    fun hk => ⟨_, hother hk, ringBell_other_reports hk⟩⟩
  · rw [ringBell_submission hk hmove hstate, State.bellTaken, if_pos hc]
    refine ⟨?_, fun m hm => ?_, rfl⟩
    · rw [State.ring_modRing]
      exact congrArg (fun r : Ring => { r with seen := fld v 15 0, rung := r.rung ++ [(fld v 15 0, s.time.count)] })
        (State.ring_modRing s n fun r => { r with sw := fld v 15 0 })
    · rw [State.ring_modRing_ne _ _ _ _ hm]
      exact Tab.get_put_ne _ _ _ _ _ _ hm
  · rw [hbell hk, ringBell_submission hk hmove hstate, State.bellTaken, if_neg hc]
    rfl
  · obtain ⟨⟨b, hb⟩, harmed⟩ := bellInterrupt_ring n (fld v 15 0) s
    have hkind : (bellInterrupt n (fld v 15 0) s).ringKind n ≠ 0 := by
      rw [bellInterrupt_reports n (fld v 15 0) s]
      exact hk
    have hring := (stopChecks_settle (bellInterrupt n (fld v 15 0) s)).kept n hkind
    have hquiet := ringBell_quiet (i := fld v 15 0) hk hwait hlost
    rw [← hquiet] at hring
    refine ⟨by rw [hring, hb], ringBell_other_reports hk, fun hhw => ?_⟩
    obtain ⟨hfull, hout⟩ := harmed hhw
    refine ⟨by rw [hring, hfull], ?_⟩
    rw [hquiet, stopChecks_out, hout]

end Sys2Proof.Machine

/-! ## Scheduling points and descriptor fetches (O22, O23) -/

namespace Sys2Proof.Machine

/-! ### Scheduling points (R68) -/

/-- Doorbells that reach an engine change rings' known tails and the engine's queue. -/
theorem deliverBells_eq (e : Nat) (s : State) : deliverBells e s =
    { s with engines := (s.modEngine e fun g => { g with bells := [] }).engines, rings := (deliverBells e s).rings } :=
  forEach_keeps (fun t : State => t = { s with
    engines := (s.modEngine e fun g => { g with bells := [] }).engines, rings := t.rings }) _ _ (fun n t ht => by rw [ht]; rfl) _ rfl

theorem deliverBells_engine (e : Nat) (s : State) : (deliverBells e s).engine e = { s.engine e with bells := [] } := by
  rw [deliverBells_eq]
  exact Tab.get_put_same ..

theorem deliverBells_hw (e m : Nat) (s : State) : ((deliverBells e s).ring m).hw = (s.ring m).hw := by
  refine forEach_keeps (fun t : State => (t.ring m).hw = (s.ring m).hw) _ _ (fun n t ht => ?_) _ rfl
  by_cases hm : m = n
  · subst hm
    rw [State.ring_modRing]
    exact ht
  · rw [State.ring_modRing_ne _ _ _ _ hm, ht]

theorem deliverBells_ringClass (e m : Nat) (s : State) : (deliverBells e s).ringClass m = s.ringClass m := by
  rw [deliverBells_eq]
  rfl

/-- The next ring in turn is one of the list. -/
theorem nextRing_mem {last n : Nat} {l : List Nat} (h : nextRing last l = some n) : n ∈ l := by
  unfold nextRing at h
  cases hf : l.find? fun n => decide (last ≤ n) with
  | some m =>
    rw [hf] at h
    cases h
    exact List.mem_of_find?_eq_some hf
  | none =>
    rw [hf] at h
    exact List.mem_of_mem_head? h

/-- A list that is not empty has a next ring. -/
theorem nextRing_isSome {last n : Nat} {l : List Nat} (h : n ∈ l) : ∃ m, nextRing last l = some m := by
  unfold nextRing
  cases hf : l.find? fun n => decide (last ≤ n) with
  | some m => exact ⟨m, rfl⟩
  | none =>
    cases l with
    | nil => cases h
    | cons a l => exact ⟨a, rfl⟩

/-- A class that a pass over the grants serves has a ring to serve. -/
theorem spendGrants_ok {ok : Nat → Bool} {g left : List Nat} {c : Nat} (h : spendGrants ok g = (some c, left)) :
    ok c = true := by
  unfold spendGrants at h
  split at h
  · next k hk =>
    obtain ⟨hc, -⟩ := Prod.mk.inj h
    have hfind := List.find?_some hk
    simp only [Bool.and_eq_true] at hfind
    rw [← Option.some.inj hc]
    exact hfind.2
  · cases (Prod.mk.inj h).1

/-- With grants for all three classes, a class that has a ring is served (R68). -/
theorem spendGrants_isSome {ok : Nat → Bool} {a b c k : Nat} (ha : 0 < a) (hb : 0 < b) (hc : 0 < c) (hk : k < 3)
    (hok : ok (k + 1) = true) : ∃ m left, spendGrants ok [a, b, c] = (some m, left) := by
  unfold spendGrants
  split
  · exact ⟨_, _, rfl⟩
  · next hnone =>
    have hno := List.find?_eq_none.mp hnone k (List.mem_range.mpr hk)
    have hgrant : 0 < wd [a, b, c] k := by
      interval_cases k
      · exact ha
      · exact hb
      · exact hc
    simp [hok, hgrant] at hno

/-- The eligible rings of engine e (R68). -/
def State.eligibleRings (s : State) (e : Nat) : List Nat := (s.boundRings e).filter s.eligible

/-- The eligible rings of engine e of a class. -/
def State.eligibleOf (s : State) (e c : Nat) : List Nat := (s.eligibleRings e).filter fun n => s.ringClass n == c

theorem State.mem_eligibleOf {s : State} {e c n : Nat} : n ∈ s.eligibleOf e c ↔ n ∈ s.eligibleRings e ∧ s.ringClass n = c := by
  simp [State.eligibleOf]

/-- The class of 1 to 3 that engine e serves next, with the grants left: from what is left of the round, else from a new one
(R68). -/
def State.classTurn (s : State) (e : Nat) : Option Nat × List Nat :=
  match spendGrants (fun c => !(s.eligibleOf e c).isEmpty) (s.engine e).grants with
  | (some c, left) => (some c, left)
  | (none, _) => spendGrants (fun c => !(s.eligibleOf e c).isEmpty)
      [fld (s.rd (.spanRingSched (e / 9))) 7 0, fld (s.rd (.spanRingSched (e / 9))) 15 8, fld (s.rd (.spanRingSched (e / 9))) 23 16]

/-- The ring of class 1 to 3 that engine e serves next (R68). -/
def State.classChoice (s : State) (e : Nat) : Option Nat × Engine :=
  match (s.classTurn e).1 with
  | none => (none, { s.engine e with grants := (s.classTurn e).2 })
  | some c =>
    match nextRing (wd (s.engine e).last (c - 1)) (s.eligibleOf e c) with
    | some n => (some n, { s.engine e with grants := (s.classTurn e).2, last := (s.engine e).last.set (c - 1) (n + 1) })
    | none => (none, { s.engine e with grants := (s.classTurn e).2 })

/-- A ring of class 0 goes first; else a class of 1 to 3 has its turn (R68). -/
theorem chooseRing_eq (e : Nat) (s : State) : chooseRing e s =
    (nextRing (s.engine e).last0 (s.eligibleOf e 0)).elim (s.classChoice e) fun n => (some n, { s.engine e with last0 := n + 1 }) := by
  have hlist : State.eligibleOf s e 0 = ((s.boundRings e).filter s.eligible).filter fun n => s.ringClass n == 0 := rfl
  unfold chooseRing
  dsimp only
  rw [hlist]
  split <;> rename_i h <;> rw [h]
  · rfl
  · rfl

theorem classChoice_fetch (e : Nat) (s : State) : (s.classChoice e).2.fetch = (s.engine e).fetch := by
  unfold State.classChoice
  split
  · rfl
  · split <;> rfl

/-- A turn changes no read of the engine. -/
theorem chooseRing_fetch (e : Nat) (s : State) : (chooseRing e s).2.fetch = (s.engine e).fetch := by
  rw [chooseRing_eq]
  cases nextRing (s.engine e).last0 (s.eligibleOf e 0) with
  | some n => rfl
  | none => exact classChoice_fetch e s

theorem classChoice_eligible {e n : Nat} {s : State} (h : (s.classChoice e).1 = some n) : n ∈ s.eligibleRings e := by
  unfold State.classChoice at h
  split at h
  · cases h
  · split at h
    · next hnext =>
      rw [← Option.some.inj h]
      exact (State.mem_eligibleOf.mp (nextRing_mem hnext)).1
    · cases h

/-- The ring chosen is an eligible one. -/
theorem chooseRing_eligible {e n : Nat} {s : State} (h : (chooseRing e s).1 = some n) : n ∈ s.eligibleRings e := by
  rw [chooseRing_eq] at h
  cases hzero : nextRing (s.engine e).last0 (s.eligibleOf e 0) with
  | some m =>
    rw [hzero] at h
    rw [← Option.some.inj h]
    exact (State.mem_eligibleOf.mp (nextRing_mem hzero)).1
  | none =>
    rw [hzero] at h
    exact classChoice_eligible h

/-- An eligible ring of class 0 goes before every other class. -/
theorem chooseRing_zero {e m n : Nat} {s : State} (hm : m ∈ s.eligibleOf e 0) (h : (chooseRing e s).1 = some n) :
    s.ringClass n = 0 := by
  obtain ⟨k, hk⟩ := nextRing_isSome (last := (s.engine e).last0) hm
  rw [chooseRing_eq, hk] at h
  rw [← Option.some.inj h]
  exact (State.mem_eligibleOf.mp (nextRing_mem hk)).2

theorem ringClass_lt (s : State) (n : Nat) : s.ringClass n < 4 := Nat.mod_lt _ (by decide)

/-- Engine e has a grant for each class in a new round of its weights. -/
def State.Weighted (s : State) (e : Nat) : Prop :=
  0 < s.f (.spanRingSched (e / 9)) 7 0 ∧ 0 < s.f (.spanRingSched (e / 9)) 15 8 ∧ 0 < s.f (.spanRingSched (e / 9)) 23 16

/-- With a weight for each class, an eligible ring of class 1 to 3 gives one of these classes its turn. -/
theorem classTurn_isSome {e n : Nat} {s : State} (hw : s.Weighted e) (hn : n ∈ s.eligibleRings e) (hclass : s.ringClass n ≠ 0) :
    ∃ c, (s.classTurn e).1 = some c ∧ (s.eligibleOf e c).isEmpty = false := by
  obtain ⟨h1, h2, h3⟩ := hw
  have hlt := ringClass_lt s n
  have hok : (!(s.eligibleOf e (s.ringClass n - 1 + 1)).isEmpty) = true := by
    rw [Nat.sub_add_cancel (Nat.pos_of_ne_zero hclass), Bool.not_eq_true', List.isEmpty_eq_false_iff_exists_mem]
    exact ⟨n, State.mem_eligibleOf.mpr ⟨hn, rfl⟩⟩
  unfold State.classTurn
  split
  · next c left hturn => exact ⟨c, rfl, by simpa using spendGrants_ok hturn⟩
  · obtain ⟨c, left, hturn⟩ := spendGrants_isSome (ok := fun c => !(s.eligibleOf e c).isEmpty) h1 h2 h3
      (k := s.ringClass n - 1) (by omega) hok
    refine ⟨c, congrArg Prod.fst hturn, by simpa using spendGrants_ok hturn⟩

/-- With a weight for each class, an eligible ring makes the engine choose one. -/
theorem chooseRing_isSome {e n : Nat} {s : State} (hw : s.Weighted e) (hn : n ∈ s.eligibleRings e) :
    ∃ m, (chooseRing e s).1 = some m := by
  rw [chooseRing_eq]
  cases hzero : nextRing (s.engine e).last0 (s.eligibleOf e 0) with
  | some m => exact ⟨m, rfl⟩
  | none =>
    have hclass : s.ringClass n ≠ 0 := fun h0 => by
      obtain ⟨m, hm⟩ := nextRing_isSome (last := (s.engine e).last0) (State.mem_eligibleOf.mpr ⟨hn, h0⟩)
      rw [hzero] at hm
      cases hm
    obtain ⟨c, hturn, hsome⟩ := classTurn_isSome hw hn hclass
    obtain ⟨k, hk⟩ := List.isEmpty_eq_false_iff_exists_mem.mp hsome
    obtain ⟨m, hm⟩ := nextRing_isSome (last := wd (s.engine e).last (c - 1)) hk
    refine ⟨m, ?_⟩
    show (s.classChoice e).1 = some m
    unfold State.classChoice
    rw [hturn]
    dsimp only
    rw [hm]

/-- With no eligible ring the engine chooses none. -/
theorem chooseRing_isNone {e : Nat} {s : State} (h : s.eligibleRings e = []) : (chooseRing e s).1 = none :=
  Option.eq_none_iff_forall_ne_some.mpr fun n hn => by
    have hmem := chooseRing_eligible hn
    rw [h] at hmem
    cases hmem

/-- The engine may fetch a descriptor now (R68). -/
structure State.MayFetch (s : State) (e : Nat) : Prop where
  running : (s.engine e).running = true
  takeover : (s.engine e).takeover = false
  fetch : (s.engine e).fetch = none
  job : (s.engine e).job = none
  held : s.fetchHeld = false
  fatal : s.faultg.fatal = false

theorem schedulingPoint_free {e : Nat} {s : State} (h : s.MayFetch e) : schedulingPoint e s =
    (chooseRing e (deliverBells e s)).1.elim ((deliverBells e s).setEngine e (chooseRing e (deliverBells e s)).2) fun n =>
      ((deliverBells e s).setEngine e { (chooseRing e (deliverBells e s)).2 with
        fetch := some (n, ((deliverBells e s).ring n).hw) }).emit
          (.hostRead ((deliverBells e s).ringBase n + 64 * ((deliverBells e s).ring n).hw) 64) := by
  obtain ⟨hrun, htake, hfetch, hjob, hheld, hfatal⟩ := h
  unfold schedulingPoint
  dsimp only
  rw [hrun, htake, hfetch, hjob, hheld, hfatal]
  rw [if_neg (by decide)]
  cases chooseRing e (deliverBells e s) with
  | mk choice g => cases choice <;> rfl

theorem deliverBells_ringBase (e n : Nat) (s : State) : (deliverBells e s).ringBase n = s.ringBase n := by
  rw [deliverBells_eq]
  rfl

/-- A free engine that chooses ring n reads its next descriptor; nothing but the engines and the rings changes. -/
theorem schedulingPoint_reads {e n : Nat} {s : State} (h : s.MayFetch e)
    (hn : (chooseRing e (deliverBells e s)).1 = some n) :
    ((schedulingPoint e s).engine e).fetch = some (n, (s.ring n).hw) ∧
      (schedulingPoint e s).out = s.out ++ [.hostRead (s.ringBase n + 64 * (s.ring n).hw) 64] ∧
      schedulingPoint e s = { s with
        engines := (schedulingPoint e s).engines, rings := (schedulingPoint e s).rings, out := (schedulingPoint e s).out } := by
  rw [schedulingPoint_free h, hn, Option.elim_some, deliverBells_hw, deliverBells_ringBase]
  refine ⟨?_, ?_, ?_⟩
  · exact congrArg Engine.fetch (Tab.get_put_same ..)
  · rw [deliverBells_eq]
    rfl
  · rw [deliverBells_eq]
    rfl

/-- A free engine that chooses no ring reads nothing. -/
theorem schedulingPoint_waits {e : Nat} {s : State} (h : s.MayFetch e) (hn : (chooseRing e (deliverBells e s)).1 = none) :
    ((schedulingPoint e s).engine e).fetch = none ∧
      schedulingPoint e s = { s with engines := (schedulingPoint e s).engines, rings := (schedulingPoint e s).rings } := by
  rw [schedulingPoint_free h, hn]
  refine ⟨?_, ?_⟩
  · calc (((deliverBells e s).setEngine e (chooseRing e (deliverBells e s)).2).engine e).fetch
        = (chooseRing e (deliverBells e s)).2.fetch := congrArg Engine.fetch (Tab.get_put_same ..)
      _ = ((deliverBells e s).engine e).fetch := chooseRing_fetch ..
      _ = (s.engine e).fetch := by rw [deliverBells_engine]
      _ = none := h.fetch
  · rw [deliverBells_eq]
    rfl

/-- An engine that does not run, is being replaced or is not free fetches nothing (R68). -/
theorem schedulingPoint_not_free {e : Nat} {s : State}
    (h : (s.engine e).running = false ∨ (s.engine e).takeover = true ∨ (s.engine e).fetch ≠ none ∨ (s.engine e).job ≠ none) :
    schedulingPoint e s = s := by
  have hbusy : (!(s.engine e).running || (s.engine e).takeover || (s.engine e).fetch.isSome || (s.engine e).job.isSome) = true := by
    rcases h with h | h | h | h
    · simp [h]
    · simp [h]
    · simp [Option.isSome_iff_ne_none.mpr h]
    · simp [Option.isSome_iff_ne_none.mpr h]
  unfold schedulingPoint
  dsimp only
  rw [hbusy, Bool.true_or, Bool.true_or, if_pos rfl]

/-- Settles O22: the engine's choice is an eligible ring, of class 0 where there is one, and its next descriptor is read. -/
theorem schedulingPointFetches : Obligations.SchedulingPointFetches := by
  unfold Obligations.SchedulingPointFetches
  refine fun e s => ⟨fun hrun htake hfetch hjob hheld hfatal => ?_,
    fun h => congrArg Host.Outcome.next (schedulingPoint_not_free h)⟩
  have hmay : s.MayFetch e := ⟨hrun, htake, hfetch, hjob, hheld, hfatal⟩
  refine ⟨fun h1 h2 h3 ⟨m, hm, hmel⟩ => ?_, fun hnone => ?_⟩
  · have hw : (deliverBells e s).Weighted e := by
      rw [deliverBells_eq]
      exact ⟨h1, h2, h3⟩
    obtain ⟨n, hn⟩ := chooseRing_isSome hw (List.mem_filter.mpr ⟨hm, hmel⟩)
    obtain ⟨hbound, hel⟩ := List.mem_filter.mp (chooseRing_eligible hn)
    obtain ⟨hread, hout, hframe⟩ := schedulingPoint_reads hmay hn
    refine ⟨_, n, rfl, hbound, hel, fun ⟨k, hk, hkel, hclass⟩ => ?_, hread, hout, hframe⟩
    rw [← deliverBells_ringClass e n s]
    rw [← deliverBells_ringClass e k s] at hclass
    exact chooseRing_zero (State.mem_eligibleOf.mpr ⟨List.mem_filter.mpr ⟨hk, hkel⟩, hclass⟩) hn
  · have hempty : (deliverBells e s).eligibleRings e = [] :=
      List.filter_eq_nil_iff.mpr fun n hn => by simp [hnone n hn]
    exact ⟨_, rfl, schedulingPoint_waits hmay (chooseRing_isNone hempty)⟩

/-! ### Descriptor fetches (R70, R73) -/

/-- The fetch of slot `slot` of ring n by engine e has come to its end. -/
def State.fetched (s : State) (e n slot : Nat) : State :=
  ((s.modEngine e fun g => { g with fetch := none }).journal e
    (.fetched n slot (s.engine e).last0 (s.engine e).last (s.engine e).grants)).modRing n fun r =>
      { r with hw := (slot + 1) % s.ringSize n, rung := r.rung.filter fun b => b.1 != slot }

theorem State.fetched_ringOn (s : State) (e n slot m : Nat) : (s.fetched e n slot).ringOn m = s.ringOn m := by
  unfold State.fetched
  obtain ⟨l, hl⟩ := journal_eq e (.fetched n slot (s.engine e).last0 (s.engine e).last (s.engine e).grants)
    (s.modEngine e fun g => { g with fetch := none })
  rw [hl]
  rfl

/-- A descriptor that does not go on completes with a status and a DETAIL. -/
def fetchFails (n slot tag op st detail : Nat) (u : State) : State := stopCheck n (writeCompletion n slot tag op st detail u)

theorem fetchFails_reports (n slot tag op st detail : Nat) (u : State) : Reports u (fetchFails n slot tag op st detail u) :=
  (writeCompletion_reports ..).trans (stopCheck_reports ..)

/-- The entry of a failed descriptor is the next of its completion ring. -/
theorem fetchFails_entry (n slot tag op st detail : Nat) (u : State) (h : u.CqTakes n) :
    u.out ++ [u.compOut n slot tag op st detail] <+: (fetchFails n slot tag op st detail u).out := by
  unfold fetchFails
  rw [stopCheck_out]
  exact writeCompletion_entry n slot tag op st detail u h

/-- The descriptor waits in its engine to start. -/
def State.descTaken (u : State) (e n slot : Nat) (d : List Nat) : State := u.modEngine e fun g =>
  { g with job := some { ring := n, slot := u.slotKey n slot, engine := e, desc := d, stage := .fetched } }

/-- A BOUNDS failure is recorded, any other is not. -/
def boundsNoted (n slot op st detail : Nat) (u : State) : State := if st = 1 then boundsLog n slot op detail u else u

/-- Where a descriptor of an enabled ring goes that has come whole (R73). -/
def fetchChecked (e n slot : Nat) (d : List Nat) (u : State) : State :=
  (checkDescriptor n d u).elim (u.descTaken e n slot d) fun r =>
    fetchFails n slot (fld (wd d 0) 31 16) (fld (wd d 0) 7 0) r.1 r.2 (boundsNoted n slot (fld (wd d 0) 7 0) r.1 r.2 u)

/-- Where the fetch goes on, by what came and whether the ring is still enabled (R64, R73). -/
def fetchGoesOn (e n slot : Nat) (words : Option (List Nat)) (u : State) : State :=
  if !u.ringOn n then
    fetchFails n slot (words.elim 0 fun d => fld (wd d 0) 31 16) (words.elim 0 fun d => fld (wd d 0) 7 0) 6 0 u
  else words.elim (fetchFails n slot 0 0 7 0 u) fun d => fetchChecked e n slot d u

theorem descriptorFetch_eq {e n slot : Nat} {s : State} (words : Option (List Nat)) (hf : (s.engine e).fetch = some (n, slot)) :
    descriptorFetch e words s = fetchGoesOn e n slot words (s.fetched e n slot) := by
  have hsize : ((s.modEngine e fun g => { g with fetch := none }).journal e
      (.fetched n slot (s.engine e).last0 (s.engine e).last (s.engine e).grants)).ringSize n = s.ringSize n := by
    obtain ⟨l, hl⟩ := journal_eq e (.fetched n slot (s.engine e).last0 (s.engine e).last (s.engine e).grants)
      (s.modEngine e fun g => { g with fetch := none })
    rw [hl]
    rfl
  unfold State.fetched descriptorFetch
  rw [hf]
  dsimp only
  rw [hsize]
  generalize State.modRing n _ _ = u
  unfold fetchGoesOn
  cases words with
  | none => rfl
  | some d =>
    refine if_congr Iff.rfl rfl ?_
    rw [Option.elim_some]
    unfold fetchChecked
    dsimp only
    split <;> rename_i h
    · rw [h]
      rfl
    · rw [h]
      rfl

/-- The failed descriptor of an enabled ring: its completion, and the bounds log for a bound (R73, R102). -/
theorem fetchChecked_fails {e n slot st detail : Nat} {d : List Nat} {u : State}
    (h : checkDescriptor n d u = some (st, detail)) : fetchChecked e n slot d u =
      fetchFails n slot (fld (wd d 0) 31 16) (fld (wd d 0) 7 0) st detail (boundsNoted n slot (fld (wd d 0) 7 0) st detail u) := by
  unfold fetchChecked
  rw [h]
  rfl

/-- The bounds log changes its span alone, and reports. -/
theorem boundsNoted_reports (n slot op st detail : Nat) (u : State) :
    Reports { u with spans := (boundsNoted n slot op st detail u).spans } (boundsNoted n slot op st detail u) := by
  unfold boundsNoted boundsLog
  dsimp only
  split
  · split
    · rfl
    · have h := detectNote_reports (spanUnit (u.ringSpan n)) 0 (u.modSpan (u.ringSpan n) fun x =>
        { x with bounds := some { addr := u.ringBase n + 64 * slot, ring := n, opcode := op, field := detail } })
      rw [h.spans_eq]
      exact h
  · rfl

/-- The first failure of a bound fills its span's bounds log. -/
theorem boundsNoted_first {n slot op detail : Nat} {u : State} (h : (u.span (u.ringSpan n)).bounds = none) :
    ((boundsNoted n slot op 1 detail u).span (u.ringSpan n)).bounds =
      some { addr := u.ringBase n + 64 * slot, ring := n, opcode := op, field := detail } := by
  unfold boundsNoted boundsLog
  rw [if_pos rfl]
  dsimp only
  rw [h]
  dsimp only
  unfold State.span
  rw [(detectNote_reports _ _ _).spans_eq]
  exact congrArg Span.bounds (Tab.get_put_same ..)

/-- Settles O23: the fetch goes on by what came, by the ring's enable and by the first check that fails. -/
theorem descriptorFetchChecks : Obligations.DescriptorFetchChecks := by
  unfold Obligations.DescriptorFetchChecks
  intro e n slot s u hf hu
  have hexec : ∀ words, exec (.descriptorFetch e words) s = .next (fetchGoesOn e n slot words u) := fun words => by
    rw [hu]
    exact congrArg Host.Outcome.next (descriptorFetch_eq words hf)
  have hring : u.ringOn n = s.ringOn n := by
    rw [hu]
    exact s.fetched_ringOn e n slot n
  clear hu hf
  refine ⟨fun hon => ?_, fun hoff d => ?_⟩
  · have hgo : ∀ words, fetchGoesOn e n slot words u =
        words.elim (fetchFails n slot 0 0 7 0 u) fun d => fetchChecked e n slot d u :=
      fun words => if_neg (by rw [hring, hon]; decide)
    refine ⟨fun d hcheck => ?_, ?_, fun d st detail hcheck => ?_⟩
    · rw [hexec, hgo, Option.elim_some]
      unfold fetchChecked
      rw [hcheck]
      rfl
    · exact ⟨_, hexec none, by rw [hgo]; exact ⟨fetchFails_reports .., fetchFails_entry n slot 0 0 7 0 u⟩⟩
    · have hspans := (fetchFails_reports n slot (fld (wd d 0) 31 16) (fld (wd d 0) 7 0) st detail
        (boundsNoted n slot (fld (wd d 0) 7 0) st detail u)).spans_eq
      refine ⟨_, hexec (some d), ?_⟩
      rw [hgo, Option.elim_some, fetchChecked_fails hcheck, hspans]
      refine ⟨(boundsNoted_reports ..).trans (fetchFails_reports ..), fun hst => ?_, fun hst hfirst => ?_⟩
      · have hnoted : boundsNoted n slot (fld (wd d 0) 7 0) st detail u = u := if_neg hst
        rw [hnoted]
        exact ⟨rfl, fetchFails_entry n slot _ _ st detail u⟩
      · subst hst
        unfold State.span
        rw [hspans]
        exact boundsNoted_first hfirst
  · have hgo : fetchGoesOn e n slot (some d) u = fetchFails n slot (fld (wd d 0) 31 16) (fld (wd d 0) 7 0) 6 0 u :=
      if_pos (by rw [hring, hoff]; decide)
    refine ⟨_, hexec (some d), ?_⟩
    rw [hgo]
    exact ⟨fetchFails_reports .., fetchFails_entry n slot _ _ 6 0 u⟩

end Sys2Proof.Machine

/-! ## BIST_UPDATE (O31) -/

namespace Sys2Proof.Machine

/-! ### What a request's end does to residency cells (R217) -/

/-- `t` differs from `s` by reports, the records of residency cells and the internal requests queued. -/
def ResWork (s t : State) : Prop := Reports { s with bist := { s.bist with queue := t.bist.queue }, res := t.res } t

theorem ResWork.refl (s : State) : ResWork s s := rfl

/-- What a cell's record and its requests change is ring work beside them. -/
theorem ResWork.ringWork {s t : State} (h : ResWork s t) :
    RingWork { s with bist := { s.bist with queue := t.bist.queue }, res := t.res } t := by
  unfold ResWork Reports at h
  unfold RingWork
  generalize t.bist.queue = q at h ⊢
  generalize t.res = r at h ⊢
  rw [h]

theorem ResWork.trans {s t u : State} (h : ResWork s t) (k : ResWork t u) : ResWork s u := by
  unfold ResWork Reports at *
  rw [k, h]

theorem ResWork.of_reports {s t : State} (h : Reports s t) : ResWork s t := by
  unfold ResWork Reports
  rw [h]

theorem State.modCell_resWork (k : Nat) (g : ResCell → ResCell) (s : State) : ResWork s (s.modCell k g) := rfl

theorem ResWork.ite {s t u : State} {c : Prop} [Decidable c] (h : ResWork s t) (k : ResWork s u) : ResWork s (if c then t else u) := by
  split <;> assumption

theorem resEvent_resWork (kind key frame : Nat) (s : State) : ResWork s (resEvent kind key frame s) := by
  unfold resEvent
  split
  · exact .of_reports (raiseEvent_reports ..)
  · exact .refl s

theorem resLeave_resWork (kind key : Nat) (s : State) : ResWork s (resLeave kind key s) :=
  .ite ((State.modCell_resWork ..).trans (resEvent_resWork ..)) (State.modCell_resWork ..)

theorem resTouched_resWork (key : Nat) (s : State) : ResWork s (resTouched key s) := by
  unfold resTouched
  dsimp only
  split
  · exact .refl s
  · split
    · exact State.modCell_resWork ..
    · have hcell : ResWork s ((s.modCell key fun c =>
          { c with bstate := 0, touched := true, ret := if c.bstate = 0 then c.ret else 0 }).modCell key fun c =>
            { c with captured := false, passed := false, fresh := false }) := rfl
      exact .ite (hcell.trans (resLeave_resWork ..)) hcell

theorem resAsk_resWork (key : Nat) (kind : InternalKind) (s : State) : ResWork s (resAsk key kind s) := rfl

theorem resMove_resWork (key n : Nat) (s : State) : ResWork s (resMove key n s) := by
  unfold resMove
  dsimp only
  split
  · refine .ite (.refl s) (.ite (.ite (State.modCell_resWork ..) ?_) (.ite (resAsk_resWork ..) (.refl s)))
    exact (resAsk_resWork ..).trans (State.modCell_resWork ..)
  · split
    · exact State.modCell_resWork ..
    · exact State.modCell_resWork ..
    · exact .refl s
  · exact .refl s
  · exact .ite ((State.modCell_resWork ..).trans (resEvent_resWork ..)) (.refl s)

theorem resDecide_resWork (key n : Nat) (s : State) : ResWork s (resDecide key n s) := by
  unfold resDecide
  refine .ite (.refl s) (.ite (.ite ?_ (State.modCell_resWork ..)) (.ite (resMove_resWork ..) (.ite (resAsk_resWork ..) (.refl s))))
  exact (State.modCell_resWork ..).trans (resEvent_resWork ..)

theorem resEnded_resWork (key : Nat) (mirror clean : Bool) (s : State) : ResWork s (resEnded key mirror clean s) := by
  have hcell := State.modCell_resWork key (fun c => { c with asked := false, touched := false }) s
  unfold resEnded
  refine .ite hcell (.ite (.ite (hcell.trans (State.modCell_resWork ..)) (hcell.trans (State.modCell_resWork ..))) (.ite ?_ ?_))
  · exact (hcell.trans (State.modCell_resWork ..)).trans (resDecide_resWork ..)
  · exact hcell.trans (State.modCell_resWork ..)

/-- An update of a cell queues no request. -/
theorem resTouched_bist (key : Nat) (s : State) : (resTouched key s).bist = s.bist := by
  have hleave : ∀ t : State, (resLeave 4 key t).bist = t.bist := fun t => by
    unfold resLeave resEvent
    split
    · split
      · exact (raiseEvent_reports ..).bist_eq
      · rfl
    · rfl
  unfold resTouched
  dsimp only
  split
  · rfl
  · split
    · rfl
    · split
      · exact hleave _
      · rfl

/-! ### Visits of a region (R199) -/

/-- `t` differs from `s` by ring work, the bistable layer's own records and device memory. -/
def BistWork (s t : State) : Prop := RingWork { s with mem := t.mem, bist := t.bist, res := t.res } t

theorem BistWork.trans {s t u : State} (h : BistWork s t) (k : BistWork t u) : BistWork s u := by
  unfold BistWork RingWork at *
  rw [k, h]

/-- `t` differs from `s` by bistable work in which ring updates keep their owners, and memory its bytes outside `A`. -/
structure Visits (A : Nat → Prop) (s t : State) : Prop where
  work : BistWork s t
  owners : ∀ k u, t.update k = some u → ∃ v, s.update k = some v ∧ v.ring = u.ring ∧ v.slot = u.slot
  bytes : ∀ b, ¬ A b → t.byte b = s.byte b

variable {A : Nat → Prop}

theorem Visits.refl (s : State) : Visits A s s := ⟨rfl, fun _ u h => ⟨u, h, rfl, rfl⟩, fun _ _ => rfl⟩

theorem Visits.trans {s t u : State} (h : Visits A s t) (k : Visits A t u) : Visits A s u := by
  refine ⟨h.work.trans k.work, fun n x hx => ?_, fun b hb => (k.bytes b hb).trans (h.bytes b hb)⟩
  obtain ⟨y, hy, hyr, hys⟩ := k.owners n x hx
  obtain ⟨z, hz, hzr, hzs⟩ := h.owners n y hy
  exact ⟨z, hz, hzr.trans hyr, hzs.trans hys⟩

theorem Visits.ite {s t u : State} {c : Prop} [Decidable c] (h : Visits A s t) (k : Visits A s u) : Visits A s (if c then t else u) := by
  split <;> assumption

/-- Work that keeps the ring updates and device memory. -/
theorem Visits.of_updates {s t : State} (h : BistWork s t) (hu : t.bist.updates = s.bist.updates) (hm : t.mem = s.mem) : Visits A s t := by
  refine ⟨h, fun k u hk => ⟨u, ?_, rfl, rfl⟩, fun b _ => ?_⟩
  · unfold State.update at *
    rw [← hu, hk]
  · unfold State.byte
    rw [hm]

theorem Visits.of_resWork {s t : State} (h : ResWork s t) : Visits A s t := by
  unfold ResWork Reports at h
  refine .of_updates ?_ (by rw [h]) (by rw [h])
  unfold BistWork RingWork
  rw [h]

theorem Visits.of_ringWork {s t : State} (h : RingWork s t) : Visits A s t := by
  refine .of_updates ?_ (by rw [h]) (by rw [h])
  unfold BistWork RingWork
  rw [h]

theorem finishJob_visits (j : Job) (st d : Nat) (s : State) : Visits A s (finishJob j st d s) :=
  .of_ringWork (finishJob_completes ..).ringWork

theorem recoverCheck_visits (s : State) : Visits A s (recoverCheck s) := .ite (.of_updates rfl rfl rfl) (.refl s)

/-- A ring update is let go, or its tally changes: it keeps its owner. -/
theorem State.setUpdate_visits {k : Nat} {v : Option Update} {s : State}
    (h : ∀ u, v = some u → ∃ w, s.update k = some w ∧ w.ring = u.ring ∧ w.slot = u.slot) : Visits A s (s.setUpdate k v) := by
  refine ⟨rfl, fun n u hu => ?_, fun b _ => rfl⟩
  by_cases hn : n = k
  · subst hn
    rw [State.update_setUpdate] at hu
    exact h u hu
  · rw [State.update_setUpdate_ne _ _ _ _ hn] at hu
    exact ⟨u, hu, rfl, rfl⟩

theorem State.setFlight_visits (k : Nat) (v : Option Internal) (s : State) : Visits A s (s.setFlight k v) := .of_updates rfl rfl rfl

theorem modTally_visits (int : Bool) (slot : Nat) (g : Tally → Tally) (s : State) : Visits A s (modTally int slot g s) := by
  unfold modTally
  split
  · split
    · exact State.setFlight_visits ..
    · exact .refl s
  · split
    · next u hu => exact State.setUpdate_visits fun v hv => ⟨u, hu, by rw [← Option.some.inj hv], by rw [← Option.some.inj hv]⟩
    · exact .refl s

theorem settle_visits (int : Bool) (slot : Nat) (s : State) : Visits A s (settle int slot s) := by
  unfold settle
  split
  · split
    · next r hr =>
      have hleft : Visits A s { s.setFlight slot none with power.activity := true } := .of_updates rfl rfl rfl
      refine .ite (.refl s) ?_
      dsimp only
      split
      · exact .ite hleft (hleft.trans (.of_resWork (resEnded_resWork ..)))
      · exact .ite hleft (hleft.trans (.of_resWork (resEnded_resWork ..)))
      · exact hleft.trans (recoverCheck_visits _)
    · exact .refl s
  · split
    · next u hu =>
      have hleft : Visits A s (s.setUpdate slot none) := State.setUpdate_visits fun v hv => nomatch hv
      refine .ite (.refl s) ?_
      dsimp only
      split
      · exact hleft.trans (finishJob_visits ..)
      · exact hleft
    · exact .refl s

theorem settleCell_visits (int : Bool) (slot : Nat) (g : Tally → Tally) (s : State) : Visits A s (settleCell int slot g s) :=
  (modTally_visits ..).trans (settle_visits ..)

theorem forgetDriven_visits (int : Bool) (slot cx cy : Nat) (s : State) : Visits A s (forgetDriven int slot cx cy s) :=
  .of_updates rfl rfl rfl

theorem handOn_visits (cx cy : Nat) (s : State) : Visits A s (handOn cx cy s) := by
  unfold handOn
  exact (forgetDriven_visits ..).trans (settleCell_visits ..)

/-- The bytes of a cell's state and target words. -/
def State.cellByte (s : State) (cx cy b : Nat) : Prop := s.cellAddr cx cy ≤ b ∧ b < s.cellAddr cx cy + 4

theorem putCell_visits {cx cy : Nat} {s : State} (h : ∀ b, s.cellByte cx cy b → A b) (st tg : Nat) : Visits A s (putCell cx cy st tg s) := by
  refine ⟨rfl, fun k u hu => ⟨u, hu, rfl, rfl⟩, fun b hb => ?_⟩
  have hout : b < s.cellAddr cx cy ∨ s.cellAddr cx cy + 4 ≤ b := by
    have := mt (h b) hb
    unfold State.cellByte at this
    omega
  unfold putCell State.putLe
  have hlen : ∀ v, (leBytes 2 v).length = 2 := fun v => rfl
  rw [State.byte_puts_out, State.byte_puts_out]
  · rw [hlen]
    omega
  · rw [hlen]
    show b < s.cellAddr cx cy + 2 ∨ _
    omega

theorem dropCell_visits {cx cy : Nat} {s : State} (h : ∀ b, s.cellByte cx cy b → A b) (detail : Nat) :
    Visits A s (dropCell cx cy detail s) :=
  .ite (((putCell_visits h ..).trans (forgetDriven_visits ..)).trans (settleCell_visits ..)) (.refl s)

theorem Visits.cellAddr {s t : State} (h : Visits A s t) (cx cy : Nat) : t.cellAddr cx cy = s.cellAddr cx cy := by
  have hw := h.work
  unfold BistWork RingWork at hw
  rw [hw]
  rfl

theorem writeCellTarget_visits {cx cy : Nat} {s : State} (h : ∀ b, s.cellByte cx cy b → A b) (int : Bool) (slot levels : Nat) :
    Visits A s (writeCellTarget int slot cx cy levels s) := by
  unfold writeCellTarget
  dsimp only
  have hhand : Visits A s (if bit (s.targetWord cx cy) 9 then handOn cx cy s else s) := .ite (handOn_visits ..) (.refl s)
  revert hhand
  generalize (if bit (s.targetWord cx cy) 9 then handOn cx cy s else s) = t
  intro hhand
  have hcell : ∀ b, t.cellByte cx cy b → A b := by
    unfold State.cellByte at h ⊢
    rw [hhand.cellAddr]
    exact h
  exact .ite (hhand.trans (putCell_visits hcell ..)) ((hhand.trans (putCell_visits hcell ..)).trans (modTally_visits ..))

/-- The memory controller's channels have a list of requests waiting. -/
def State.asking (s : State) (m : List MemReq) : State := { s with memc := { s.memc with waiting := m } }

theorem State.asking_geom (s : State) (m : List MemReq) : (s.asking m).geom = s.geom := rfl

/-- Requests for memory change the memory controller's waits alone. -/
theorem engineReads_eq (e a n : Nat) (s : State) : ∃ m, engineReads e a n s = s.asking m := by
  refine forEach_keeps (fun t : State => ∃ m, t = s.asking m) _ _ (fun k t ht => ?_) s ⟨s.memc.waiting, rfl⟩
  obtain ⟨m, rfl⟩ := ht
  exact ⟨_, rfl⟩

/-- The reads for a region's rows: of its target bytes and of its records (R31, R199). -/
def regionReads (e cx cy cw ch addr pitch : Nat) (s : State) : State :=
  forEach (List.range ch) (fun b st =>
    engineReads e (st.cellAddr cx (cy + b)) (10 * cw) (engineReads e (addr + b * pitch) (3 * cw) st)) s

theorem regionReads_eq (e cx cy cw ch addr pitch : Nat) (s : State) :
    ∃ m, regionReads e cx cy cw ch addr pitch s = s.asking m := by
  refine forEach_keeps (fun t : State => ∃ m, t = s.asking m) _ _ (fun b t ht => ?_) s ⟨s.memc.waiting, rfl⟩
  obtain ⟨m, rfl⟩ := ht
  obtain ⟨k, hk⟩ := engineReads_eq e (addr + b * pitch) (3 * cw) (s.asking m)
  rw [hk]
  exact engineReads_eq ..

/-- A ring update's visit of one cell of its region (R199, R200). -/
def visitCell (slot cx cy addr pitch : Nat) (bad : List (Nat × Nat)) (c : Nat × Nat × Nat) (s : State) : State :=
  if s.memLost || bad.contains (c.1, c.2.1) || decide (s.capacity < addr + (c.2.1 - cy) * pitch + (c.1 - cx) * 3 + 3) then
    modTally false slot (fun t => { t with dropped := some (t.dropped.getD 0x02000000) }) (dropCell c.1 c.2.1 0x02000000 s)
  else
    let st := resTouched (64 * c.2.2 + (8 * ((2 * c.2.1 - (s.placement c.2.2).y) / 64) + (2 * c.1 - (s.placement c.2.2).x) / 64)) s
    writeCellTarget false slot c.1 c.2.1 (targetLevels (st.bistFam c.2.2) c.1 c.2.1
      (Mem.bytes s.mem (addr + (c.2.1 - cy) * pitch + (c.1 - cx) * 3) 3)) st

/-- A ring update reads its region's rows and visits its cells. -/
theorem visitRegion_update (slot cx cy cw ch addr pitch : Nat) (bad : List (Nat × Nat)) (s : State) :
    visitRegion false slot cx cy cw ch addr pitch none bad s =
      forEach (regionCells (regionReads (s.visitor false slot cx cy) cx cy cw ch addr pitch s) cx cy cw ch)
        (visitCell slot cx cy addr pitch bad) (regionReads (s.visitor false slot cx cy) cx cy cw ch addr pitch s) := by
  have hforeign : ∀ t : State, t.foreign false slot = true := fun _ => rfl
  unfold visitRegion visitCell regionReads
  simp only [hforeign, Option.isNone_none, Bool.true_and, if_true, Option.getD_none]

theorem visitCell_visits {slot cx cy addr pitch : Nat} {bad : List (Nat × Nat)} {c : Nat × Nat × Nat} {s : State}
    (h : ∀ b, s.cellByte c.1 c.2.1 b → A b) : Visits A s (visitCell slot cx cy addr pitch bad c s) := by
  refine .ite ((dropCell_visits h _).trans (modTally_visits ..)) ?_
  have htouched : ∀ key, Visits A s (resTouched key s) := fun key => .of_resWork (resTouched_resWork key s)
  refine (htouched _).trans (writeCellTarget_visits (fun b hb => h b ?_) ..)
  unfold State.cellByte at *
  rwa [(htouched _).cellAddr] at hb

/-- The visit of a region writes its cells' state and target words alone. -/
theorem visitRegion_visits {slot cx cy cw ch addr pitch : Nat} {s : State}
    (h : ∀ c ∈ regionCells s cx cy cw ch, ∀ b, s.cellByte c.1 c.2.1 b → A b) (bad : List (Nat × Nat)) :
    Visits A s (visitRegion false slot cx cy cw ch addr pitch none bad s) := by
  rw [visitRegion_update]
  obtain ⟨m, hm⟩ := regionReads_eq (s.visitor false slot cx cy) cx cy cw ch addr pitch s
  rw [hm]
  refine forEach_keeps_mem (Visits A s) _ _ (fun c hc t ht => ?_) _ (.of_ringWork rfl)
  refine ht.trans (visitCell_visits fun b hb => h c hc b ?_)
  unfold State.cellByte at *
  rwa [ht.cellAddr] at hb

/-- A settled ring update has let its slot go. -/
theorem settle_left (slot : Nat) (s : State) (u : Update) (h : (settle false slot s).update slot = some u) : 0 < u.tally.left := by
  have hgone : ∀ t : State, Completes (s.setUpdate slot none) t → t.update slot = none := fun t ht => by
    unfold State.update
    rw [ht.bist_eq]
    exact State.update_setUpdate ..
  revert h
  unfold settle
  simp only [Bool.false_eq_true, if_false]
  split
  · next v hv =>
    split
    · next hleft =>
      intro h
      rw [hv] at h
      cases h
      exact Nat.pos_of_ne_zero hleft
    · split
      · intro h
        rw [hgone _ (finishJob_completes ..)] at h
        cases h
      · intro h
        rw [State.update_setUpdate] at h
        cases h
  · next hv =>
    intro h
    rw [hv] at h
    cases h

/-! ### A cell's words as they are written (R178, R183) -/

/-- A little-endian value reads back as written. -/
theorem Mem.le_puts_same (n : Nat) : ∀ (a v : Nat) (m : List Host.Cell), Mem.le (Mem.puts a (leBytes n v) m) a n = v % 256 ^ n := by
  induction n with
  | zero => exact fun a v m => by simp [Mem.le, Nat.mod_one]
  | succ n ih =>
    intro a v m
    rw [leBytes, Mem.puts, Mem.le, ih, Mem.byte_puts_out _ _ _ _ (.inl (Nat.lt_succ_self a)), Mem.byte_put_same, Nat.mod_mod,
      Nat.pow_succ, Nat.mul_comm (256 ^ n), Nat.mod_mul]

/-- A little-endian value outside a write stays as it was. -/
theorem Mem.le_puts_out (l : List Nat) (b n : Nat) (m : List Host.Cell) : ∀ a, a + n ≤ b ∨ b + l.length ≤ a →
    Mem.le (Mem.puts b l m) a n = Mem.le m a n := by
  induction n with
  | zero => exact fun _ _ => rfl
  | succ n ih =>
    intro a h
    rw [Mem.le, Mem.le, ih (a + 1) (by omega), Mem.byte_puts_out _ _ _ _ (by omega)]

theorem Mem.le_lt (m : List Host.Cell) (n : Nat) : ∀ a, Mem.le m a n < 256 ^ n := by
  induction n with
  | zero => exact fun _ => Nat.one_pos
  | succ n ih =>
    intro a
    have hbyte : Mem.byte m a < 256 := (Tab.get (0#8) a m).isLt
    have hrest := ih (a + 1)
    rw [Mem.le, Nat.pow_succ]
    omega

theorem putCell_stateWord {cx cy st tg : Nat} {s : State} (h : st < 65536) : (putCell cx cy st tg s).stateWord cx cy = st :=
  calc (putCell cx cy st tg s).stateWord cx cy
      = Mem.le (Mem.puts (s.cellAddr cx cy + 2) (leBytes 2 tg) (Mem.puts (s.cellAddr cx cy) (leBytes 2 st) s.mem)) (s.cellAddr cx cy) 2 := rfl
    _ = st % 256 ^ 2 := by rw [Mem.le_puts_out _ _ _ _ _ (.inl (Nat.le_refl _)), Mem.le_puts_same]
    _ = st := Nat.mod_eq_of_lt h

theorem putCell_targetWord {cx cy st tg : Nat} {s : State} (h : tg < 65536) : (putCell cx cy st tg s).targetWord cx cy = tg :=
  (Mem.le_puts_same 2 (s.cellAddr cx cy + 2) tg _).trans (Nat.mod_eq_of_lt h)

theorem withBit_false_le (w i : Nat) : withBit w i false ≤ w := by
  unfold withBit
  split <;> simp

/-- The last of a list's numbers that meet a condition is none above the list's. -/
theorem foldl_last_le {p : Nat → Prop} [DecidablePred p] {m : Nat} : ∀ (l : List Nat) (b : Nat), b ≤ m → (∀ x ∈ l, x ≤ m) →
    l.foldl (fun b x => if p x then x else b) b ≤ m := by
  intro l
  induction l with
  | nil => exact fun b hb _ => hb
  | cons x l ih =>
    intro b hb hl
    refine ih _ ?_ fun y hy => hl y (List.mem_cons_of_mem x hy)
    dsimp only
    split
    · exact hl x List.mem_cons_self
    · exact hb

/-- A level is one of eight (R183). -/
theorem ditherLevel_le (f : BistFam) (cx cy c x : Nat) : ditherLevel f cx cy c x ≤ 7 := by
  unfold ditherLevel
  split
  · exact Nat.zero_le 7
  · split
    · exact Nat.le_refl 7
    · next htop =>
      have hbelow : (List.range 8).foldl (fun b l => if f.code c l ≤ x then l else b) 0 ≤ 6 := by
        rw [List.range_succ, List.foldl_append, List.foldl_cons, List.foldl_nil, if_neg htop]
        exact foldl_last_le _ _ (Nat.zero_le 6) fun y hy => by simpa [Nat.lt_succ_iff] using hy
      dsimp only
      split <;> omega

theorem targetLevels_lt (f : BistFam) (cx cy : Nat) (x : List Nat) : targetLevels f cx cy x < 512 := by
  have h0 := ditherLevel_le f cx cy 0 (wd x 0)
  have h1 := ditherLevel_le f cx cy 1 (wd x 1)
  have h2 := ditherLevel_le f cx cy 2 (wd x 2)
  have hsum : targetLevels f cx cy x = ditherLevel f cx cy 0 (wd x 0) + ditherLevel f cx cy 1 (wd x 1) * 8 +
      ditherLevel f cx cy 2 (wd x 2) * 64 := by simp [targetLevels, List.range_succ, at_]
  omega

/-- An unknown cell that pends for nobody becomes pending for the request (R199). -/
theorem writeCellTarget_unknown {slot cx cy levels : Nat} {s : State} (hpend : bit (s.targetWord cx cy) 9 = false)
    (hknown : bit (s.stateWord cx cy) 9 = false) : writeCellTarget false slot cx cy levels s =
      modTally false slot (fun t => { t with left := t.left + 1 })
        (putCell cx cy (withBit (s.stateWord cx cy) 11 false) (levels + 512 + at_ slot 10) s) := by
  unfold writeCellTarget
  simp [hpend, hknown]

/-! ### The tile of a cell -/

theorem tileAt_of_geom {s t : State} (h : t.geom = s.geom) (cx cy : Nat) : t.tileAt cx cy = s.tileAt cx cy := by
  have hplace : t.placement = s.placement := funext fun i => by rw [State.placement, h]; rfl
  have hfamily : t.familyOf = s.familyOf := funext fun i => by rw [State.familyOf, hplace, h]; rfl
  have hrect : t.rectOf = s.rectOf := funext fun i => by rw [State.rectOf, hplace, hfamily]; rfl
  have htiles : t.allTiles = s.allTiles := by
    unfold State.allTiles State.chainTiles State.chain
    rw [h]
  unfold State.tileAt State.bistTiles
  rw [hrect, hfamily, htiles]

theorem regionCells_of_geom {s t : State} (h : t.geom = s.geom) (cx cy cw ch : Nat) :
    regionCells t cx cy cw ch = regionCells s cx cy cw ch := by
  unfold regionCells
  simp only [tileAt_of_geom h]

/-! ### BIST_UPDATE starts (R84, R199) -/

/-- The ring update that a BIST_UPDATE asks for. -/
def Job.asUpdate (j : Job) : Update :=
  { ring := j.ring, slot := j.slot, cx := fld (wd j.desc 2) 15 0, cy := fld (wd j.desc 2) 31 16,
    cw := fld (wd j.desc 3) 15 0, ch := fld (wd j.desc 3) 31 16, addr := wd64 j.desc 4, pitch := wd j.desc 6 }

/-- An update in its slot, with its region visited. -/
def State.visited (s : State) (slot : Nat) (u : Update) : State :=
  visitRegion false slot u.cx u.cy u.cw u.ch u.addr u.pitch none [] (s.setUpdate slot (some u))

theorem runBistUpdate_empty {j : Job} (h : j.asUpdate.cw = 0 ∨ j.asUpdate.ch = 0) (c : Check) (bad : List (Nat × Nat)) (s : State) :
    runBistUpdate c bad j s = finishJob j 0 0 s := if_pos h

theorem runBistUpdate_full {j : Job} {s : State} (h : ¬(j.asUpdate.cw = 0 ∨ j.asUpdate.ch = 0))
    (hfull : ∀ k, k < 8 → s.update (8 * s.ringSpan j.ring + k) ≠ none) (c : Check) (bad : List (Nat × Nat)) :
    runBistUpdate c bad j s = s.setJob { j with stage := .stalled } := by
  have hnone : ((List.range 8).map (8 * s.ringSpan j.ring + ·)).find? (fun k => (s.update k).isNone) = none := by
    simpa [Option.isNone_iff_eq_none] using hfull
  refine (if_neg h).trans ?_
  rw [hnone]

theorem runBistUpdate_takes {j : Job} {s : State} {k : Nat} (h : ¬(j.asUpdate.cw = 0 ∨ j.asUpdate.ch = 0)) (hk : k < 8)
    (hfree : s.update (8 * s.ringSpan j.ring + k) = none) (hlow : ∀ m, m < k → s.update (8 * s.ringSpan j.ring + m) ≠ none) :
    runBistUpdate .ok [] j s = settle false (8 * s.ringSpan j.ring + k) (s.visited (8 * s.ringSpan j.ring + k) j.asUpdate) := by
  have hfind : ((List.range 8).map (8 * s.ringSpan j.ring + ·)).find? (fun k => (s.update k).isNone) =
      some (8 * s.ringSpan j.ring + k) := by
    rw [List.find?_map, List.find?_range_eq_some.mpr ⟨by simp [hfree], List.mem_range.mpr hk, fun m hm => by simp [Option.isSome_iff_ne_none, hlow m hm]⟩]
    rfl
  refine (if_neg h).trans ?_
  rw [hfind]
  rfl

/-- A BIST_UPDATE that takes slot 8 × SPAN + k (R199). -/
structure TakesSlot (e : Nat) (j : Job) (k : Nat) (s : State) : Prop where
  starts : Starts e 6 j s
  region : ¬(j.asUpdate.cw = 0 ∨ j.asUpdate.ch = 0)
  slot : k < 8
  free : s.update (8 * s.ringSpan j.ring + k) = none
  lowest : ∀ m, m < k → s.update (8 * s.ringSpan j.ring + m) ≠ none

theorem bistUpdate_takes {e k : Nat} {j : Job} {s : State} (h : TakesSlot e j k s) :
    ∃ l, startJob e 6 (runBistUpdate .ok []) s =
      (settle false (8 * s.ringSpan j.ring + k)
        ((s.joined e { j with stage := .running } l).visited (8 * s.ringSpan j.ring + k) j.asUpdate)).handed e j := by
  obtain ⟨l, hl⟩ := s.began_eq e j
  refine ⟨l, ?_⟩
  rw [startJob_starts h.starts, hl]
  exact congrArg (State.handed e j) (runBistUpdate_takes h.region h.slot h.free h.lowest)

/-- Command j has joined the list and its update its slot. -/
def State.updating (s : State) (e : Nat) (j : Job) (l : Tab (List JournalEntry)) (slot : Nat) (u : Update) : State :=
  (s.joined e { j with stage := .running } l).setUpdate slot (some u)

theorem State.updating_geom (s : State) (e : Nat) (j : Job) (l : Tab (List JournalEntry)) (slot : Nat) (u : Update) :
    (s.updating e j l slot u).geom = s.geom := rfl

theorem State.updating_mem (s : State) (e : Nat) (j : Job) (l : Tab (List JournalEntry)) (slot : Nat) (u : Update) :
    (s.updating e j l slot u).mem = s.mem := rfl

theorem State.updating_memLost (s : State) (e : Nat) (j : Job) (l : Tab (List JournalEntry)) (slot : Nat) (u : Update) :
    (s.updating e j l slot u).memLost = s.memLost := rfl

theorem State.updating_capacity (s : State) (e : Nat) (j : Job) (l : Tab (List JournalEntry)) (slot : Nat) (u : Update) :
    (s.updating e j l slot u).capacity = s.capacity := rfl

theorem State.updating_cellAddr (s : State) (e : Nat) (j : Job) (l : Tab (List JournalEntry)) (slot : Nat) (u : Update)
    (cx cy : Nat) : (s.updating e j l slot u).cellAddr cx cy = s.cellAddr cx cy := rfl

/-- A region's update: what it writes, and what its slot holds while it runs (R199). -/
theorem bistUpdate_region {e k : Nat} {j : Job} {s : State} (h : TakesSlot e j k s) {t : State}
    (ht : startJob e 6 (runBistUpdate .ok []) s = t) :
    (∀ b, (∀ c ∈ regionCells s j.asUpdate.cx j.asUpdate.cy j.asUpdate.cw j.asUpdate.ch,
        b < s.cellAddr c.1 c.2.1 ∨ s.cellAddr c.1 c.2.1 + 4 ≤ b) → t.byte b = s.byte b) ∧
      (∀ u, t.update (8 * s.ringSpan j.ring + k) = some u → u.ring = j.ring ∧ u.slot = j.slot ∧ 0 < u.tally.left) ∧
      BistWork s t := by
  obtain ⟨l, hl⟩ := bistUpdate_takes h
  revert hl
  generalize hslot : 8 * s.ringSpan j.ring + k = slot
  generalize hu : j.asUpdate = u
  intro hl
  have hvisit : Visits (fun b => ∃ c ∈ regionCells s u.cx u.cy u.cw u.ch, s.cellByte c.1 c.2.1 b) (s.updating e j l slot u)
      (settle false slot ((s.joined e { j with stage := .running } l).visited slot u)) := by
    refine Visits.trans (visitRegion_visits (s := s.updating e j l slot u) (fun c hc b hb => ⟨c, ?_, ?_⟩) []) (settle_visits ..)
    · rwa [regionCells_of_geom (s.updating_geom e j l slot u)] at hc
    · unfold State.cellByte at *
      rwa [s.updating_cellAddr] at hb
  have hleft := settle_left slot ((s.joined e { j with stage := .running } l).visited slot u)
  revert hleft hvisit hl
  generalize settle false slot ((s.joined e { j with stage := .running } l).visited slot u) = v
  intro hl hvisit hleft
  obtain ⟨l', hl'⟩ := State.handed_eq e j v
  rw [ht, hl'] at hl
  subst hl
  refine ⟨fun b hb => hvisit.bytes b ?_, fun x hx => ?_, ?_⟩
  · rintro ⟨c, hc, hlow, hhigh⟩
    have := hb c hc
    omega
  · obtain ⟨w, hw, hring, hkey⟩ := hvisit.owners slot x hx
    rw [State.updating, State.update_setUpdate] at hw
    cases hw
    subst hu
    exact ⟨hring.symm, hkey.symm, hleft x hx⟩
  · have hstart : BistWork s (s.updating e j l slot u) := rfl
    have hend : BistWork v { v with journals := l' } := rfl
    exact (hstart.trans hvisit.work).trans hend

/-- A BIST_UPDATE keeps the canonical form of memory. -/
theorem bistUpdate_memOk (e : Nat) (s : State) (hs : s.MemOk) : (startJob e 6 (runBistUpdate .ok []) s).MemOk :=
  startJob_wf (fun _ _ ht => runBistUpdate_wf ht) hs

/-- The update of a single cell that is unknown and pends for nobody. -/
structure OneCell (j : Job) (i : Nat) (s : State) : Prop where
  cw : j.asUpdate.cw = 1
  ch : j.asUpdate.ch = 1
  inside : j.asUpdate.addr + 3 ≤ s.capacity
  tile : s.tileAt j.asUpdate.cx j.asUpdate.cy = some i
  idle : bit (s.targetWord j.asUpdate.cx j.asUpdate.cy) 9 = false
  unknown : bit (s.stateWord j.asUpdate.cx j.asUpdate.cy) 9 = false

theorem regionCells_one {cx cy i : Nat} {s : State} (h : s.tileAt cx cy = some i) : regionCells s cx cy 1 1 = [(cx, cy, i)] := by
  simp [regionCells, List.range_succ, h]

/-- `t` differs from `s` by ring work, ring updates, residency records and device memory. -/
def CellWork (s t : State) : Prop :=
  RingWork { s with mem := t.mem, bist := { s.bist with updates := t.bist.updates }, res := t.res } t

theorem CellWork.trans {s t u : State} (h : CellWork s t) (k : CellWork t u) : CellWork s u := by
  unfold CellWork RingWork at *
  rw [k, h]

theorem resTouched_cellWork (key : Nat) (s : State) : CellWork s (resTouched key s) := by
  have hbist := resTouched_bist key s
  have hmem := resTouched_mem key s
  have hwork := (resTouched_resWork key s).ringWork
  unfold RingWork at hwork
  unfold CellWork RingWork
  generalize resTouched key s = t at *
  rw [hbist] at hwork ⊢
  rw [hmem]
  exact hwork

theorem CellWork.bistFam {s t : State} (h : CellWork s t) (i : Nat) : t.bistFam i = s.bistFam i := by
  unfold CellWork RingWork at h
  rw [h]
  rfl

theorem CellWork.cellAddr {s t : State} (h : CellWork s t) (cx cy : Nat) : t.cellAddr cx cy = s.cellAddr cx cy := by
  unfold CellWork RingWork at h
  rw [h]
  rfl

theorem CellWork.stateWord {s t : State} (h : CellWork s t) (hm : t.mem = s.mem) (cx cy : Nat) :
    t.stateWord cx cy = s.stateWord cx cy := by
  rw [State.stateWord, h.cellAddr, State.le, hm]
  rfl

theorem CellWork.targetWord {s t : State} (h : CellWork s t) (hm : t.mem = s.mem) (cx cy : Nat) :
    t.targetWord cx cy = s.targetWord cx cy := by
  rw [State.targetWord, h.cellAddr, State.le, hm]
  rfl

/-- The residency cell of a cell of tile i (R209). -/
def State.resKey (s : State) (cx cy i : Nat) : Nat :=
  64 * i + (8 * ((2 * cy - (s.placement i).y) / 64) + (2 * cx - (s.placement i).x) / 64)

/-- A single cell whose target bytes can be read is given its target. -/
theorem visitCell_origin {slot cx cy addr pitch i : Nat} {s : State} (hlost : s.memLost = false) (hin : addr + 3 ≤ s.capacity) :
    visitCell slot cx cy addr pitch [] (cx, cy, i) s =
      writeCellTarget false slot cx cy (targetLevels ((resTouched (s.resKey cx cy i) s).bistFam i) cx cy (Mem.bytes s.mem addr 3))
        (resTouched (s.resKey cx cy i) s) := by
  have hzero : addr + (cy - cy) * pitch + (cx - cx) * 3 = addr := by simp
  unfold visitCell
  rw [hzero, hlost, if_neg (by simpa using hin)]
  rfl

/-- The words that the update of an unknown cell takes, and the count of what its slot waits for (R183, R199). -/
def State.cellAsked (s : State) (cx cy slot levels : Nat) (u : Update) : State :=
  (putCell cx cy (withBit (s.stateWord cx cy) 11 false) (levels + 512 + at_ slot 10) s).setUpdate slot
    (some { u with tally := { u.tally with left := u.tally.left + 1 } })

theorem writeCellTarget_asks {slot cx cy levels : Nat} {u : Update} {s : State} (hpend : bit (s.targetWord cx cy) 9 = false)
    (hknown : bit (s.stateWord cx cy) 9 = false) (hu : s.update slot = some u) :
    settle false slot (writeCellTarget false slot cx cy levels s) = s.cellAsked cx cy slot levels u := by
  have hasked : writeCellTarget false slot cx cy levels s = s.cellAsked cx cy slot levels u := by
    have hput : (putCell cx cy (withBit (s.stateWord cx cy) 11 false) (levels + 512 + at_ slot 10) s).update slot = some u := hu
    rw [writeCellTarget_unknown hpend hknown]
    unfold modTally
    rw [hput]
    rfl
  have hslot : (s.cellAsked cx cy slot levels u).update slot =
      some { u with tally := { u.tally with left := u.tally.left + 1 } } := State.update_setUpdate ..
  rw [hasked]
  unfold settle
  rw [hslot]
  exact if_neg (by simp)

/-- The visit of one unknown cell leaves its levels, PEND and slot in the cell's target word (R183, R199). -/
theorem visitCell_asks {slot cx cy addr pitch i : Nat} {u : Update} {s : State} (hlost : s.memLost = false)
    (hin : addr + 3 ≤ s.capacity) (hidle : bit (s.targetWord cx cy) 9 = false) (hunknown : bit (s.stateWord cx cy) 9 = false)
    (hu : s.update slot = some u) :
    ∃ w, CellWork s w ∧ w.mem = s.mem ∧ (∀ k, w.update k = s.update k) ∧
      settle false slot (visitCell slot cx cy addr pitch [] (cx, cy, i) s) =
        w.cellAsked cx cy slot (targetLevels (s.bistFam i) cx cy (Mem.bytes s.mem addr 3)) u := by
  have hwork := resTouched_cellWork (s.resKey cx cy i) s
  have hmem := resTouched_mem (s.resKey cx cy i) s
  have hupdate : ∀ k, (resTouched (s.resKey cx cy i) s).update k = s.update k := fun k => by
    unfold State.update
    rw [resTouched_bist]
  refine ⟨_, hwork, hmem, hupdate, ?_⟩
  rw [visitCell_origin hlost hin, hwork.bistFam]
  refine writeCellTarget_asks ?_ ?_ ((hupdate slot).trans hu)
  · rw [hwork.targetWord hmem]
    exact hidle
  · rw [hwork.stateWord hmem]
    exact hunknown

/-- A region of one cell is one visit, after its reads. -/
theorem visited_one {e i slot : Nat} {j : Job} {u : Update} {s : State} (hcw : u.cw = 1) (hch : u.ch = 1)
    (htile : s.tileAt u.cx u.cy = some i) (l : Tab (List JournalEntry)) :
    ∃ m, (s.joined e { j with stage := .running } l).visited slot u =
      visitCell slot u.cx u.cy u.addr u.pitch [] (u.cx, u.cy, i) ((s.updating e j l slot u).asking m) := by
  obtain ⟨m, hm⟩ := regionReads_eq ((s.updating e j l slot u).visitor false slot u.cx u.cy) u.cx u.cy u.cw u.ch u.addr u.pitch
    (s.updating e j l slot u)
  have hgeom : ((s.updating e j l slot u).asking m).geom = s.geom :=
    (State.asking_geom ..).trans (s.updating_geom e j l slot u)
  have hcells : regionCells ((s.updating e j l slot u).asking m) u.cx u.cy u.cw u.ch = [(u.cx, u.cy, i)] := by
    rw [hcw, hch]
    exact regionCells_one ((tileAt_of_geom hgeom ..).trans htile)
  refine ⟨m, (visitRegion_update slot u.cx u.cy u.cw u.ch u.addr u.pitch [] (s.updating e j l slot u)).trans ?_⟩
  rw [hm, hcells]
  rfl

/-- The state before the visit has what the visit looks at as the update's start had it. -/
theorem State.asking_cellWork (s : State) (e : Nat) (j : Job) (l : Tab (List JournalEntry)) (slot : Nat) (u : Update)
    (m : List MemReq) : CellWork s ((s.updating e j l slot u).asking m) :=
  (show CellWork s (s.updating e j l slot u) from rfl).trans rfl

theorem State.asking_update (s : State) (e : Nat) (j : Job) (l : Tab (List JournalEntry)) (slot : Nat) (u : Update)
    (m : List MemReq) (n : Nat) : ((s.updating e j l slot u).asking m).update n = if n = slot then some u else s.update n := by
  split
  · next h =>
    subst h
    exact State.update_setUpdate ..
  · next h => exact State.update_setUpdate_ne _ _ _ _ h

theorem State.asking_mem (s : State) (e : Nat) (j : Job) (l : Tab (List JournalEntry)) (slot : Nat) (u : Update)
    (m : List MemReq) : ((s.updating e j l slot u).asking m).mem = s.mem :=
  (show ((s.updating e j l slot u).asking m).mem = (s.updating e j l slot u).mem from rfl).trans (s.updating_mem e j l slot u)

theorem State.asking_memLost (s : State) (e : Nat) (j : Job) (l : Tab (List JournalEntry)) (slot : Nat) (u : Update)
    (m : List MemReq) : ((s.updating e j l slot u).asking m).memLost = s.memLost :=
  (show ((s.updating e j l slot u).asking m).memLost = (s.updating e j l slot u).memLost from rfl).trans (s.updating_memLost e j l slot u)

theorem State.asking_capacity (s : State) (e : Nat) (j : Job) (l : Tab (List JournalEntry)) (slot : Nat) (u : Update)
    (m : List MemReq) : ((s.updating e j l slot u).asking m).capacity = s.capacity :=
  (show ((s.updating e j l slot u).asking m).capacity = (s.updating e j l slot u).capacity from rfl).trans (s.updating_capacity e j l slot u)

/-- The visit of the only cell of an update. -/
theorem visited_asks {e i slot : Nat} {j : Job} {u : Update} {s : State} (hcw : u.cw = 1) (hch : u.ch = 1)
    (htile : s.tileAt u.cx u.cy = some i) (hlost : s.memLost = false) (hin : u.addr + 3 ≤ s.capacity)
    (hidle : bit (s.targetWord u.cx u.cy) 9 = false) (hunknown : bit (s.stateWord u.cx u.cy) 9 = false)
    (l : Tab (List JournalEntry)) :
    ∃ w, CellWork s w ∧ w.mem = s.mem ∧ (∀ n, n ≠ slot → w.update n = s.update n) ∧
      settle false slot ((s.joined e { j with stage := .running } l).visited slot u) =
        w.cellAsked u.cx u.cy slot (targetLevels (s.bistFam i) u.cx u.cy (Mem.bytes s.mem u.addr 3)) u := by
  obtain ⟨m, hm⟩ := visited_one (e := e) (slot := slot) (j := j) hcw hch htile l
  have hstart := s.asking_cellWork e j l slot u m
  have hupdate := s.asking_update e j l slot u m
  have hmem := s.asking_mem e j l slot u m
  rw [← s.asking_memLost e j l slot u m] at hlost
  rw [← s.asking_capacity e j l slot u m] at hin
  rw [← hstart.targetWord hmem] at hidle
  rw [← hstart.stateWord hmem] at hunknown
  rw [hm, ← hstart.bistFam, ← hmem]
  generalize (s.updating e j l slot u).asking m = start at *
  obtain ⟨w, hw, hwmem, hwupdate, hsettle⟩ := visitCell_asks (pitch := u.pitch) (i := i) hlost hin hidle hunknown
    ((hupdate slot).trans (if_pos rfl))
  exact ⟨w, hstart.trans hw, hwmem, fun n hn => (hwupdate n).trans ((hupdate n).trans (if_neg hn)), hsettle⟩

/-- The update of one unknown cell, once its visit is over. -/
theorem bistUpdate_one {e i k : Nat} {j : Job} {s : State} (ht : TakesSlot e j k s) (h : OneCell j i s) :
    ∃ w l, CellWork s w ∧ w.mem = s.mem ∧ (∀ n, n ≠ 8 * s.ringSpan j.ring + k → w.update n = s.update n) ∧
      startJob e 6 (runBistUpdate .ok []) s = { w.cellAsked j.asUpdate.cx j.asUpdate.cy (8 * s.ringSpan j.ring + k)
        (targetLevels (s.bistFam i) j.asUpdate.cx j.asUpdate.cy (Mem.bytes s.mem j.asUpdate.addr 3)) j.asUpdate with
          journals := l } := by
  obtain ⟨hcw, hch, hin, htile, hidle, hunknown⟩ := h
  obtain ⟨-, -, -, -, hmemory, -⟩ := ht.starts
  obtain ⟨l, hl⟩ := bistUpdate_takes ht
  obtain ⟨w, hw, hwmem, hwupdate, hsettle⟩ := visited_asks (e := e) (slot := 8 * s.ringSpan j.ring + k) (j := j) hcw hch htile
    (hmemory rfl) hin hidle hunknown l
  rw [hsettle] at hl
  obtain ⟨l', hl'⟩ := State.handed_eq e j (w.cellAsked j.asUpdate.cx j.asUpdate.cy (8 * s.ringSpan j.ring + k)
    (targetLevels (s.bistFam i) j.asUpdate.cx j.asUpdate.cy (Mem.bytes s.mem j.asUpdate.addr 3)) j.asUpdate)
  exact ⟨w, l', hw, hwmem, hwupdate, hl.trans hl'⟩

theorem TakesSlot.lt {e k : Nat} {j : Job} {s : State} (h : TakesSlot e j k s) : 8 * s.ringSpan j.ring + k < 64 := by
  have hspan : s.ringSpan j.ring < 8 := Nat.mod_lt _ (by decide)
  have hk := h.slot
  omega

theorem State.cellAsked_stateWord (s : State) (cx cy slot levels : Nat) (u : Update) :
    (s.cellAsked cx cy slot levels u).stateWord cx cy = withBit (s.stateWord cx cy) 11 false :=
  putCell_stateWord (Nat.lt_of_le_of_lt (withBit_false_le ..) (Mem.le_lt s.mem 2 _))

theorem State.cellAsked_targetWord {cx cy slot levels : Nat} (hslot : slot < 64) (hlevels : levels < 512) (u : Update) (s : State) :
    (s.cellAsked cx cy slot levels u).targetWord cx cy = levels + 512 + 1024 * slot := by
  have hat : at_ slot 10 = 1024 * slot := Nat.mul_comm ..
  have hword : (s.cellAsked cx cy slot levels u).targetWord cx cy = levels + 512 + at_ slot 10 := putCell_targetWord (by omega)
  rw [hword, hat]

theorem State.cellAsked_cellWork (s : State) (cx cy slot levels : Nat) (u : Update) :
    CellWork s (s.cellAsked cx cy slot levels u) := rfl

theorem State.cellAsked_update (s : State) (cx cy slot levels : Nat) (u : Update) (m : Nat) :
    (s.cellAsked cx cy slot levels u).update m =
      if m = slot then some { u with tally := { u.tally with left := u.tally.left + 1 } } else s.update m := by
  split
  · next h =>
    subst h
    exact State.update_setUpdate ..
  · next h => exact State.update_setUpdate_ne _ _ _ _ h

/-- A full table of update slots holds the command back, and its ring with it (R199). -/
theorem bistUpdate_stalls {e : Nat} {j : Job} {s : State} (h : Starts e 6 j s) (hregion : ¬(j.asUpdate.cw = 0 ∨ j.asUpdate.ch = 0))
    (hfull : ∀ k, k < 8 → s.update (8 * s.ringSpan j.ring + k) ≠ none) (c : Check) (bad : List (Nat × Nat)) :
    ∃ l, startJob e 6 (runBistUpdate c bad) s = s.joined e { j with stage := .stalled } l := by
  refine startJob_joins h (y := { j with stage := .stalled }) rfl rfl (runBistUpdate_full hregion ?_ c bad)
  obtain ⟨l, hl⟩ := s.began_eq e j
  rw [hl]
  exact hfull

theorem State.joined_stalled (e : Nat) (j : Job) (l : Tab (List JournalEntry)) (s : State) :
    (s.joined e { j with stage := .stalled } l).ringStalled j.ring = true := by
  simp [State.ringStalled]

/-- The update of one unknown cell (R84, R199). -/
theorem bistUpdate_cell {e i k : Nat} {j : Job} {s : State} (ht : TakesSlot e j k s) (h : OneCell j i s) {t : State}
    (hrun : startJob e 6 (runBistUpdate .ok []) s = t) :
    t.targetWord j.asUpdate.cx j.asUpdate.cy =
        targetLevels (s.bistFam i) j.asUpdate.cx j.asUpdate.cy (Mem.bytes s.mem j.asUpdate.addr 3) + 512 +
          1024 * (8 * s.ringSpan j.ring + k) ∧
      t.stateWord j.asUpdate.cx j.asUpdate.cy = withBit (s.stateWord j.asUpdate.cx j.asUpdate.cy) 11 false ∧
      (t.update (8 * s.ringSpan j.ring + k)).map (·.tally) = some { left := 1 } ∧
      (∀ m, m ≠ 8 * s.ringSpan j.ring + k → t.update m = s.update m) ∧ CellWork s t := by
  obtain ⟨w, l, hw, hwmem, hupdate, hone⟩ := bistUpdate_one ht h
  rw [hone] at hrun
  have htarget := State.cellAsked_targetWord (cx := j.asUpdate.cx) (cy := j.asUpdate.cy) ht.lt
    (targetLevels_lt (s.bistFam i) j.asUpdate.cx j.asUpdate.cy (Mem.bytes s.mem j.asUpdate.addr 3)) j.asUpdate w
  have hstate := (w.cellAsked_stateWord j.asUpdate.cx j.asUpdate.cy (8 * s.ringSpan j.ring + k)
    (targetLevels (s.bistFam i) j.asUpdate.cx j.asUpdate.cy (Mem.bytes s.mem j.asUpdate.addr 3)) j.asUpdate)
  have hslot := w.cellAsked_update j.asUpdate.cx j.asUpdate.cy (8 * s.ringSpan j.ring + k)
    (targetLevels (s.bistFam i) j.asUpdate.cx j.asUpdate.cy (Mem.bytes s.mem j.asUpdate.addr 3)) j.asUpdate
  have hwork := w.cellAsked_cellWork j.asUpdate.cx j.asUpdate.cy (8 * s.ringSpan j.ring + k)
    (targetLevels (s.bistFam i) j.asUpdate.cx j.asUpdate.cy (Mem.bytes s.mem j.asUpdate.addr 3)) j.asUpdate
  rw [hw.stateWord hwmem] at hstate
  generalize w.cellAsked _ _ _ _ _ = a at *
  subst hrun
  refine ⟨htarget, hstate, ?_, fun m hm => ?_, (hw.trans hwork).trans rfl⟩
  · exact congrArg (Option.map (·.tally)) ((hslot _).trans (if_pos rfl))
  · exact ((hslot m).trans (if_neg hm)).trans (hupdate m hm)

/-- Settles O31: the visit of a region writes its cells' words alone, and one cell's words are the ones that R199 gives. -/
theorem bistUpdateWritesTargets : Obligations.BistUpdateWritesTargets := by
  intro e j s h
  refine ⟨fun hempty c bad => ?_, fun hcw hch hfull c bad => ?_, fun k hcw hch hk hfree hlow => ?_,
    fun k i cx cy slot hcx hcy hcw hch hin htile hk hslot hfree hlow hidle hunknown => ?_⟩
  · exact ⟨_, rfl, startJob_finishes h (runBistUpdate_empty hempty c bad _)⟩
  · obtain ⟨l, hl⟩ := bistUpdate_stalls h (not_or.mpr ⟨hcw, hch⟩) hfull c bad
    exact ⟨_, congrArg Host.Outcome.next hl, s.joined_stalled .., rfl⟩
  · have htakes : TakesSlot e j k s := ⟨h, not_or.mpr ⟨hcw, hch⟩, hk, hfree, hlow⟩
    obtain ⟨hbytes, howner, hwork⟩ := bistUpdate_region htakes rfl
    exact ⟨_, rfl, hbytes, howner, bistUpdate_memOk e s, hwork⟩
  · subst hcx hcy hslot
    have htakes : TakesSlot e j k s :=
      ⟨h, by simp [Job.asUpdate, hcw, hch], hk, hfree, hlow⟩
    obtain ⟨htarget, hstate, htally, hothers, hwork⟩ := bistUpdate_cell htakes ⟨hcw, hch, hin, htile, hidle, hunknown⟩ rfl
    obtain ⟨hbytes, -, -⟩ := bistUpdate_region htakes rfl
    refine ⟨_, rfl, htarget, hstate, htally, hothers, fun b hb => hbytes b fun c hc => ?_, bistUpdate_memOk e s, hwork⟩
    have hcells : regionCells s j.asUpdate.cx j.asUpdate.cy j.asUpdate.cw j.asUpdate.ch =
        [(j.asUpdate.cx, j.asUpdate.cy, i)] := by
      rw [show j.asUpdate.cw = 1 from hcw, show j.asUpdate.ch = 1 from hch]
      exact regionCells_one htile
    rw [hcells, List.mem_singleton] at hc
    rw [hc]
    exact hb

end Sys2Proof.Machine

/-! ## POWER_REQ (O33) -/

namespace Sys2Proof.Machine

/-! ### Ports begin to idle (R267) -/

/-- `t` differs from `s` by what has left the controller, by ports and by the bistable layer's own records. -/
def Idles (s t : State) : Prop := t = { s with out := t.out, ports := t.ports, bist := t.bist }

theorem Idles.refl (s : State) : Idles s s := rfl

theorem Idles.trans {s t u : State} (h : Idles s t) (k : Idles t u) : Idles s u := by
  unfold Idles at *
  rw [k, h]

theorem Idles.forEach {α : Type} {f : α → State → State} (hf : ∀ a t, Idles t (f a t)) (l : List α) (s : State) :
    Idles s (forEach l f s) :=
  forEach_keeps (Idles s) l f (fun a t ht => ht.trans (hf a t)) s (.refl s)

theorem interruptPass_idles (k : Nat) (s : State) : Idles s (interruptPass k s) := by
  unfold interruptPass
  split
  · exact .refl s
  · rfl

theorem leaveUp_idles (p : Nat) (s : State) : Idles s (leaveUp p s) :=
  ((interruptPass_idles ..).trans (interruptPass_idles ..)).trans rfl

theorem sendPei_idles (p : Nat) (s : State) : Idles s (sendPei p s) := by
  have hsend : ∀ l t, Idles t (sendSymbols p l (List.replicate 16 symPei) t) := fun _ _ => rfl
  have hline : ∀ a l t, Idles t (lineAct p l a t) := fun _ _ _ => rfl
  exact ((Idles.forEach hsend _ s).trans (hline 4 4 _)).trans (.forEach (hline 2) _ _)

theorem beginIdle_idles (p : Nat) (next : AfterIdle) (s : State) : Idles s (beginIdle p next s) := by
  unfold beginIdle
  refine Idles.trans ?_ (t := if ((leaveUp p s).port p).role = 2 then leaveUp p s else _) rfl
  split
  · exact leaveUp_idles p s
  · have hpei := (leaveUp_idles p s).trans (sendPei_idles p (leaveUp p s))
    dsimp only
    split
    · exact hpei.trans rfl
    · exact hpei

/-- An entry to Hold is under way from `s`: its goal, the present state, memory and the registers stay. -/
structure Enters (keep : Bool) (s t : State) : Prop where
  move : ∃ k, t.power.move = .entry k keep
  goal : t.power.goal = s.power.goal
  state : t.power.state = s.power.state
  mem : t.mem = s.mem
  regs : t.regs = s.regs

theorem idlePorts_enters (keep : Bool) (s : State) : Enters keep s (idlePorts keep s) := by
  have hidle : Idles s (forEach s.upPorts (fun p st => beginIdle p .held st) s) := .forEach (fun p t => beginIdle_idles p .held t) _ s
  unfold idlePorts
  unfold Idles at hidle
  refine ⟨⟨5, rfl⟩, ?_, ?_, ?_, ?_⟩ <;> rw [hidle]

theorem powerGo_entry {s : State} {keep : Bool} (h : s.power.move = .entry 2 keep) : powerGo s =
    if !s.quiet then s
    else if s.scan.state = .running then { s with power.move := .entry 3 keep, scan.handover := true }
    else idlePorts keep s := by
  unfold powerGo
  rw [h]
  rfl

/-- An entry to Hold waits, or goes on to the end of the frame or to the ports' idle (R335). -/
theorem powerGo_enters {s : State} {keep : Bool} (h : s.power.move = .entry 2 keep) : Enters keep s (powerGo s) := by
  rw [powerGo_entry h]
  split
  · exact ⟨⟨2, h⟩, rfl, rfl, rfl, rfl⟩
  · split
    · exact ⟨⟨3, rfl⟩, rfl, rfl, rfl, rfl⟩
    · exact idlePorts_enters keep s

/-! ### Trim (R329, R330) -/

/-- Trim asked for in Run waits for a latch point while scan-out is RUNNING, and takes effect at once otherwise. -/
theorem powerRequest_trim {s : State} (h : s.power.state = .run) : powerRequest .trim s =
    if s.scan.state = .running then beginMove .trim (.switch .trim) s else applySwitch .trim (beginMove .trim (.switch .trim) s) := by
  unfold powerRequest
  rw [h]
  rfl

theorem powerRequest_hold {s : State} (h : s.power.state = .run) : powerRequest .hold s = enterHold false false s := by
  unfold powerRequest
  rw [h]

/-- Hold asked for begins its entry (R335). -/
theorem enterHold_enters (keep self : Bool) (s : State) :
    (∃ k, (enterHold keep self s).power.move = .entry k keep) ∧
      (enterHold keep self s).power.goal = (if keep then .keep else .hold) ∧ (enterHold keep self s).power.state = s.power.state ∧
      (enterHold keep self s).mem = s.mem ∧ (enterHold keep self s).regs = s.regs := by
  obtain ⟨hmove, hgoal, hstate, hmem, hregs⟩ := powerGo_enters (keep := keep)
    (s := { beginMove (if keep then .keep else .hold) (.entry 2 keep) s with
      power.selfEntry := self, power.resume := if s.power.state = .trim then PowerState.trim else .run }) rfl
  exact ⟨hmove, hgoal, hstate, hmem, hregs⟩

/-- The power state is the one asked for, and is told: LTR and event (R330, R346, R351). -/
def switched (target : PowerState) (s : State) : State :=
  { reachedEvent target (sendLtr false { s with power.state := target }) with power.move := .none }

theorem applySwitch_eq (target : PowerState) (s : State) :
    applySwitch target s = endPowerReg target.code (endPowerRing target.code (switched target s)) := rfl

/-- A switch tells of itself: beside the state and the end of the transition only reports change. -/
theorem switched_reports (target : PowerState) (s : State) :
    Reports { s with power := { s.power with state := target, move := .none } } (switched target s) := by
  have hltr : Reports { s with power := { s.power with state := target } }
      (sendLtr false { s with power := { s.power with state := target } }) := rfl
  have hevent : ∀ t, Reports t (reachedEvent target t) := fun t => raiseEvent_reports ..
  have h := hltr.trans (hevent _)
  unfold switched
  unfold Reports at *
  rw [h]

theorem endPowerReg_idle {s : State} (h : s.power.fromReg = false) (code : Nat) : endPowerReg code s = s :=
  if_neg (by rw [h]; decide)

theorem endPowerReg_runs {s : State} (h : s.power.fromReg = true) (code : Nat) :
    endPowerReg code s = endLong code { s with power.fromReg := false } := if_pos h

theorem endPowerRing_idle {s : State} (h : s.power.fromRing = none) (code : Nat) : endPowerRing code s = s := by
  unfold endPowerRing
  rw [h]

theorem endPowerRing_runs {s : State} {r sl : Nat} {j : Job} (h : s.power.fromRing = some (r, sl)) (hj : s.jobAt r sl = some j)
    (code : Nat) : endPowerRing code s = finishJob j 0 code { s with power.fromRing := none } := by
  have hj' : ({ s with power.fromRing := none } : State).jobAt r sl = some j := hj
  unfold endPowerRing
  rw [h]
  dsimp only
  rw [hj']

/-- A ring's request ends with the switch: its command completes with the target's code. -/
theorem applySwitch_ring {target : PowerState} {r sl : Nat} {j : Job} {s : State} (hring : s.power.fromRing = some (r, sl))
    (hreg : s.power.fromReg = false) (hj : s.jobAt r sl = some j) :
    applySwitch target s = finishJob j 0 target.code { switched target s with power.fromRing := none } := by
  have hsw := switched_reports target s
  have hring' : (switched target s).power.fromRing = some (r, sl) := by
    rw [hsw]
    exact hring
  have hreg' : (switched target s).power.fromReg = false := by
    rw [hsw]
    exact hreg
  have hj' : (switched target s).jobAt r sl = some j := by
    unfold State.jobAt
    rw [hsw.jobs_eq]
    exact hj
  have hend : (finishJob j 0 target.code { switched target s with power.fromRing := none }).power.fromReg = false := by
    rw [finishJob_completes]
    exact hreg'
  rw [applySwitch_eq, endPowerRing_runs hring' hj', endPowerReg_idle hend]

/-- A register's request ends with the switch: RESULT is the target's code. -/
theorem applySwitch_reg {target : PowerState} {s : State} (hring : s.power.fromRing = none) (hreg : s.power.fromReg = true) :
    applySwitch target s = endLong target.code { switched target s with power.fromReg := false } := by
  have hsw := switched_reports target s
  have hring' : (switched target s).power.fromRing = none := by
    rw [hsw]
    exact hring
  have hreg' : (switched target s).power.fromReg = true := by
    rw [hsw]
    exact hreg
  rw [applySwitch_eq, endPowerRing_idle hring', endPowerReg_runs hreg']

/-! ### Requests (R87, R328) -/

/-- The origin of a request: a ring's command or the register. -/
def State.askedBy (s : State) (ring : Option (Nat × Nat)) (reg : Bool) : State :=
  { s with power := { s.power with fromRing := ring, fromReg := reg } }

theorem runPowerReq_same {j : Job} {s : State} {p : PowerState} (hp : PowerState.ofCode (wd j.desc 2) = some p)
    (h : p = s.power.state) : runPowerReq j s = finishJob j 0 p.code s := by
  unfold runPowerReq
  rw [hp]
  exact if_pos h

theorem runPowerReq_asks {j : Job} {s : State} {p : PowerState} (hp : PowerState.ofCode (wd j.desc 2) = some p)
    (h : p ≠ s.power.state) : runPowerReq j s = powerRequest p (s.askedBy (some (j.ring, j.slot)) false) := by
  unfold runPowerReq
  rw [hp]
  exact if_neg h

/-- A POWER_REQ for another state as its ring engine hands it over. -/
theorem powerReq_starts {e : Nat} {j : Job} {p : PowerState} {s : State} (h : Starts e 10 j s)
    (hp : PowerState.ofCode (wd j.desc 2) = some p) (hother : p ≠ s.power.state) :
    ∃ l, startJob e 10 runPowerReq s =
      (powerRequest p ((s.joined e { j with stage := .running } l).askedBy (some (j.ring, j.slot)) false)).handed e j := by
  obtain ⟨l, hl⟩ := s.began_eq e j
  refine ⟨l, ?_⟩
  rw [startJob_starts h, hl]
  exact congrArg (State.handed e j) (runPowerReq_asks hp hother)

/-- `t` differs from `s` by ring work and power. -/
def PowerWork (s t : State) : Prop := RingWork { s with power := t.power } t

theorem PowerWork.trans {s t u : State} (h : PowerWork s t) (k : PowerWork t u) : PowerWork s u := by
  unfold PowerWork RingWork at *
  rw [k, h]

theorem Completes.powerWork {s t : State} (h : Completes s t) : PowerWork s t := by
  unfold Completes Reports at h
  unfold PowerWork RingWork
  rw [h]

theorem State.joined_jobAt {e : Nat} {j x : Job} {s : State} (h : s.Gone j) (hr : x.ring = j.ring) (hs : x.slot = j.slot)
    (l : Tab (List JournalEntry)) : (s.joined e x l).jobAt j.ring j.slot = some x := by
  have hnone : s.jobs.find? (fun y => y.ring == j.ring && y.slot == j.slot) = none := State.jobAt_eq_none h
  unfold State.jobAt
  rw [State.joined_jobs, List.find?_append, hnone]
  simp [hr, hs]

/-- The switch to Trim that a ring's command asks for. -/
def State.trimAsked (s : State) (e : Nat) (j : Job) (l : Tab (List JournalEntry)) : State :=
  beginMove .trim (.switch .trim) ((s.joined e { j with stage := .running } l).askedBy (some (j.ring, j.slot)) false)

theorem State.trimAsked_jobAt {e : Nat} {j : Job} {s : State} (h : s.Gone j) (l : Tab (List JournalEntry)) :
    (s.trimAsked e j l).jobAt j.ring j.slot = some { j with stage := .running } :=
  State.joined_jobAt (e := e) (x := { j with stage := .running }) h rfl rfl l

theorem State.trimAsked_powerWork (s : State) (e : Nat) (j : Job) (l : Tab (List JournalEntry)) : PowerWork s (s.trimAsked e j l) := rfl

theorem trim_asked {e : Nat} {j : Job} {s : State} (h : Starts e 10 j s) (hp : PowerState.ofCode (wd j.desc 2) = some .trim)
    (hrun : s.power.state = .run) : ∃ l, startJob e 10 runPowerReq s =
      (if s.scan.state = .running then s.trimAsked e j l else applySwitch .trim (s.trimAsked e j l)).handed e j := by
  obtain ⟨l, hl⟩ := powerReq_starts h hp (by rw [hrun]; decide)
  rw [powerRequest_trim (s := (s.joined e { j with stage := .running } l).askedBy (some (j.ring, j.slot)) false) hrun] at hl
  exact ⟨l, hl⟩

theorem switched_powerWork (target : PowerState) (s : State) : PowerWork s (switched target s) := by
  have h := switched_reports target s
  unfold Reports at h
  unfold PowerWork RingWork
  rw [h]

/-- Trim asked for by a ring while scan-out is STOPPED takes effect at once and ends the command (R330). -/
theorem trim_stopped {e : Nat} {j : Job} {s : State} (h : Starts e 10 j s) (hp : PowerState.ofCode (wd j.desc 2) = some .trim)
    (hrun : s.power.state = .run) (hscan : s.scan.state = .stopped) {t : State} (ht : startJob e 10 runPowerReq s = t) :
    t.power.state = .trim ∧ t.power.move = .none ∧ t.Gone j ∧ PowerWork s t := by
  obtain ⟨l, hl⟩ := trim_asked h hp hrun
  rw [ht, if_neg (by rw [hscan]; decide), applySwitch_ring (s := s.trimAsked e j l) (r := j.ring) (sl := j.slot) rfl rfl
    (State.trimAsked_jobAt h.fresh l)] at hl
  have hswitched := switched_reports .trim (s.trimAsked e j l)
  have hstate : (switched .trim (s.trimAsked e j l)).power.state = .trim := by rw [hswitched]
  have hmove : (switched .trim (s.trimAsked e j l)).power.move = .none := rfl
  have hwork : PowerWork s (switched .trim (s.trimAsked e j l)) :=
    (s.trimAsked_powerWork e j l).trans (switched_powerWork ..)
  generalize switched .trim (s.trimAsked e j l) = v at *
  have hgone : (finishJob { j with stage := .running } 0 PowerState.trim.code { v with power.fromRing := none }).Gone j :=
    finishJob_gone _ _ _ _
  have hends := finishJob_completes { j with stage := .running } 0 PowerState.trim.code { v with power.fromRing := none }
  rw [State.handed_gone hgone] at hl
  subst hl
  refine ⟨?_, ?_, hgone, (hwork.trans (u := { v with power.fromRing := none }) rfl).trans hends.powerWork⟩
  · rw [hends]
    exact hstate
  · rw [hends]
    exact hmove

/-- Trim asked for by a ring while scan-out is RUNNING waits for a latch point (R330). -/
theorem trim_waits {e : Nat} {j : Job} {s : State} (h : Starts e 10 j s) (hp : PowerState.ofCode (wd j.desc 2) = some .trim)
    (hrun : s.power.state = .run) (hscan : s.scan.state = .running) :
    ∃ l, startJob e 10 runPowerReq s = { s.trimAsked e j l with journals := l } := by
  obtain ⟨l, hl⟩ := trim_asked h hp hrun
  obtain ⟨l', hl'⟩ := State.handed_eq e j (s.trimAsked e j l)
  rw [if_pos hscan, hl'] at hl
  exact ⟨l', hl⟩

/-- Hold asked for by a ring begins its entry (R335). -/
theorem hold_enters {e : Nat} {j : Job} {s : State} (h : Starts e 10 j s) (hp : PowerState.ofCode (wd j.desc 2) = some .hold)
    (hrun : s.power.state = .run) {t : State} (ht : startJob e 10 runPowerReq s = t) :
    (∃ k, t.power.move = .entry k false) ∧ t.power.goal = .hold ∧ t.power.state = .run ∧ t.mem = s.mem ∧ t.regs = s.regs := by
  obtain ⟨l, hl⟩ := powerReq_starts h hp (by rw [hrun]; decide)
  rw [powerRequest_hold (s := (s.joined e { j with stage := .running } l).askedBy (some (j.ring, j.slot)) false) hrun] at hl
  obtain ⟨hmove, hgoal, hstate, hmem, hregs⟩ := enterHold_enters false false
    ((s.joined e { j with stage := .running } l).askedBy (some (j.ring, j.slot)) false)
  generalize enterHold false false _ = u at *
  obtain ⟨l', hl'⟩ := State.handed_eq e j u
  rw [ht, hl'] at hl
  subst hl
  exact ⟨hmove, hgoal, hstate.trans hrun, hmem, hregs⟩

/-! ### Requests from the register (R328 to R330) -/

/-- The register's request for another state, as the long operation that it is (R53). -/
def State.powerAsked (s : State) : State := startLong 3 (s.askedBy none true)

theorem powerReqReg_same {v : Nat} {p : PowerState} {s : State} (hp : PowerState.ofCode (v % 8) = some p) (h : p = s.power.state) :
    powerReqReg v s = s := by
  unfold powerReqReg
  rw [hp]
  exact if_pos h

theorem powerReqReg_asks {v : Nat} {p : PowerState} {s : State} (hp : PowerState.ofCode (v % 8) = some p) (h : p ≠ s.power.state)
    (hfatal : s.faultg.fatal = false) : powerReqReg v s = powerRequest p s.powerAsked := by
  have hfatal' : s.powerAsked.faultg.fatal = false := hfatal
  unfold powerReqReg
  rw [hp]
  refine (if_neg h).trans (if_neg ?_)
  exact ne_true_of_eq_false hfatal'

theorem PowerState.ofCode_lt {n : Nat} {p : PowerState} (h : PowerState.ofCode n = some p) : n < 5 := by
  by_contra hn
  obtain ⟨m, rfl⟩ := Nat.exists_eq_add_of_le' (Nat.le_of_not_lt hn)
  cases h

/-- The write of POWER_REQ that no test refuses is the request, and an entry that can go on goes on. -/
theorem powerReqWrite_eq {v : Nat} {p : PowerState} {s : State} (hs : s.Open) (hv : v < 2 ^ 32)
    (hp : PowerState.ofCode (v % 8) = some p) (hno : powerRefused p s = false) :
    writeReg .powerReq v s = powerGo (powerReqReg v s) := by
  have hbusy : regBusy .powerReq v s = false := by
    show (s.power.move != .none) = false
    rw [hs.move_eq]
    rfl
  have hstate : regState .powerReq v s = false := by
    unfold regState
    rw [hp]
    exact hno
  have hrange : regRange .powerReq v s = false := by
    unfold regRange
    simpa using PowerState.ofCode_lt hp
  exact writeReg_plain .powerReq v s hs.reachable (locate_aligned rfl) hv
    (writeKind_open .powerReq v s hs (by decide) rfl hbusy hstate hrange) rfl

theorem powerGo_switch {s : State} {p : PowerState} (h : s.power.move = .switch p) : powerGo s = s := by
  unfold powerGo
  rw [h]

/-- Trim asked for by the register while scan-out is STOPPED takes effect at once, with RESULT 1 (R330). -/
theorem trimReg_stopped {s t : State}
    (ht : applySwitch .trim (beginMove .trim (.switch .trim) s.powerAsked) = t) :
    t.power.state = .trim ∧ t.power.move = .none ∧ t.glob = { s.glob with busy := false, op := 3, done := true, result := 1 } ∧
      Reports { s with power := t.power, glob := t.glob } t := by
  have hswitched := switched_reports .trim (beginMove .trim (.switch .trim) s.powerAsked)
  rw [applySwitch_reg (s := beginMove .trim (.switch .trim) s.powerAsked) rfl rfl] at ht
  have hstate : (switched .trim (beginMove .trim (.switch .trim) s.powerAsked)).power.state = .trim := by rw [hswitched]
  have hmove : (switched .trim (beginMove .trim (.switch .trim) s.powerAsked)).power.move = .none := rfl
  have hglob : (switched .trim (beginMove .trim (.switch .trim) s.powerAsked)).glob = { s.glob with busy := true, op := 3 } :=
    hswitched.glob_eq
  generalize switched .trim (beginMove .trim (.switch .trim) s.powerAsked) = v at *
  subst ht
  refine ⟨hstate, hmove, ?_, ?_⟩
  · show { v.glob with busy := false, done := true, result := 1 } = _
    rw [hglob]
  · unfold Reports at *
    rw [hswitched]
    rfl

/-- Settles O33: a request for the present state moves nothing; Trim waits for a latch point or takes effect; Hold begins. -/
theorem powerRequestsMove : Obligations.PowerRequestsMove := by
  refine ⟨fun e j p s h hp => ⟨fun hsame => ?_, fun hrun htrim hscan => ?_, fun hrun htrim hscan => ?_, fun hrun hhold => ?_⟩,
    fun v p s hs hv hp hno => ⟨fun hsame => ?_, fun hrun htrim hscan => ?_, fun hrun htrim hscan => ?_⟩⟩
  · refine ⟨_, rfl, startJob_finishes h (runPowerReq_same hp (hsame.trans ?_))⟩
    obtain ⟨l, hl⟩ := s.began_eq e j
    rw [hl]
    rfl
  · subst htrim
    obtain ⟨l, hl⟩ := trim_waits h hp hrun hscan
    refine ⟨_, congrArg Host.Outcome.next hl, ?_⟩
    rw [← hrun]
    rfl
  · subst htrim
    exact ⟨_, rfl, trim_stopped h hp hrun hscan rfl⟩
  · subst hhold
    obtain ⟨⟨k, hmove⟩, hrest⟩ := hold_enters h hp hrun rfl
    exact ⟨_, k, rfl, hmove, hrest⟩
  · refine congrArg Host.Outcome.next ((powerReqWrite_eq hs hv hp hno).trans ?_)
    rw [powerReqReg_same hp hsame, powerGo_none s hs.move_eq]
  · subst htrim
    refine congrArg Host.Outcome.next ((powerReqWrite_eq hs hv hp hno).trans ?_)
    rw [powerReqReg_asks hp (by rw [hrun]; decide) hs.fatal_eq, powerRequest_trim (s := s.powerAsked) hrun,
      if_pos (show s.powerAsked.scan.state = .running from hscan), powerGo_switch (p := .trim) rfl, ← hrun]
    rfl
  · subst htrim
    have hne : s.powerAsked.scan.state ≠ .running := fun hr => by
      rw [show s.powerAsked.scan.state = .stopped from hscan] at hr
      cases hr
    obtain ⟨hstate, hmove, hglob, hreports⟩ := trimReg_stopped (s := s) rfl
    refine ⟨_, congrArg Host.Outcome.next ((powerReqWrite_eq hs hv hp hno).trans ?_), hstate, hmove, hglob, hreports⟩
    rw [powerReqReg_asks hp (by rw [hrun]; decide) hs.fatal_eq, powerRequest_trim (s := s.powerAsked) hrun, if_neg hne,
      powerGo_none _ hmove]

end Sys2Proof.Machine

/-! ## Store commands (O34) -/

namespace Sys2Proof.Machine

/-! ### Passwords (R362) -/

/-- The failure count of a partition has a value. -/
def State.counted (s : State) (part n : Nat) : State := { s with nvs := { s.nvs with fails := s.nvs.fails.set part n } }

theorem passwordOf_of_pages {s t : State} (hp : t.nvs.pages = s.nvs.pages) (hr : t.nvs.replaced = s.nvs.replaced) (part : Nat)
    (write : Bool) : passwordOf t part write = passwordOf s part write := by
  unfold passwordOf State.readPage State.bestCopy State.serving State.phys
  rw [hp, hr]

/-- The right password of a partition that is not locked sets its count to 0. -/
theorem checkPassword_right {part pw : Nat} {write : Bool} {s : State} (hopen : bit s.nvs.locked part = false)
    (h : passwordOf s part write = some pw) : checkPassword part write pw s = (none, s.counted part 0) :=
  (if_neg (by simp [hopen])).trans (if_pos h)

/-- A wrong password that is not the third failure counts one, and tells the attempts left. -/
theorem checkPassword_wrong {part pw : Nat} {write : Bool} {s : State} (hopen : bit s.nvs.locked part = false)
    (h : passwordOf s part write ≠ some pw) (hfew : wd s.nvs.fails part < 2) :
    checkPassword part write pw s = (some (2 - wd s.nvs.fails part), s.counted part (wd s.nvs.fails part + 1)) := by
  have hleft : 3 - (wd s.nvs.fails part + 1) = 2 - wd s.nvs.fails part := by omega
  refine (if_neg (by simp [hopen])).trans ((if_neg h).trans ((if_pos (by omega)).trans ?_))
  rw [hleft]
  rfl

theorem nvsJob_right {j : Job} {write : Bool} {s : State} (hopen : bit s.nvs.locked (wd j.desc 2 % 4) = false)
    (h : passwordOf s (wd j.desc 2 % 4) write = some (wd64 j.desc 4)) (work : State → State) :
    nvsJob j write work s = work (s.counted (wd j.desc 2 % 4) 0) := by
  unfold nvsJob
  rw [checkPassword_right hopen h]

theorem nvsJob_wrong {j : Job} {write : Bool} {s : State} (hopen : bit s.nvs.locked (wd j.desc 2 % 4) = false)
    (h : passwordOf s (wd j.desc 2 % 4) write ≠ some (wd64 j.desc 4)) (hfew : wd s.nvs.fails (wd j.desc 2 % 4) < 2)
    (work : State → State) : nvsJob j write work s = finishJob j 5 (2 - wd s.nvs.fails (wd j.desc 2 % 4))
      (s.counted (wd j.desc 2 % 4) (wd s.nvs.fails (wd j.desc 2 % 4) + 1)) := by
  unfold nvsJob
  rw [checkPassword_wrong hopen h hfew]

theorem nvsGuarded_right {part : Nat} {write : Bool} {s : State} (hopen : bit s.nvs.locked part = false)
    (h : passwordOf s part write = some s.nvs.pass) (long : Bool) (op : NvsOp) :
    nvsGuarded long part write op s = nvsRequest op (s.counted part 0) := by
  unfold nvsGuarded
  rw [checkPassword_right hopen h]

/-! ### An operation starts in an idle store (R360, R365) -/

/-- The store is idle: no operation runs or waits, and its start-up scan has ended. -/
structure State.StoreIdle (s : State) : Prop where
  current : s.nvs.current = none
  scanned : s.nvs.scanned = true
  queue : s.nvs.queue = []

theorem State.StoreIdle.of_nvs {s t : State} (h : s.StoreIdle) (hc : t.nvs.current = s.nvs.current)
    (hs : t.nvs.scanned = s.nvs.scanned) (hq : t.nvs.queue = s.nvs.queue) : t.StoreIdle :=
  ⟨hc.trans h.current, hs.trans h.scanned, hq.trans h.queue⟩

/-- An operation stands alone in the queue. -/
def State.queued (s : State) (op : NvsOp) : State := { s with nvs := { s.nvs with queue := [op] } }

theorem nvsRequest_idle {s : State} (h : s.StoreIdle) (op : NvsOp) : nvsRequest op s = nvsKick 2 (s.queued op) := by
  unfold nvsRequest nvsGo
  rw [h.queue]
  rfl

theorem nextOp_queued {op : NvsOp} (h : op.isInternal = false) (s : State) : nextOp (s.queued op) = some (op, []) := by
  simp [nextOp, State.queued, h]

/-- The front of an idle store's queue is taken up. -/
theorem nvsKick_queued {op : NvsOp} {s : State} (h : s.StoreIdle) :
    ((s.queued op).nvs.current.isSome || !(s.queued op).nvs.scanned) = false := by
  have hcur : (s.queued op).nvs.current = none := h.current
  have hscan : (s.queued op).nvs.scanned = true := h.scanned
  rw [hcur, hscan]
  rfl

/-- A read of a ring that is asked for in an idle store starts at once. -/
theorem nvsRequest_ringRead {s : State} (h : s.StoreIdle) (r sl part page off len host : Nat) :
    nvsRequest (.ringRead r sl part page off len host) s =
      { s with nvs := { s.nvs with current := some (.ringRead r sl part page off len host) } } := by
  have hstart : nvsKick 2 (s.queued (.ringRead r sl part page off len host)) =
      { s with nvs := { s.nvs with queue := [], current := some (.ringRead r sl part page off len host) } } := by
    rw [nvsKick, nvsKick_queued h, nextOp_queued rfl]
    rfl
  rw [nvsRequest_idle h, hstart, ← h.queue]

theorem nvsRequest_regRead {s : State} (h : s.StoreIdle) (part page off len : Nat) :
    nvsRequest (.regRead part page off len) s =
      { s with nvs := { s.nvs with current := some (.regRead part page off len) } } := by
  have hstart : nvsKick 2 (s.queued (.regRead part page off len)) =
      { s with nvs := { s.nvs with queue := [], current := some (.regRead part page off len) } } := by
    rw [nvsKick, nvsKick_queued h, nextOp_queued rfl]
    rfl
  rw [nvsRequest_idle h, hstart, ← h.queue]

theorem pinSample_high {s : State} (h : s.nvs.pwrfailHigh = true) : pinSample s = s := if_pos h

theorem maceReason_pass {s : State} (h : maceReason s = 0) : s.nvs.pwrfailHigh = true := by
  cases hhigh : s.nvs.pwrfailHigh with
  | true => rfl
  | false => simp [maceReason, hhigh] at h

/-- A page write that passes its Mace check starts at once in an idle store (R357, R365). -/
theorem nvsRequest_write {op : NvsOp} {part page : Nat} {s : State} (h : s.StoreIdle) (hext : op.isInternal = false)
    (htarget : op.target (s.queued op) = some (part, page)) (hwrites : op.writesNothing = false) (hmace : maceReason s = 0) :
    ∃ n, nvsRequest op s = { s with nvs := n } ∧ n.current = some op ∧ n.queue = [] ∧ n.lastOp = s.nvs.lastOp := by
  have hpin : pinSample (s.queued op) = s.queued op := pinSample_high (maceReason_pass hmace)
  have hreason : maceReason (maceSample 1 (s.queued op)) = 0 := hmace
  obtain ⟨p, hp⟩ := eraseTarget_eq part page
    { maceSample 1 (s.queued op) with nvs := { (maceSample 1 (s.queued op)).nvs with queue := [], current := some op } }
  refine ⟨{ (maceSample 1 (s.queued op)).nvs with queue := [], current := some op, pages := p }, ?_, rfl, rfl, rfl⟩
  rw [nvsRequest_idle h, nvsKick, nvsKick_queued h, nextOp_queued hext]
  simp only [htarget, hwrites, hpin, hreason, Bool.false_eq_true, if_false, if_true]
  exact hp

/-- A host save (R376). -/
def NvsOp.isSave : NvsOp → Bool
  | .regSave => true
  | .ringSave _ _ => true
  | _ => false

/-- The energy for a tier-1 save with no log write queued is there, and the supply is (R365, R374). -/
structure State.SavePasses (s : State) : Prop where
  high : s.nvs.pwrfailHigh = true
  supply : s.nvs.supplyOk = true
  energy : energyNeed (recordPages (recordBytes s) + 10) ≤ energyAt s.nvs.capUf s.nvs.vhold

/-- The pages of a save with no log write queued (R374). -/
def State.savePages (s : State) : Nat := recordPages (recordBytes s) + 10

/-- A host save has taken its values, and runs (R376). -/
def State.saving (s : State) (op : NvsOp) : State :=
  { maceSample s.savePages (s.queued op) with
    nvs := { (maceSample s.savePages (s.queued op)).nvs with queue := [], current := some op, keepCopy := some (saveValues (s.queued op)) } }

/-- A save that starts changes the store alone. -/
theorem State.saving_eq (s : State) (op : NvsOp) : ∃ n, s.saving op = { s with nvs := n } ∧ n.current = some op ∧ n.queue = [] :=
  ⟨_, rfl, rfl, rfl⟩

theorem queuedLogPages_queued {op : NvsOp} (h : op.isSave = true) (s : State) : queuedLogPages (s.queued op) = 0 := by
  cases op with
  | regSave => rfl
  | ringSave r sl => rfl
  | _ => cases h

/-- The Mace check of a save finds supply and energy. -/
theorem State.SavePasses.reason {s : State} (h : s.SavePasses) (op : NvsOp) :
    (if !(maceSample s.savePages (s.queued op)).nvs.pwrfailHigh || !(maceSample s.savePages (s.queued op)).nvs.supplyOk then 1
      else if energyAt (maceSample s.savePages (s.queued op)).nvs.capUf (maceSample s.savePages (s.queued op)).nvs.vhold <
        energyNeed s.savePages then 2 else 0) = 0 := by
  have hsupply : (!s.nvs.pwrfailHigh || !s.nvs.supplyOk) = false := by rw [h.high, h.supply]; rfl
  exact (if_neg (ne_true_of_eq_false hsupply)).trans (if_neg (Nat.not_lt.mpr h.energy))

/-- A save that passes its Mace check starts at once in an idle store, with its values taken (R365, R376). -/
theorem nvsRequest_save {op : NvsOp} (hop : op.isSave = true) {s : State} (h : s.StoreIdle) (hpass : s.SavePasses) :
    nvsRequest op s = s.saving op := by
  have hpin : pinSample (s.queued op) = s.queued op := pinSample_high hpass.high
  have hpages : queuedLogPages (s.queued op) + recordPages (saveValues (s.queued op)).record + 10 = s.savePages := by
    rw [queuedLogPages_queued hop, Nat.zero_add]
    rfl
  have hreason := hpass.reason op
  cases op with
  | regSave =>
    rw [nvsRequest_idle h, nvsKick, nvsKick_queued h, nextOp_queued rfl]
    simp only [NvsOp.target, hpages, hpin, hreason, Bool.false_eq_true, if_false, if_true]
    rfl
  | ringSave r sl =>
    rw [nvsRequest_idle h, nvsKick, nvsKick_queued h, nextOp_queued rfl]
    simp only [NvsOp.target, hpages, hpin, hreason, Bool.false_eq_true, if_false, if_true]
    rfl
  | _ => cases hop

/-! ### Ring commands of the store (R88) -/

/-- The command as it runs, with work on the state that it joined. -/
theorem startJob_joined {e op : Nat} {j : Job} {s : State} (h : Starts e op j s) (work : Job → State → State) :
    ∃ l, startJob e op work s = (work j (s.joined e { j with stage := .running } l)).handed e j := by
  obtain ⟨l, hl⟩ := s.began_eq e j
  exact ⟨l, by rw [startJob_starts h, hl]⟩

/-- A command that ends as it starts, with what its work changed before. -/
theorem startJob_ends {e op st d : Nat} {j : Job} {s u : State} (h : Starts e op j s) {work : Job → State → State}
    (hw : ∀ l, work j (s.joined e { j with stage := .running } l) =
      finishJob j st d { u with jobs := u.jobs ++ [{ j with stage := .running }], journals := l }) :
    Ends j st d u (startJob e op work s) := by
  obtain ⟨l, hl⟩ := startJob_joined h work
  have hends := finishJob_ends_started j { j with stage := .running } st d u l rfl rfl
  rw [hl, hw, State.handed_gone hends.gone]
  exact hends

/-- The partition that a command of the store names. -/
def Job.partition (j : Job) : Nat := wd j.desc 2 % 4

/-- The store takes a command of an open partition. -/
structure StoreTakes (j : Job) (s : State) : Prop where
  idle : s.StoreIdle
  isOpen : bit s.nvs.locked j.partition = false

theorem State.joined_passwordOf (e : Nat) (x : Job) (l : Tab (List JournalEntry)) (s : State) (part : Nat) (write : Bool) :
    passwordOf (s.joined e x l) part write = passwordOf s part write := passwordOf_of_pages rfl rfl part write

/-- The right password on a command as it runs. -/
theorem nvsJob_joined {e : Nat} {j x : Job} {write : Bool} {s : State} (h : StoreTakes j s)
    (hpw : passwordOf s j.partition write = some (wd64 j.desc 4)) (l : Tab (List JournalEntry)) (work : State → State) :
    nvsJob j write work (s.joined e x l) = work ((s.joined e x l).counted j.partition 0) :=
  nvsJob_right (s := s.joined e x l) h.isOpen ((State.joined_passwordOf ..).trans hpw) work

/-- A wrong password ends a command of the store with ACCESS and the attempts left (R88, R362). -/
theorem nvsJob_access {e op : Nat} {j : Job} {write : Bool} {s : State} (h : Starts e op j s) (ht : StoreTakes j s)
    (hpw : passwordOf s j.partition write ≠ some (wd64 j.desc 4)) (hfew : wd s.nvs.fails j.partition < 2)
    {work : Job → State → State} {f : State → State} (hw : ∀ t, work j t = nvsJob j write f t) :
    Ends j 5 (2 - wd s.nvs.fails j.partition)
      { s.took e with nvs := { s.nvs with fails := s.nvs.fails.set j.partition (wd s.nvs.fails j.partition + 1) } }
      (startJob e op work s) := by
  refine startJob_ends h fun l => (hw _).trans ?_
  exact nvsJob_wrong (s := s.joined e { j with stage := .running } l) ht.isOpen
    (fun hr => hpw ((State.joined_passwordOf ..).symm.trans hr)) hfew f

/-- The bytes that a command of the store is to move. -/
def Job.storeLen (j : Job) : Nat := fld (wd j.desc 3) 31 16

/-- The read that an NVS_READ asks for (R88). -/
def Job.readOp (j : Job) : NvsOp :=
  .ringRead j.ring j.slot j.partition (fld (wd j.desc 2) 15 8) (fld (wd j.desc 3) 15 0) j.storeLen (wd64 j.desc 6)

/-- The write that an NVS_WRITE asks for (R88). -/
def Job.writeOp (j : Job) (data : List Nat) : NvsOp :=
  .ringWrite j.ring j.slot j.partition (fld (wd j.desc 2) 15 8) (fld (wd j.desc 3) 15 0) data

/-- The work of an NVS_READ once its password is found right. -/
def readWork (j : Job) (s : State) : State := if j.storeLen = 0 then finishJob j 0 0 s else nvsRequest j.readOp s

theorem runNvsRead_eq (j : Job) (s : State) : runNvsRead j s = nvsJob j false (readWork j) s := rfl

/-- The state in which a command of the store has begun, its password found right. -/
def State.admitted (s : State) (e : Nat) (j : Job) (l : Tab (List JournalEntry)) : State :=
  (s.joined e { j with stage := .running } l).counted j.partition 0

/-- The command runs, with what it asked of the store. -/
def State.storeRuns (s : State) (e : Nat) (j : Job) (n : Nvs) (l : Tab (List JournalEntry)) : State :=
  { s.took e with jobs := s.jobs ++ [{ j with stage := .running }], journals := l, nvs := n }

theorem StoreTakes.admitted {j : Job} {s : State} (h : StoreTakes j s) (e : Nat) (l : Tab (List JournalEntry)) :
    (s.admitted e j l).StoreIdle := ⟨h.idle.current, h.idle.scanned, h.idle.queue⟩

/-- A read of at least one byte runs (R88). -/
theorem nvsRead_runs {e : Nat} {j : Job} {s : State} (h : Starts e 11 j s) (ht : StoreTakes j s)
    (hpw : passwordOf s j.partition false = some (wd64 j.desc 4)) (hlen : 0 < j.storeLen) :
    ∃ l', startJob e 11 runNvsRead s =
      s.storeRuns e j { s.nvs with fails := s.nvs.fails.set j.partition 0, current := some j.readOp } l' := by
  obtain ⟨l, hl⟩ := startJob_joined h runNvsRead
  have hread : runNvsRead j (s.joined e { j with stage := .running } l) = { s.admitted e j l with
      nvs := { (s.admitted e j l).nvs with current := some j.readOp } } := by
    rw [runNvsRead_eq, nvsJob_joined ht hpw]
    exact (if_neg (Nat.ne_of_gt hlen)).trans (nvsRequest_ringRead (ht.admitted e l) ..)
  obtain ⟨l', hl'⟩ := State.handed_eq e j { s.admitted e j l with
    nvs := { (s.admitted e j l).nvs with current := some j.readOp } }
  rw [hread, hl'] at hl
  exact ⟨l', hl⟩

/-- A read of no bytes completes with OK (R75). -/
theorem nvsRead_empty {e : Nat} {j : Job} {s : State} (h : Starts e 11 j s) (ht : StoreTakes j s)
    (hpw : passwordOf s j.partition false = some (wd64 j.desc 4)) (hlen : j.storeLen = 0) :
    Ends j 0 0 { s.took e with nvs := { s.nvs with fails := s.nvs.fails.set j.partition 0 } } (startJob e 11 runNvsRead s) := by
  refine startJob_ends h fun l => ?_
  rw [runNvsRead_eq, nvsJob_joined ht hpw]
  exact if_pos hlen

/-- The work of an NVS_WRITE once its password is found right. -/
def writeWork (data : Option (List Nat)) (j : Job) (s : State) : State :=
  if j.storeLen = 0 then finishJob j 0 0 s
  else (hostBytes j.storeLen data).elim (readFailed j (s.emit (.hostRead (wd64 j.desc 6) j.storeLen))) fun l =>
    nvsRequest (j.writeOp l) (s.emit (.hostRead (wd64 j.desc 6) j.storeLen))

/-- Partitions 0 and 3 take no NVS_WRITE (R362). -/
theorem runNvsWrite_protected {j : Job} (h : j.partition = 0 ∨ j.partition = 3) (data : Option (List Nat)) (s : State) :
    runNvsWrite data j s = finishJob j 5 (accessDetail j.partition s) s := if_pos h

theorem runNvsWrite_eq {j : Job} (h0 : j.partition ≠ 0) (h3 : j.partition ≠ 3) (data : Option (List Nat)) (s : State) :
    runNvsWrite data j s = nvsJob j true (writeWork data j) s := by
  have hwork : writeWork data j = fun s =>
      if fld (wd j.desc 3) 31 16 = 0 then finishJob j 0 0 s
      else
        let s := s.emit (.hostRead (wd64 j.desc 6) (fld (wd j.desc 3) 31 16))
        match hostBytes (fld (wd j.desc 3) 31 16) data with
        | none => readFailed j s
        | some l => nvsRequest (j.writeOp l) s := by
    funext s
    unfold writeWork Job.storeLen
    cases hostBytes (fld (wd j.desc 3) 31 16) data <;> rfl
  rw [hwork]
  exact if_neg (not_or.mpr ⟨h0, h3⟩)

theorem accessDetail_open {part : Nat} {s : State} (h : bit s.nvs.locked part = false) :
    accessDetail part s = 3 - wd s.nvs.fails part := if_neg (by rw [h]; decide)

theorem nvsWrite_protected {e : Nat} {j : Job} {s : State} (h : Starts e 12 j s) (ht : StoreTakes j s)
    (hpart : j.partition = 0 ∨ j.partition = 3) (data : Option (List Nat)) :
    Ends j 5 (3 - wd s.nvs.fails j.partition) (s.took e) (startJob e 12 (runNvsWrite data) s) := by
  refine startJob_ends h fun l => (runNvsWrite_protected hpart data _).trans ?_
  rw [accessDetail_open (s := s.joined e { j with stage := .running } l) ht.isOpen]
  rfl

/-- An NVS_WRITE of a partition that takes writes, its password right, in the state that it joined. -/
theorem runNvsWrite_joined {e : Nat} {j : Job} {s : State} (ht : StoreTakes j s) (h0 : j.partition ≠ 0) (h3 : j.partition ≠ 3)
    (hpw : passwordOf s j.partition true = some (wd64 j.desc 4)) (data : Option (List Nat)) (l : Tab (List JournalEntry)) :
    runNvsWrite data j (s.joined e { j with stage := .running } l) = writeWork data j (s.admitted e j l) := by
  rw [runNvsWrite_eq h0 h3, nvsJob_joined ht hpw]
  rfl

theorem writeWork_empty {j : Job} (h : j.storeLen = 0) (data : Option (List Nat)) (s : State) :
    writeWork data j s = finishJob j 0 0 s := if_pos h

theorem writeWork_failed {j : Job} {data : Option (List Nat)} (h : 0 < j.storeLen) (hdata : hostBytes j.storeLen data = none)
    (s : State) : writeWork data j s = readFailed j (s.emit (.hostRead (wd64 j.desc 6) j.storeLen)) := by
  refine (if_neg (Nat.ne_of_gt h)).trans ?_
  rw [hdata]
  rfl

theorem writeWork_asks {j : Job} {data : Option (List Nat)} {l : List Nat} (h : 0 < j.storeLen)
    (hdata : hostBytes j.storeLen data = some l) (s : State) :
    writeWork data j s = nvsRequest (j.writeOp l) (s.emit (.hostRead (wd64 j.desc 6) j.storeLen)) := by
  refine (if_neg (Nat.ne_of_gt h)).trans ?_
  rw [hdata]
  rfl

/-- A write of no bytes completes with OK (R75). -/
theorem nvsWrite_empty {e : Nat} {j : Job} {s : State} (h : Starts e 12 j s) (ht : StoreTakes j s) (h0 : j.partition ≠ 0)
    (h3 : j.partition ≠ 3) (hpw : passwordOf s j.partition true = some (wd64 j.desc 4)) (hlen : j.storeLen = 0)
    (data : Option (List Nat)) :
    Ends j 0 0 { s.took e with nvs := { s.nvs with fails := s.nvs.fails.set j.partition 0 } }
      (startJob e 12 (runNvsWrite data) s) := by
  refine startJob_ends h fun l => ?_
  rw [runNvsWrite_joined ht h0 h3 hpw, writeWork_empty hlen]
  rfl

/-- A write whose host read fails completes with MEDIA (R77, R88). -/
theorem nvsWrite_failed {e : Nat} {j : Job} {s : State} (h : Starts e 12 j s) (ht : StoreTakes j s) (h0 : j.partition ≠ 0)
    (h3 : j.partition ≠ 3) (hpw : passwordOf s j.partition true = some (wd64 j.desc 4)) (hlen : 0 < j.storeLen)
    {data : Option (List Nat)} (hdata : hostBytes j.storeLen data = none) :
    Ends j 7 (Config.freeValue s.free % 2 ^ 32)
      { s.took e with free := s.free + 1, nvs := { s.nvs with fails := s.nvs.fails.set j.partition 0 },
                      out := s.out ++ [.hostRead (wd64 j.desc 6) j.storeLen] }
      (startJob e 12 (runNvsWrite data) s) := by
  refine startJob_ends h fun l => ?_
  rw [runNvsWrite_joined ht h0 h3 hpw, writeWork_failed hlen hdata]
  rfl

theorem hostBytes_length {n : Nat} {data : Option (List Nat)} {l : List Nat} (h : hostBytes n data = some l) : l.length = n := by
  unfold hostBytes at h
  split at h
  · split at h
    · next hle =>
      cases h
      simpa using hle
    · cases h
  · cases h

/-- A write that passes its Mace check runs (R88, R365). -/
theorem nvsWrite_runs {e : Nat} {j : Job} {s : State} (h : Starts e 12 j s) (ht : StoreTakes j s) (h0 : j.partition ≠ 0)
    (h3 : j.partition ≠ 3) (hpw : passwordOf s j.partition true = some (wd64 j.desc 4)) (hlen : 0 < j.storeLen)
    {data : Option (List Nat)} {b : List Nat} (hdata : hostBytes j.storeLen data = some b) (hmace : maceReason s = 0) :
    ∃ l' n, startJob e 12 (runNvsWrite data) s = (s.storeRuns e j n l').emit (.hostRead (wd64 j.desc 6) j.storeLen) ∧
      n.current = some (j.writeOp b) ∧ n.queue = [] := by
  obtain ⟨l, hl⟩ := startJob_joined h (runNvsWrite data)
  have hwrites : (j.writeOp b).writesNothing = false := by
    show b.isEmpty = false
    rw [List.isEmpty_eq_false_iff_exists_mem]
    exact List.exists_mem_of_length_pos (hostBytes_length hdata ▸ hlen)
  have hidle : ((s.admitted e j l).emit (.hostRead (wd64 j.desc 6) j.storeLen)).StoreIdle :=
    (ht.admitted e l).of_nvs rfl rfl rfl
  obtain ⟨n, hn, hcur, hqueue, -⟩ := nvsRequest_write hidle (op := j.writeOp b) rfl rfl hwrites hmace
  rw [runNvsWrite_joined ht h0 h3 hpw, writeWork_asks hlen hdata, hn] at hl
  obtain ⟨l', hl'⟩ := State.handed_eq e j { (s.admitted e j l).emit (.hostRead (wd64 j.desc 6) j.storeLen) with nvs := n }
  exact ⟨l', n, hl.trans hl', hcur, hqueue⟩

theorem recordBytes_of_bist {s t : State} (h : t.bist = s.bist) : recordBytes t = recordBytes s := by
  unfold recordBytes recordUpdates recordPasses State.update State.drive
  rw [h]

theorem State.SavePasses.of_eq {s t : State} (h : s.SavePasses) (hb : t.bist = s.bist) (hh : t.nvs.pwrfailHigh = s.nvs.pwrfailHigh)
    (hs : t.nvs.supplyOk = s.nvs.supplyOk) (hc : t.nvs.capUf = s.nvs.capUf) (hv : t.nvs.vhold = s.nvs.vhold) : t.SavePasses := by
  refine ⟨hh.trans h.high, hs.trans h.supply, ?_⟩
  rw [recordBytes_of_bist hb, hc, hv]
  exact h.energy

theorem runNvsSave_eq (j : Job) (s : State) : runNvsSave j s = nvsJob j true (nvsRequest (.ringSave j.ring j.slot)) s := rfl

/-- A save that passes its Mace check runs (R88, R376). -/
theorem nvsSave_runs {e : Nat} {j : Job} {s : State} (h : Starts e 13 j s) (ht : StoreTakes j s)
    (hpw : passwordOf s j.partition true = some (wd64 j.desc 4)) (hpass : s.SavePasses) :
    ∃ l' n, startJob e 13 runNvsSave s = s.storeRuns e j n l' ∧ n.current = some (.ringSave j.ring j.slot) ∧ n.queue = [] := by
  obtain ⟨l, hl⟩ := startJob_joined h runNvsSave
  have hsave : runNvsSave j (s.joined e { j with stage := .running } l) = (s.admitted e j l).saving (.ringSave j.ring j.slot) := by
    rw [runNvsSave_eq, nvsJob_joined ht hpw]
    exact nvsRequest_save rfl (ht.admitted e l) (hpass.of_eq rfl rfl rfl rfl rfl)
  obtain ⟨n, hn, hcur, hqueue⟩ := (s.admitted e j l).saving_eq (.ringSave j.ring j.slot)
  obtain ⟨l', hl'⟩ := State.handed_eq e j { s.admitted e j l with nvs := n }
  rw [hsave, hn, hl'] at hl
  exact ⟨l', n, hl, hcur, hqueue⟩

/-! ### Register operations of the store (R361, R363, R376, R378) -/

/-- OP takes a value, and the other fields of the word stay. -/
theorem withFld_op {v k : Nat} (hv : v < 2 ^ 32) (hk : k < 8) : withFld v 2 0 k % 8 = k ∧ withFld v 2 0 k < 2 ^ 32 ∧
    fld (withFld v 2 0 k) 5 4 = fld v 5 4 ∧ fld (withFld v 2 0 k) 13 8 = fld v 13 8 := by
  have hword : withFld v 2 0 k = v - v % 8 + k := by simp [withFld, fld, at_, Nat.mod_eq_of_lt hk]
  rw [hword]
  simp only [fld]
  omega

/-- NVS_CMD takes a value. -/
def State.cmdStored (s : State) (v : Nat) : State := s.wr .nvsCmd (Reg.nvsCmd.keep v)

theorem State.cmdStored_range (s : State) (v hi lo : Nat) : (s.cmdStored v).f .nvsRange hi lo = s.f .nvsRange hi lo :=
  congrArg (fld · hi lo) (State.rd_wr_ne s .nvsCmd .nvsRange _ (by decide))

/-- A register operation of kind n has been asked for. -/
def State.opNoted (s : State) (n : Nat) : State := { s with nvs := { s.nvs with lastOp := n } }

/-- A register read has been asked for (R378). -/
def State.readNoted (s : State) : State := { s with nvs := { s.nvs with lastOp := 1, reading := true } }

theorem nvsCmdWrite_read {v : Nat} (h : v % 8 = 1) (s : State) :
    nvsCmdWrite v s = nvsGuarded false (fld v 5 4) false
      (.regRead (fld v 5 4) (fld v 13 8) (s.f .nvsRange 10 0) (s.f .nvsRange 27 16)) (s.cmdStored v).readNoted := by
  unfold nvsCmdWrite
  rw [h]
  show nvsGuarded _ _ _ (.regRead _ _ ((s.cmdStored v).f .nvsRange 10 0) ((s.cmdStored v).f .nvsRange 27 16)) _ = _
  rw [s.cmdStored_range, s.cmdStored_range]
  rfl

theorem nvsCmdWrite_write {v : Nat} (h : v % 8 = 2) (s : State) :
    nvsCmdWrite v s = if fld v 5 4 = 0 ∨ fld v 5 4 = 3 then nvsDenied true (startLong 1 ((s.cmdStored v).opNoted 2))
      else nvsGuarded true (fld v 5 4) true
        (.regWrite (fld v 5 4) (fld v 13 8) (s.f .nvsRange 10 0) (s.f .nvsRange 27 16)) (startLong 1 ((s.cmdStored v).opNoted 2)) := by
  unfold nvsCmdWrite
  rw [h, ← s.cmdStored_range v 10 0, ← s.cmdStored_range v 27 16]
  rfl

theorem nvsCmdWrite_save {v : Nat} (h : v % 8 = 3) (s : State) :
    nvsCmdWrite v s = nvsGuarded true 3 true .regSave (startLong 2 ((s.cmdStored v).opNoted 3)) := by
  unfold nvsCmdWrite
  rw [h]
  rfl

/-- A write of NVS_CMD that no test refuses has its operation's effect and no more, where no power transition follows. -/
theorem writeReg_nvsCmd {v : Nat} {s t : State} (hs : s.Open) (hv : v < 2 ^ 32) (hop : v % 8 < 4)
    (hpage : fld v 13 8 < partPages (fld v 5 4)) (hsave : v % 8 = 3 → fld v 5 4 = 3) (hread : s.nvs.reading = false)
    (hring : s.ringNvs = false) (ht : nvsCmdWrite v s = t) (hmove : t.power.move = .none) : writeReg .nvsCmd v s = t := by
  have hbusy : regBusy .nvsCmd v s = false := by simp [regBusy, hread, hring]
  have hrange : regRange .nvsCmd v s = false := by
    simp only [regRange, Bool.or_eq_false_iff, decide_eq_false_iff_not, not_le]
    refine ⟨⟨hop, hpage⟩, ?_⟩
    simpa using hsave
  have hwrite : regWrite .nvsCmd v s = t := ht
  rw [← hwrite] at hmove ⊢
  exact writeReg_open .nvsCmd v hs rfl hv (by decide) rfl hbusy rfl hrange hmove

/-- A store command of the register that no test refuses and that finds the store idle. -/
structure CmdTaken (v : Nat) (s : State) : Prop where
  isOpen : s.Open
  value : v < 2 ^ 32
  page : fld v 13 8 < partPages (fld v 5 4)
  reading : s.nvs.reading = false
  ring : s.ringNvs = false
  idle : s.StoreIdle
  unlocked : bit s.nvs.locked (fld v 5 4) = false

/-- NVS_CMD with OP k is the operation of k, where no power transition follows. -/
theorem CmdTaken.writes {v k : Nat} {s t : State} (h : CmdTaken v s) (hk : k < 4) (hsave : k = 3 → fld v 5 4 = 3)
    (ht : nvsCmdWrite (withFld v 2 0 k) s = t) (hmove : t.power.move = s.power.move) :
    writeReg .nvsCmd (withFld v 2 0 k) s = t := by
  obtain ⟨hop, hlt, hpart, hpage⟩ := withFld_op h.value (k := k) (by omega)
  refine writeReg_nvsCmd h.isOpen hlt (by omega) ?_ ?_ h.reading h.ring ht (hmove.trans h.isOpen.move_eq)
  · rw [hpart, hpage]
    exact h.page
  · rw [hop, hpart]
    exact hsave

/-- NVS_CMD READ with the right password starts the read (R361, R378). -/
theorem nvsCmdRead_runs {v : Nat} {s : State} (h : CmdTaken v s) (hpw : passwordOf s (fld v 5 4) false = some s.nvs.pass) :
    writeReg .nvsCmd (withFld v 2 0 1) s =
      { (s.cmdStored (withFld v 2 0 1)).readNoted.counted (fld v 5 4) 0 with
        nvs := { ((s.cmdStored (withFld v 2 0 1)).readNoted.counted (fld v 5 4) 0).nvs with
          current := some (.regRead (fld v 5 4) (fld v 13 8) (s.f .nvsRange 10 0) (s.f .nvsRange 27 16)) } } := by
  obtain ⟨hop, -, hpart, hpage⟩ := withFld_op h.value (k := 1) (by decide)
  have hidle : ((s.cmdStored (withFld v 2 0 1)).readNoted.counted (fld v 5 4) 0).StoreIdle := h.idle.of_nvs rfl rfl rfl
  refine h.writes (by decide) (fun h => nomatch h) ?_ rfl
  rw [nvsCmdWrite_read hop, hpart, hpage, nvsGuarded_right (s := (s.cmdStored (withFld v 2 0 1)).readNoted) h.unlocked
    ((passwordOf_of_pages rfl rfl ..).trans hpw)]
  exact nvsRequest_regRead hidle ..

/-- NVS_CMD WRITE of a partition that takes none ends at once with ACCESS (R362, R378). -/
theorem nvsCmdWrite_protected {v : Nat} {s : State} (h : CmdTaken v s) (hpart : fld v 5 4 = 0 ∨ fld v 5 4 = 3) :
    writeReg .nvsCmd (withFld v 2 0 2) s = nvsDenied true (startLong 1 ((s.cmdStored (withFld v 2 0 2)).opNoted 2)) := by
  obtain ⟨hop, -, hsame, hpage⟩ := withFld_op h.value (k := 2) (by decide)
  refine h.writes (by decide) (fun h => nomatch h) ?_ rfl
  rw [nvsCmdWrite_write hop, hsame, if_pos hpart]

/-- NVS_CMD WRITE with the right password that passes its Mace check starts the page write (R357, R378). -/
theorem nvsCmdWrite_runs {v : Nat} {s : State} (h : CmdTaken v s) (h0 : fld v 5 4 ≠ 0) (h3 : fld v 5 4 ≠ 3)
    (hpw : passwordOf s (fld v 5 4) true = some s.nvs.pass) (hlen : 0 < s.f .nvsRange 27 16) (hmace : maceReason s = 0) :
    ∃ n, writeReg .nvsCmd (withFld v 2 0 2) s =
        { (startLong 1 ((s.cmdStored (withFld v 2 0 2)).opNoted 2)).counted (fld v 5 4) 0 with nvs := n } ∧
      n.current = some (.regWrite (fld v 5 4) (fld v 13 8) (s.f .nvsRange 10 0) (s.f .nvsRange 27 16)) ∧ n.lastOp = 2 := by
  obtain ⟨hop, -, hpart, hpage⟩ := withFld_op h.value (k := 2) (by decide)
  have hwrites : (NvsOp.regWrite (fld v 5 4) (fld v 13 8) (s.f .nvsRange 10 0) (s.f .nvsRange 27 16)).writesNothing = false := by
    show (s.f .nvsRange 27 16 == 0) = false
    simpa using Nat.ne_of_gt hlen
  have hidle : ((startLong 1 ((s.cmdStored (withFld v 2 0 2)).opNoted 2)).counted (fld v 5 4) 0).StoreIdle := h.idle.of_nvs rfl rfl rfl
  obtain ⟨n, hn, hcur, -, hlast⟩ := nvsRequest_write hidle rfl rfl hwrites hmace
  refine ⟨n, h.writes (by decide) (fun h => nomatch h) ?_ rfl, hcur, hlast⟩
  rw [nvsCmdWrite_write hop, hpart, hpage, if_neg (not_or.mpr ⟨h0, h3⟩),
    nvsGuarded_right (s := startLong 1 ((s.cmdStored (withFld v 2 0 2)).opNoted 2)) h.unlocked
      ((passwordOf_of_pages rfl rfl ..).trans hpw), hn]

/-- NVS_CMD SAVE with the right password that passes its Mace check starts the save (R376, R378). -/
theorem nvsCmdSave_runs {v : Nat} {s : State} (h : CmdTaken v s) (hpart : fld v 5 4 = 3)
    (hpw : passwordOf s 3 true = some s.nvs.pass) (hpass : s.SavePasses) :
    writeReg .nvsCmd (withFld v 2 0 3) s =
      ((startLong 2 ((s.cmdStored (withFld v 2 0 3)).opNoted 3)).counted 3 0).saving .regSave := by
  obtain ⟨hop, -, -, -⟩ := withFld_op h.value (k := 3) (by decide)
  refine h.writes (by decide) (fun _ => hpart) ?_ rfl
  rw [nvsCmdWrite_save hop, nvsGuarded_right (s := startLong 2 ((s.cmdStored (withFld v 2 0 3)).opNoted 3)) (hpart ▸ h.unlocked)
    ((passwordOf_of_pages rfl rfl ..).trans hpw)]
  exact nvsRequest_save rfl (h.idle.of_nvs rfl rfl rfl) (hpass.of_eq rfl rfl rfl rfl rfl)

/-- SET is 1 and the other fields of the word stay. -/
theorem withBit_set {v : Nat} (hv : v < 2 ^ 32) : withBit v 3 true % 4 = v % 4 ∧ withBit v 3 true < 2 ^ 32 ∧
    bit (withBit v 3 true) 3 = true ∧ bit (withBit v 3 true) 2 = bit v 2 := by
  refine ⟨?_, withBit_lt true hv (by decide), bit_withBit .., bit_withBit_ne v true (by decide)⟩
  unfold withBit
  simp only [if_true]
  split
  · rfl
  · omega

/-- NVS_KEY_CTL takes a value, and SET_PASSWORD has been asked for. -/
def State.keyNoted (s : State) (v : Nat) : State := startLong 1 ((s.wr .nvsKeyCtl (Reg.nvsKeyCtl.keep v)).opNoted 5)

theorem nvsKeyWrite_set {v : Nat} (hset : bit v 3 = true) (hpart : v % 4 ≠ 0) (s : State) :
    nvsKeyWrite v s = nvsGuarded true (v % 4) true (.setPassword (v % 4) (bit v 2)) (s.keyNoted v) :=
  (if_pos hset).trans (if_neg hpart)

/-- A write of NVS_KEY_CTL that no test refuses has its operation's effect and closes the lock (R46, R363). -/
theorem writeReg_nvsKeyCtl {v : Nat} {s t : State} (hs : s.Open) (hv : v < 2 ^ 32) (hlock : s.glob.unlocked = true)
    (hring : s.ringNvs = false) (ht : nvsKeyWrite v s = t) (hmove : t.power.move = .none) :
    writeReg .nvsKeyCtl v s = { t with glob := { t.glob with unlocked := false } } := by
  obtain ⟨-, -, htests⟩ := writeTestsInOrder
  have hbusy : regBusy .nvsKeyCtl v s = false := by simp [regBusy, hring]
  have hkind : writeKind .nvsKeyCtl v s = none := by
    rw [htests .nvsKeyCtl v s hs (by decide) fun _ => hlock, hbusy]
    rfl
  have hwrite : regWrite .nvsKeyCtl v s = t := ht
  rw [writeReg_accept .nvsKeyCtl v s hs.reachable (locate_aligned rfl) hv hkind, hwrite, powerGo_none _ hmove]
  rfl

/-- SET_PASSWORD with the right password that passes its Mace check starts (R363). -/
theorem setPassword_runs {v : Nat} {s : State} (hs : s.Open) (hv : v < 2 ^ 32) (hlock : s.glob.unlocked = true)
    (hring : s.ringNvs = false) (hidle : s.StoreIdle) (hopen : bit s.nvs.locked (v % 4) = false) (hpart : v % 4 ≠ 0)
    (hpw : passwordOf s (v % 4) true = some s.nvs.pass) (hmace : maceReason s = 0) :
    ∃ n, writeReg .nvsKeyCtl (withBit v 3 true) s =
        { (s.keyNoted (withBit v 3 true)).counted (v % 4) 0 with
          nvs := n, glob := { s.glob with busy := true, op := 1, unlocked := false } } ∧
      n.current = some (.setPassword (v % 4) (bit v 2)) ∧ n.lastOp = 5 := by
  obtain ⟨hsame, hlt, hset, hkind⟩ := withBit_set hv
  have hidle' : ((s.keyNoted (withBit v 3 true)).counted (v % 4) 0).StoreIdle := hidle.of_nvs rfl rfl rfl
  obtain ⟨n, hn, hcur, -, hlast⟩ := nvsRequest_write (op := .setPassword (v % 4) (bit v 2)) hidle' rfl rfl rfl hmace
  have hwrite : nvsKeyWrite (withBit v 3 true) s = { (s.keyNoted (withBit v 3 true)).counted (v % 4) 0 with nvs := n } := by
    rw [nvsKeyWrite_set hset (by rw [hsame]; exact hpart), hsame, hkind,
      nvsGuarded_right (s := s.keyNoted (withBit v 3 true)) hopen ((passwordOf_of_pages rfl rfl ..).trans hpw), hn]
  exact ⟨n, writeReg_nvsKeyCtl hs hlt hlock hring hwrite hs.move_eq, hcur, hlast⟩

/-- Settles O34: the password decides; a command that passes becomes the running operation of an idle store. -/
theorem storeCommandsStart : Obligations.StoreCommandsStart := by
  refine ⟨fun e op part j s data h hpart hcur hscan hqueue hopen => ?_,
    fun v part s hs hv hpart hpage hread hring hcur hscan hqueue hopen => ?_,
    fun v s hs hv hlock hring hcur hscan hqueue hopen hpart hpw hmace => ?_⟩
  · subst hpart
    have ht : StoreTakes j s := ⟨⟨hcur, hscan, hqueue⟩, hopen⟩
    refine ⟨fun hop hpw => ⟨fun hlen => ?_, fun hlen => ?_⟩, fun hop hpw hfew => ?_, fun hop hprot => ?_,
      fun hop h0 h3 hpw => ⟨fun hlen => ?_, fun hlen hdata => ?_, fun b hlen hdata hmace => ?_⟩,
      fun hop h0 h3 hpw hfew => ?_, fun hop hpw hhigh hsupply henergy => ?_, fun hop hpw hfew => ?_⟩ <;> subst hop
    · obtain ⟨l', hrun⟩ := nvsRead_runs h ht hpw hlen
      exact ⟨_, congrArg Host.Outcome.next hrun, rfl⟩
    · exact ⟨_, rfl, nvsRead_empty h ht hpw hlen⟩
    · exact ⟨_, rfl, nvsJob_access h ht hpw hfew (runNvsRead_eq j)⟩
    · exact ⟨_, rfl, nvsWrite_protected h ht hprot data⟩
    · exact ⟨_, rfl, nvsWrite_empty h ht h0 h3 hpw hlen data⟩
    · exact ⟨_, _, rfl, nvsWrite_failed h ht h0 h3 hpw hlen hdata⟩
    · obtain ⟨l', n, hrun, hcurrent, hempty⟩ := nvsWrite_runs h ht h0 h3 hpw hlen hdata hmace
      exact ⟨_, congrArg Host.Outcome.next hrun, hcurrent, hempty, rfl⟩
    · exact ⟨_, rfl, nvsJob_access h ht hpw hfew (runNvsWrite_eq h0 h3 data)⟩
    · obtain ⟨l', n, hrun, hcurrent, hempty⟩ := nvsSave_runs h ht hpw ⟨hhigh, hsupply, henergy⟩
      exact ⟨_, congrArg Host.Outcome.next hrun, hcurrent, hempty, rfl⟩
    · exact ⟨_, rfl, nvsJob_access h ht hpw hfew (runNvsSave_eq j)⟩
  · subst hpart
    have ht : CmdTaken v s := ⟨hs, hv, hpage, hread, hring, ⟨hcur, hscan, hqueue⟩, hopen⟩
    refine ⟨fun hpw => ?_, fun hprot => ?_, fun h0 h3 hpw hlen hmace => ?_, fun h3 hpw hhigh hsupply henergy => ?_⟩
    · exact ⟨_, congrArg Host.Outcome.next (nvsCmdRead_runs ht hpw), rfl, rfl, rfl, rfl⟩
    · refine ⟨_, congrArg Host.Outcome.next (nvsCmdWrite_protected ht hprot), rfl, ?_, rfl⟩
      obtain ⟨-, -, hbusy, -⟩ := hs
      show { s.glob with busy := false, op := 1, done := true, result := 5 } = _
      rw [← hbusy]
    · obtain ⟨n, hn, hcurrent, hlast⟩ := nvsCmdWrite_runs ht h0 h3 hpw hlen hmace
      exact ⟨_, congrArg Host.Outcome.next hn, rfl, hlast, hcurrent, rfl⟩
    · exact ⟨_, congrArg Host.Outcome.next (nvsCmdSave_runs ht h3 hpw ⟨hhigh, hsupply, henergy⟩), rfl, rfl, rfl, rfl⟩
  · obtain ⟨n, hn, hcurrent, hlast⟩ := setPassword_runs hs hv hlock hring ⟨hcur, hscan, hqueue⟩ hopen hpart hpw hmace
    exact ⟨_, congrArg Host.Outcome.next hn, rfl, hlast, hcurrent, rfl⟩

end Sys2Proof.Machine

/-! ## Alerts (O36) -/

namespace Sys2Proof.Machine

/-! ### A change of the alert where pipe 0 stands twice in the table of pipes

A content change marks every pipe (R333), and a mark that leaves pipe 0 at its default clears every entry of pipe 0. So a second
entry, whose change waits, makes the state one that sweeps before the mark and one that does not after it; the surface of the
alert that is cleared is then not held (R315). The canonical form `Tab.wf` excludes such a table, but the statement has no premise
that asks for it. -/

/-- An ALERT_CLEAR of ring 0. -/
def clearJob : Job := { ring := 0, slot := 0, engine := 0, desc := [17], stage := .running }

/-- An alert is shown while scan-out is STOPPED, and a second entry of pipe 0 has a change that waits. -/
def pipeTwice : State :=
  { engines := [(0, { job := some clearJob })], pipes := [(0, {}), (0, { waiting := some [] })],
    alert := { work := some { surf := {}, alpha := 0, x := 0, y := 0 } } }

theorem pipeTwice_starts : Starts 0 17 clearJob pipeTwice := by decide

theorem pipeTwice_sweeping : pipeTwice.sweeping = true := by decide

/-- The cleared alert's surface is let go, for the marked state does not sweep (R315). -/
theorem runAlertClear_pipeTwice_old : (startJob 0 17 runAlertClear pipeTwice).alert.old = [] := by decide

/-- Refutes O36: in a table that holds pipe 0 twice, the mark of a content change ends the sweep of the second entry, and the
surface of the alert that ALERT_CLEAR takes away is let go where the statement has it held. -/
theorem not_alertsShowAndSweep : ¬ Obligations.AlertsShowAndSweep := by
  unfold Obligations.AlertsShowAndSweep
  rintro ⟨hchange, -, -, -⟩
  obtain ⟨hstopped, -, -, -⟩ := hchange 0 (.alertClear 0) 17 none clearJob pipeTwice
    (.inr ⟨rfl, rfl, rfl, by decide⟩) pipeTwice_starts
  obtain ⟨t, hexec, halert, -⟩ := hstopped (by decide) (by decide)
  have hstart : startJob 0 17 runAlertClear pipeTwice = t := Host.Outcome.next.inj hexec
  have hheld : t.alert.old = pipeTwice.alert.work.toList := by
    rw [halert, pipeTwice_sweeping]
    rfl
  rw [← hstart, runAlertClear_pipeTwice_old] at hheld
  exact absurd hheld (by decide)

end Sys2Proof.Machine

/-! ## Received packets and the repeats of the safety packets (O51) -/

namespace Sys2Proof.Machine

/-! ### Responses (R85, R296) -/

/-- A packet that is taken has left its port's queue. -/
theorem takeRx_some {p k : Nat} {x : Packet} {s u : State} (h : takeRx p k s = some (x, u)) :
    u = s.modPort p fun q => { q with rx := q.rx.erase x } := by
  obtain ⟨y, -, hy⟩ := Option.map_eq_some_iff.mp h
  obtain ⟨rfl, rfl⟩ := Prod.mk.inj hy
  rfl

theorem takeRx_portOnly {p k : Nat} {x : Packet} {s u : State} (h : takeRx p k s = some (x, u)) : PortOnly p s u := by
  rw [takeRx_some h]
  exact State.modPort_portOnly ..

/-- The CMD that a response answers: the port's, by hop and TAG (R296). -/
def State.answered (s : State) (p : Nat) (x : Packet) : Option Cmd :=
  (s.port p).cmds.find? fun c => c.sent && c.hop == x.hop && c.tag == wd x.body 0

theorem rspReceive_off {p : Nat} {s : State} (h : s.portEngineOn p = false) : rspReceive p s = s := by
  unfold rspReceive
  rw [h]
  rfl

theorem rspReceive_unmatched {p : Nat} {x : Packet} {s u : State} (hon : s.portEngineOn p = true)
    (hrx : takeRx p 5 s = some (x, u)) (hc : u.answered p x = none) : rspReceive p s = u := by
  unfold State.answered at hc
  unfold rspReceive
  simp only [hon, hrx, hc, Bool.not_true, Bool.false_eq_true, if_false]

theorem rspReceive_tile {p n slot : Nat} {x : Packet} {c : Cmd} {j : Job} {s u : State} (hon : s.portEngineOn p = true)
    (hrx : takeRx p 5 s = some (x, u)) (hc : u.answered p x = some c) (ho : c.owner = .tile n slot)
    (hj : s.jobAt n slot = some j) : rspReceive p s = tileAnswer j (x.body.drop 1) (dropCmd p c u) := by
  have hjob : (dropCmd p c u).jobAt n slot = some j := by
    rw [((takeRx_portOnly hrx).trans (dropCmd_portOnly p c u)).1]
    exact hj
  unfold State.answered at hc
  unfold rspReceive
  simp only [hon, hrx, hc, ho, hjob, Bool.not_true, Bool.false_eq_true, if_false]

/-- The payload of a response, cut at the command's RSP_MAX (R85). -/
def Job.answerCut (j : Job) (l : List Nat) : List Nat := l.take (fld (wd j.desc 3) 31 16)

theorem tileAnswer_writes {j : Job} {l : List Nat} (h : j.answerCut l ≠ []) (s : State) :
    tileAnswer j l s = finishJob j 0 l.length (s.emit (.hostWrite (wd64 j.desc 6) (j.answerCut l))) := by
  have hsome : (j.answerCut l).isEmpty = false := by simpa using h
  unfold Job.answerCut at *
  unfold tileAnswer
  dsimp only
  rw [hsome]
  rfl

theorem Job.answerCut_drop {j : Job} {l : List Nat} (hmax : 0 < fld (wd j.desc 3) 31 16) (hl : 1 < l.length) :
    j.answerCut (l.drop 1) ≠ [] := by
  rw [Job.answerCut, ← List.length_pos_iff, List.length_take, List.length_drop]
  omega

/-- A response that answers a TILE_CMD writes its payload to the host and completes the command (R85). -/
theorem rspReceive_answers {p n slot : Nat} {x : Packet} {c : Cmd} {j : Job} {s u : State} (hmove : s.power.move = .none)
    (hon : s.portEngineOn p = true) (hrx : takeRx p 5 s = some (x, u)) (hc : u.answered p x = some c) (ho : c.owner = .tile n slot)
    (hj : s.jobAt n slot = some j) (hmax : 0 < fld (wd j.desc 3) 31 16) (hl : 1 < x.body.length) :
    ∃ t, powerGo (rspReceive p s) = t ∧ (∀ q, q ≠ p → t.port q = s.port q) ∧
      Ends j 0 (x.body.length - 1) { s with ports := t.ports, out := s.out ++
        [.hostWrite (wd64 j.desc 6) ((x.body.drop 1).take (fld (wd j.desc 3) 31 16))] } t := by
  have honly := (takeRx_portOnly hrx).trans (dropCmd_portOnly p c u)
  have hanswer := rspReceive_tile hon hrx hc ho hj
  rw [tileAnswer_writes (Job.answerCut_drop hmax hl), List.length_drop] at hanswer
  generalize dropCmd p c u = v at honly hanswer
  obtain ⟨hv, hother⟩ := honly
  have hends := finishJob_ends j 0 (x.body.length - 1) (v.emit (.hostWrite (wd64 j.desc 6) (j.answerCut (x.body.drop 1))))
  rw [← hanswer] at hends
  obtain ⟨hcompletes, -⟩ := id hends
  generalize rspReceive p s = t at hcompletes hends
  have hports : t.ports = v.ports := by
    rw [hcompletes]
    rfl
  have hstate : v.emit (.hostWrite (wd64 j.desc 6) (j.answerCut (x.body.drop 1))) = { s with ports := t.ports, out := s.out ++
      [.hostWrite (wd64 j.desc 6) ((x.body.drop 1).take (fld (wd j.desc 3) 31 16))] } := by
    rw [hports, hv]
    rfl
  have hgo : powerGo t = t := powerGo_none t (by rw [hcompletes, hstate]; exact hmove)
  rw [hstate] at hends
  refine ⟨t, hgo, fun q hq => ?_, hends⟩
  rw [State.port, hports]
  exact hother q hq

/-! ### Telemetry and silence (R301) -/

/-- `t` differs from `s` by reports, the poll, the records of residency cells and the internal requests queued. -/
def TelWork (s t : State) : Prop :=
  Reports { s with power := t.power, res := t.res, bist := { s.bist with queue := t.bist.queue } } t

theorem TelWork.trans {s t u : State} (h : TelWork s t) (k : TelWork t u) : TelWork s u := by
  unfold TelWork Reports at *
  rw [k, h]

theorem TelWork.of_reports {s t : State} (h : Reports s t) : TelWork s t := by
  unfold TelWork Reports
  rw [h]

theorem ResWork.telWork {s t : State} (h : ResWork s t) : TelWork s t := by
  unfold ResWork Reports at h
  unfold TelWork Reports
  rw [h]

theorem State.setPower_telWork (w : Power) (s : State) : TelWork s { s with power := w } := rfl

theorem tileEvent_reports (c h kind word2 : Nat) (s : State) : Reports s (tileEvent c h kind word2 s) := raiseEvent_reports ..

theorem resTel_resWork (i : Nat) (low : Bool) (s : State) : ResWork s (resTel i low s) :=
  .ite (.refl s) (forEach_keeps (ResWork s) _ _
    (fun _ _ ht => (ht.trans (State.modCell_resWork ..)).trans (resDecide_resWork ..)) s (.refl s))

/-- A TEL body is noted in its hop's record (R299, R301). -/
def State.telNoted (s : State) (c h : Nat) (body : List Nat) : State :=
  s.modHop c h fun y => { y with
    temp := leVal (body.take 2), ambient := leVal ((body.drop 2).take 2), crack := wd body 4 % 4, fault := wd body 5
    telValid := true, silent := false }

/-- What an accepted TEL body leads to beside its record: events, the poll's list and Fennel's counts (R301, R212, R343). -/
theorem telAccept_telWork (c h : Nat) (body : List Nat) (s : State) : TelWork (s.telNoted c h body) (telAccept c h body s) := by
  unfold telAccept
  dsimp only
  refine TelWork.trans (TelWork.trans ?_ (State.setPower_telWork _ _)) (resTel_resWork ..).telWork
  exact forEach_keeps (TelWork (s.telNoted c h body)) _ _
    (fun _ _ ht => ht.trans (.of_reports (tileEvent_reports ..))) _ rfl

theorem telAccept_hop (c h : Nat) (body : List Nat) (s : State) :
    (telAccept c h body s).hop c h = { s.hop c h with
      temp := leVal (body.take 2), ambient := leVal ((body.drop 2).take 2), crack := wd body 4 % 4, fault := wd body 5
      telValid := true, silent := false } := by
  have hhops : (telAccept c h body s).hops = (s.telNoted c h body).hops := by rw [telAccept_telWork]
  rw [State.hop, hhops]
  exact State.hop_modHop ..

theorem telReceive_off {p : Nat} {s : State} (h : s.portEngineOn p = false) : telReceive p s = s := by
  unfold telReceive
  rw [h]
  rfl

theorem telReceive_on {p : Nat} {x : Packet} {s u : State} (hon : s.portEngineOn p = true) (hrx : takeRx p 6 s = some (x, u)) :
    telReceive p s = if (s.hop (s.chainOf p) x.hop).present then telAccept (s.chainOf p) x.hop x.body u else u := by
  have hu := (takeRx_portOnly hrx).1
  have hhop : u.hop (s.chainOf p) x.hop = s.hop (s.chainOf p) x.hop := by
    rw [hu]
    rfl
  have hchain : u.chainOf p = s.chainOf p := by
    rw [hu]
    rfl
  unfold telReceive
  simp only [hon, hrx, hhop, hchain, Bool.not_true, Bool.false_eq_true, if_false]

theorem tileSilent_off {p h : Nat} {s : State} (hoff : s.portEngineOn p = false) : tileSilent p h s = s := by
  unfold tileSilent
  simp [hoff]

theorem tileSilent_again {p h : Nat} {s : State} (hs : (s.hop (s.chainOf p) h).silent = true) : tileSilent p h s = s := by
  unfold tileSilent
  simp [hs]

/-- An enumerated hop that falls silent is noted, with an event (R301). -/
theorem tileSilent_falls {p h : Nat} {s : State} (hon : s.portEngineOn p = true) (hup : (s.port p).state = 2)
    (hpresent : (s.hop (s.chainOf p) h).present = true) (hs : (s.hop (s.chainOf p) h).silent = false)
    (hfeeds : s.feeder (s.chainOf p) h = p) : tileSilent p h s =
      tileEvent (s.chainOf p) h 4 0 (s.modHop (s.chainOf p) h fun y => { y with silent := true }) := by
  unfold tileSilent
  simp [hon, hup, hpresent, hs, hfeeds]

theorem silentEvent_notes (c h : Nat) (s : State) :
    ∃ t, tileEvent c h 4 0 (s.modHop c h fun y => { y with silent := true }) = t ∧
      t.hop c h = { s.hop c h with silent := true } ∧ Reports { s with hops := t.hops } t := by
  have hreports := tileEvent_reports c h 4 0 (s.modHop c h fun y => { y with silent := true })
  generalize tileEvent c h 4 0 (s.modHop c h fun y => { y with silent := true }) = t at hreports
  have hhops : t.hops = (s.modHop c h fun y => { y with silent := true }).hops := by rw [hreports]
  refine ⟨t, rfl, ?_, ?_⟩
  · rw [State.hop, hhops]
    exact State.hop_modHop ..
  · rw [hhops]
    exact hreports

/-! ### The repeats (R302, R303, R390) -/

theorem clvResend_down {p : Nat} {s : State} (h : (s.port p).state ≠ 2) : clvResend p s = s := by
  simp [clvResend, h]

theorem dscResend_down {p : Nat} {s : State} (h : (s.port p).state ≠ 2) : dscResend p s = s := by
  simp [dscResend, h]

theorem resumeSynRepeat_down {p : Nat} {s : State} (h : (s.port p).state ≠ 2) : resumeSynRepeat p s = s := by
  simp [resumeSynRepeat, h]

/-- Two changes of a port whose outcomes agree for the port as it stands are one. -/
theorem State.modPort_congr {p : Nat} {f g : Port → Port} {s : State} (h : f (s.port p) = g (s.port p)) :
    s.modPort p f = s.modPort p g := by
  unfold State.modPort
  rw [h]

theorem clvResend_sends {p : Nat} {s : State} (hup : (s.port p).state = 2) (hsends : (s.port p).sends = true)
    (hclove : (s.port p).clove = true) : clvResend p s = s.modPort p fun q =>
      { q with txSafe := q.txSafe ++ [packetBytes 7 0 [s.faultg.cloveSeverity, 0, 0, 0]] } := by
  have hsend : clvResend p s = sendClv p s := by simp [clvResend, hup, hclove]
  rw [hsend]
  exact State.modPort_congr (if_pos hsends)

theorem dscResend_sends {p : Nat} {s : State} (hup : (s.port p).state = 2) (hsends : (s.port p).sends = true)
    (hdsc : (s.port p).dsc = true) : dscResend p s = s.modPort p fun q =>
      { q with txSafe := q.txSafe ++ [packetBytes 8 0 []] } := by
  have hsend : dscResend p s = sendDsc p s := by simp [dscResend, hup, hdsc]
  rw [hsend]
  refine State.modPort_congr ?_
  rw [if_pos hsends, hdsc]

/-- A RESUME SYN of the present frame with one repeat less to come (R289, R390). -/
theorem resumeSynRepeat_sends {p : Nat} {s : State} (hup : (s.port p).state = 2) (hsends : (s.port p).sends = true)
    (hleft : (s.port p).resumeLeft ≠ 0) : PortOnly p s (resumeSynRepeat p s) ∧ (resumeSynRepeat p s).port p = { s.port p with
      resumeLeft := (s.port p).resumeLeft - 1
      txSyn := (s.port p).txSyn ++ [packetBytes 1 0 (leBytes 4 (s.scan.frame % 2 ^ 32) ++ [4, 0, 0, 0] ++ leBytes 4 s.framePeriod)] } := by
  have hsend : resumeSynRepeat p s =
      sendSyn p (s.scan.frame % 2 ^ 32) 4 (s.modPort p fun q => { q with resumeLeft := q.resumeLeft - 1 }) := by
    simp [resumeSynRepeat, hup, hleft]
  rw [hsend]
  refine ⟨(State.modPort_portOnly ..).trans (State.modPort_portOnly ..), ?_⟩
  unfold sendSyn
  rw [State.port_modPort, State.port_modPort]
  exact if_pos hsends

/-- Settles O51: the response by what it matches, telemetry and silence of enumerated hops, and the three repeats. -/
theorem packetsAreActedOn : Obligations.PacketsAreActedOn := by
  refine ⟨fun p x u s hmove hon hrx => ⟨fun hc => ?unmatched, fun c j n slot hc ho hj hmax hl => ?answers⟩,
    fun p x u s hon hrx => ⟨fun habsent => ?absent, fun hpresent => ?telemetry⟩,
    fun p h s hoff => ⟨fun hmove => ?off, congrArg Host.Outcome.next (telReceive_off hoff), congrArg Host.Outcome.next (tileSilent_off hoff)⟩,
    fun p h s => ⟨fun hs => congrArg Host.Outcome.next (tileSilent_again hs), fun hon hup hpresent hs hfeeds => ?falls⟩,
    fun p s hdown => ⟨congrArg Host.Outcome.next (clvResend_down hdown), congrArg Host.Outcome.next (dscResend_down hdown),
      congrArg Host.Outcome.next (resumeSynRepeat_down hdown)⟩,
    fun p s hup hsends => ⟨fun hclove => congrArg Host.Outcome.next (clvResend_sends hup hsends hclove),
      fun hdsc => congrArg Host.Outcome.next (dscResend_sends hup hsends hdsc), fun hleft => ?resume⟩⟩
  case unmatched =>
    have hgo : powerGo (rspReceive p s) = u := by
      rw [rspReceive_unmatched hon hrx hc]
      exact powerGo_none u (by rw [(takeRx_portOnly hrx).1]; exact hmove)
    exact congrArg Host.Outcome.next hgo
  case answers =>
    obtain ⟨t, ht, hother, hends⟩ := rspReceive_answers hmove hon hrx hc ho hj hmax hl
    exact ⟨t, congrArg Host.Outcome.next ht, hother, hends⟩
  case absent =>
    have hreceive := telReceive_on hon hrx
    rw [habsent] at hreceive
    exact congrArg Host.Outcome.next hreceive
  case telemetry =>
    have hreceive := telReceive_on hon hrx
    rw [if_pos hpresent] at hreceive
    have hhop := telAccept_hop (s.chainOf p) x.hop x.body u
    have hwork := telAccept_telWork (s.chainOf p) x.hop x.body u
    have hbist : u.bist = s.bist := by rw [(takeRx_portOnly hrx).1]
    generalize telAccept (s.chainOf p) x.hop x.body u = t at hreceive hhop hwork
    refine ⟨t, congrArg Host.Outcome.next hreceive, by rw [hhop], by rw [hhop], by rw [hhop], by rw [hhop], by rw [hhop], by rw [hhop], ?_⟩
    rw [← hbist, hwork]
    rfl
  case off =>
    have hgo : powerGo (rspReceive p s) = s := by
      rw [rspReceive_off hoff]
      exact powerGo_none s hmove
    exact congrArg Host.Outcome.next hgo
  case falls =>
    obtain ⟨t, ht, hnoted⟩ := silentEvent_notes (s.chainOf p) h s
    exact ⟨t, congrArg Host.Outcome.next ((tileSilent_falls hon hup hpresent hs hfeeds).trans ht), hnoted⟩
  case resume =>
    obtain ⟨⟨hframe, hother⟩, hport⟩ := resumeSynRepeat_sends hup hsends hleft
    exact ⟨_, rfl, hport, hother, hframe⟩

end Sys2Proof.Machine

/-! ## Genlock (O40) -/

namespace Sys2Proof.Machine

/-! ### Which edges count (R106, R341) -/

theorem genlockEdge_other {dt : Nat} {r : Bool} {s u : State} (hu : u = advance dt s) (hr : r = u.b .scanGenlockOffset 31) :
    genlockEdge dt r s = u := by
  subst hu
  exact if_pos (beq_iff_eq.mpr hr)

/-- An edge of the active direction, by what the clock does (R106, R341). -/
theorem genlockEdge_own {dt : Nat} {r : Bool} {s u : State} (hu : u = advance dt s) (hr : r = !u.b .scanGenlockOffset 31) :
    genlockEdge dt r s = if u.power.state = .keep ∧ !u.time.running then keepGenlockEdge u
      else if !u.time.running then u else activeEdge u.cycles u := by
  subst hu
  exact if_neg (by rw [hr]; simp)

theorem genlockEdge_active {dt : Nat} {r : Bool} {s u : State} (hu : u = advance dt s) (hr : r = !u.b .scanGenlockOffset 31)
    (hrun : u.time.running = true) : genlockEdge dt r s = activeEdge u.cycles u := by
  rw [genlockEdge_own hu hr]
  simp [hrun]

theorem genlockEdge_keep {dt : Nat} {r : Bool} {s u : State} (hu : u = advance dt s) (hr : r = !u.b .scanGenlockOffset 31)
    (hrun : u.time.running = false) (hkeep : u.power.state = .keep) : genlockEdge dt r s = keepGenlockEdge u := by
  rw [genlockEdge_own hu hr]
  simp [hrun, hkeep]

theorem genlockEdge_stopped {dt : Nat} {r : Bool} {s u : State} (hu : u = advance dt s) (hr : r = !u.b .scanGenlockOffset 31)
    (hrun : u.time.running = false) (hkeep : u.power.state ≠ .keep) : genlockEdge dt r s = u := by
  rw [genlockEdge_own hu hr]
  simp [hrun, hkeep]

theorem wakeIf_masked {src : Nat} {s : State} (h : s.b .powerWakeEn src = false) : wakeIf src s = s := by
  simp [wakeIf, h]

/-- In Keep an edge counts only after a loss, and the fourth is a return (R341). -/
theorem keepGenlockEdge_found {s : State} (h : s.power.keepLost = false) : keepGenlockEdge s = s := by
  simp [keepGenlockEdge, h]

theorem keepGenlockEdge_counts {s : State} (h : s.power.keepLost = true) (hfew : s.power.keepEdges < 3) :
    keepGenlockEdge s = { s with power := { s.power with keepEdges := s.power.keepEdges + 1 } } := by
  have hlt : s.power.keepEdges + 1 < 4 := by omega
  simp [keepGenlockEdge, h, hlt]

theorem keepGenlockEdge_returns {s : State} (h : s.power.keepLost = true) (hmany : 3 ≤ s.power.keepEdges)
    (hmask : s.b .powerWakeEn 4 = false) :
    keepGenlockEdge s = { s with power := { s.power with keepLost := false, keepEdges := 0 } } := by
  have hge : ¬ s.power.keepEdges + 1 < 4 := by omega
  have hwake : wakeIf 4 { s with power := { s.power with keepLost := false, keepEdges := 0 } } = _ := wakeIf_masked hmask
  simp [keepGenlockEdge, h, hge, hwake]

/-! ### Out-of-range periods (R107, R109) -/

/-- A slip while locked (R107): the next frame starts come from holdover. -/
def State.slipped (s : State) : State :=
  { s with scan := { s.scan with inRange := 0, slips := (s.scan.slips + 1) % 256, outRange := s.scan.outRange + 1, holdover := true } }

/-- The third slip in a row, before it is reported (R107, R109). -/
def State.unlocked (s : State) : State :=
  { s with scan := { s.scan with inRange := 0, slips := (s.scan.slips + 1) % 256, outRange := 0, holdover := true, locked := false,
                                 lossPeriod := s.scan.period, placed := none, rephase := false, rephaseWait := false } }

/-- A wake that genlock may ask for is masked, or there is no Hold to wake from (R344). -/
def State.noGenlockWake (s : State) (src : Nat) : Prop := s.power.state ≠ .hold ∨ s.b .powerWakeEn src = false

/-- Where genlock cannot wake the controller, its test for a wake changes nothing. -/
theorem State.noGenlockWake.eq {src : Nat} {s t : State} (h : s.noGenlockWake src) (hp : t.power.state = s.power.state)
    (hr : t.regs = s.regs) : (if t.power.state = .hold then wakeIf src t else t) = t := by
  rcases h with h | h
  · exact if_neg (hp ▸ h)
  · rw [wakeIf_masked (by rw [State.b, State.rd, hr]; exact h)]
    exact ite_self t

theorem outOfRange_open {s : State} (h : s.scan.locked = false) :
    outOfRange s = { s with scan := { s.scan with inRange := 0 } } := by
  simp [outOfRange, h]

theorem outOfRange_slip {s : State} (h : s.scan.locked = true) (hfew : s.scan.outRange < 2) : outOfRange s = s.slipped := by
  have hlt : s.scan.outRange + 1 < 3 := by omega
  simp [outOfRange, h, hlt, State.slipped]

theorem Reports.power_state_eq {s t : State} (h : Reports s t) : t.power.state = s.power.state := by rw [h]

theorem genlockEvent_reports (kind : Nat) (s : State) : Reports s (genlockEvent kind s) := raiseEvent_reports ..

/-- The third slip in a row loses the lock, with an event and the detection of GENLOCK LOSS (R107, R109). -/
theorem outOfRange_loss {s : State} (h : s.scan.locked = true) (hmany : 2 ≤ s.scan.outRange) (hwake : s.noGenlockWake 3) :
    outOfRange s = detectNote 7 0 (genlockEvent 2 s.unlocked) := by
  have hge : ¬ s.scan.outRange + 1 < 3 := by omega
  have hrep : Reports s.unlocked (detectNote 7 0 (genlockEvent 2 s.unlocked)) :=
    (genlockEvent_reports 2 _).trans (detectNote_reports ..)
  have hquiet := hwake.eq (t := detectNote 7 0 (genlockEvent 2 s.unlocked)) hrep.power_state_eq hrep.regs_eq
  refine Eq.trans ?_ hquiet
  simp only [outOfRange, h, hge, Bool.not_true, Bool.false_eq_true, if_false]
  rfl

theorem genlockLoss_reports (s : State) : Reports s.unlocked (detectNote 7 0 (genlockEvent 2 s.unlocked)) :=
  (genlockEvent_reports 2 _).trans (detectNote_reports ..)

theorem genlockLoss_sticky (s : State) : bit ((detectNote 7 0 (genlockEvent 2 s.unlocked)).fault 7).sticky 0 = true := by
  rw [detectNote_sticky (sev := 0) rfl, bit_withBit]

/-- What a loss of lock leaves (R107, R109). -/
theorem outOfRange_loses {s : State} (h : s.scan.locked = true) (hmany : 2 ≤ s.scan.outRange) (hwake : s.noGenlockWake 3) :
    (outOfRange s).scan = s.unlocked.scan ∧ bit ((outOfRange s).fault 7).sticky 0 = true ∧
      Reports { s with scan := (outOfRange s).scan } (outOfRange s) := by
  rw [outOfRange_loss h hmany hwake]
  have hrep := genlockLoss_reports s
  refine ⟨hrep.scan_eq, genlockLoss_sticky s, ?_⟩
  rw [hrep.scan_eq]
  exact hrep

/-! ### Active edges (R106 to R108) -/

/-- The edge comes before the open window of R106 has run out. -/
theorem passWindows_open {now : Nat} {s : State} (h : now ≤ s.scan.windowFrom + s.nominal + s.lockRange) (n : Nat) :
    passWindows now n s = s := by
  cases n with
  | zero => rfl
  | succ n => exact if_neg (Nat.not_lt.mpr h)

/-- An active edge is noted. -/
def State.edgeNoted (s : State) : State := { s with scan := { s.scan with lastEdge := some s.cycles } }

/-- An edge a full period after the reference is measured (R106). -/
def State.measured (s : State) (d : Nat) : State :=
  { s with scan := { s.scan with
      lastEdge := some s.cycles, reference := some s.cycles, windowFrom := s.cycles, period := some d, outRange := 0
      measured := min d 0x7FFFFF, inRange := min 4 (s.scan.inRange + 1) } }

/-- What an edge does once it is noted, by the reference (R106, R107). -/
def State.afterEdge (s : State) : State :=
  match s.scan.reference with
  | none => { s with scan := { s.scan with reference := some s.cycles, windowFrom := s.cycles } }
  | some a =>
    if s.cycles - a + s.lockRange < s.nominal then outOfRange s
    else
      let m := s.measured (s.cycles - a)
      placeStart s.cycles (if !m.scan.locked && decide (4 ≤ m.scan.inRange) then lockGained m else m)

/-- An active edge within its window, while no return is awaited (R106). -/
theorem activeEdge_within {s : State} (hret : s.scan.returning = false)
    (hwin : s.cycles ≤ s.scan.windowFrom + s.nominal + s.lockRange) : activeEdge s.cycles s = s.edgeNoted.afterEdge := by
  unfold activeEdge
  extract_lets passed scan noted notedScan placed
  have hnoted : noted = s.edgeNoted := by
    simp only [noted, scan, passed, passWindows_open hwin]
    rfl
  have hplaced : placed = s.edgeNoted := (if_neg (by simp [hnoted, State.edgeNoted, hret])).trans hnoted
  clear_value placed
  subst hplaced
  rfl

theorem activeEdge_first {s : State} (hret : s.scan.returning = false)
    (hwin : s.cycles ≤ s.scan.windowFrom + s.nominal + s.lockRange) (href : s.scan.reference = none) :
    activeEdge s.cycles s =
      { s with scan := { s.scan with lastEdge := some s.cycles, reference := some s.cycles, windowFrom := s.cycles } } := by
  have hnoted : s.edgeNoted.scan.reference = none := href
  rw [activeEdge_within hret hwin, State.afterEdge, hnoted]
  rfl

theorem activeEdge_early {s : State} {a : Nat} (hret : s.scan.returning = false)
    (hwin : s.cycles ≤ s.scan.windowFrom + s.nominal + s.lockRange) (href : s.scan.reference = some a)
    (hearly : s.cycles - a + s.lockRange < s.nominal) : activeEdge s.cycles s = outOfRange s.edgeNoted := by
  have hnoted : s.edgeNoted.scan.reference = some a := href
  rw [activeEdge_within hret hwin, State.afterEdge, hnoted]
  exact if_pos hearly

theorem activeEdge_full {s : State} {a : Nat} (hret : s.scan.returning = false)
    (hwin : s.cycles ≤ s.scan.windowFrom + s.nominal + s.lockRange) (href : s.scan.reference = some a)
    (hfull : s.nominal ≤ s.cycles - a + s.lockRange) :
    activeEdge s.cycles s = placeStart s.cycles (if !s.scan.locked && decide (4 ≤ min 4 (s.scan.inRange + 1)) then
      lockGained (s.measured (s.cycles - a)) else s.measured (s.cycles - a)) := by
  have hnoted : s.edgeNoted.scan.reference = some a := href
  rw [activeEdge_within hret hwin, State.afterEdge, hnoted]
  exact if_neg (Nat.not_lt.mpr hfull)

theorem activeEdge_counts {s : State} {a : Nat} (hret : s.scan.returning = false)
    (hwin : s.cycles ≤ s.scan.windowFrom + s.nominal + s.lockRange) (href : s.scan.reference = some a)
    (hfull : s.nominal ≤ s.cycles - a + s.lockRange) (h : s.scan.locked = true ∨ s.scan.inRange < 3) :
    activeEdge s.cycles s = placeStart s.cycles (s.measured (s.cycles - a)) := by
  rw [activeEdge_full hret hwin href hfull, if_neg]
  rcases h with h | h
  · simp [h]
  · simpa using fun _ => by omega

theorem activeEdge_fourth {s : State} {a : Nat} (hret : s.scan.returning = false)
    (hwin : s.cycles ≤ s.scan.windowFrom + s.nominal + s.lockRange) (href : s.scan.reference = some a)
    (hfull : s.nominal ≤ s.cycles - a + s.lockRange) (hopen : s.scan.locked = false) (hmany : 3 ≤ s.scan.inRange) :
    activeEdge s.cycles s = placeStart s.cycles (lockGained (s.measured (s.cycles - a))) := by
  rw [activeEdge_full hret hwin href hfull, if_pos]
  simpa [hopen] using by omega

/-! ### Where the next frame start falls (R107, R108) -/

theorem placeStart_open {now : Nat} {s : State} (h : s.scan.locked = false) :
    placeStart now s = { s with scan := { s.scan with lastAccepted := some now } } := by
  simp [placeStart, h]

/-- The next frame start is placed at OFFSET after an accepted edge, which ends holdover (R107). -/
def State.startPlaced (s : State) (now : Nat) : State :=
  { s with scan := { s.scan with lastAccepted := some now, placed := some (now + s.genlockOffset), holdover := false } }

/-- An accepted edge places the next frame start at OFFSET after it, where it need not re-phase or the period before that start is
long enough, and so ends holdover (R107, R108). -/
theorem placeStart_places {now : Nat} {s : State} (h : s.scan.locked = true) (hlong : s.scan.rephase = false ∨
    ∀ l, s.scan.lastStart = some l → l + s.activeCycles + 5000 ≤ now + s.genlockOffset) :
    placeStart now s = s.startPlaced now := by
  unfold placeStart
  dsimp only
  rw [if_neg (by simp [h]), if_neg]
  · rfl
  · rcases hlong with hre | hlong
    · simp [hre]
    · intro hc
      obtain ⟨-, hshort⟩ := Bool.and_eq_true_iff.mp hc
      cases hl : s.scan.lastStart with
      | none => simp [hl] at hshort
      | some l =>
        rw [hl] at hshort
        exact Nat.not_lt.mpr (hlong l hl) (of_decide_eq_true hshort)

theorem placeStart_short {now l : Nat} {s : State} (h : s.scan.locked = true) (hre : s.scan.rephase = true)
    (hret : s.scan.returning = false) (hl : s.scan.lastStart = some l) (hshort : now + s.genlockOffset < l + s.activeCycles + 5000) :
    placeStart now s = { s with scan := { s.scan with lastAccepted := some now, placed := none } } := by
  unfold placeStart
  dsimp only
  rw [if_neg (by simp [h]), if_pos]
  rw [hre, hret, hl]
  exact decide_eq_true hshort

/-! ### Lock (R107, R108, R111) -/

/-- The fourth measured period in a row gives the lock, before it is reported and scan-out starts (R107, R108). -/
def State.relocked (s : State) : State :=
  { s with scan := { s.scan with locked := true, everLocked := true, lockHeld := true, rephase := true, rephaseWait := false, outRange := 0 } }

/-- Scan-out that acquires runs once genlock locks (R111). -/
def State.acquired (s : State) : State :=
  if s.scan.state = .acquiring then { s with scan := { s.scan with state := .running, next := .frameStart } } else s

theorem State.acquired_reports {s t : State} (h : Reports s t) : Reports s.acquired t.acquired := by
  unfold State.acquired
  rw [h.scan_eq]
  split
  · unfold Reports at *
    rw [h]
  · exact h

theorem State.acquired_regs (s : State) : s.acquired.regs = s.regs := by
  unfold State.acquired
  split <;> rfl

theorem State.acquired_power (s : State) : s.acquired.power = s.power := by
  unfold State.acquired
  split <;> rfl

/-- Gaining the lock is reported by an event and, where genlock may not wake the controller, does nothing more. -/
theorem lockGained_reports {s : State} (hwake : s.noGenlockWake 4) : Reports s.relocked.acquired (lockGained s) := by
  generalize hk : (if farPeriod s.scan.lossPeriod (s.scan.period.getD 0) then 3 else 1) = k
  have hrep := State.acquired_reports (genlockEvent_reports k s.relocked)
  have hquiet := hwake.eq (t := (genlockEvent k s.relocked).acquired) (hrep.power_state_eq.trans (by rw [State.acquired_power]; rfl))
    (hrep.regs_eq.trans (State.acquired_regs _))
  have hgained : lockGained s = (genlockEvent k s.relocked).acquired := by
    rw [← hk] at hquiet ⊢
    exact hquiet
  rw [hgained]
  exact hrep

/-- Genlock and scan-out as the fourth measured period `d` in a row, which ends in cycle `now`, gives the lock (R106, R107, R111). -/
def Scan.lockedAt (x : Scan) (now d : Nat) : Scan :=
  { x with lastEdge := some now, reference := some now, windowFrom := now, period := some d, outRange := 0, measured := min d 0x7FFFFF
           inRange := min 4 (x.inRange + 1), locked := true, everLocked := true, lockHeld := true, rephase := true
           rephaseWait := false, state := if x.state = .acquiring then .running else x.state
           next := if x.state = .acquiring then .frameStart else x.next }

theorem State.relocked_measured (s : State) (d : Nat) :
    (s.measured d).relocked.acquired = { s with scan := s.scan.lockedAt s.cycles d } := by
  have hstate : (s.measured d).relocked.scan.state = s.scan.state := rfl
  unfold State.acquired Scan.lockedAt
  rw [hstate]
  split <;> rfl

/-- Reports beside a change of scan-out stay reports beside another. -/
theorem Reports.setScan {s t : State} {x : Scan} (h : Reports { s with scan := x } t) (y : Scan) :
    Reports { s with scan := y } { t with scan := y } := by
  unfold Reports at *
  rw [h]

/-- What the accepted edge that gives the lock leaves, where it is reported (R107, R108, R111). -/
theorem placeStart_locks {s t : State} {d : Nat} (hret : s.scan.returning = false)
    (h : Reports { s with scan := s.scan.lockedAt s.cycles d } t) :
    ∃ place hold, placeStart s.cycles t = { t with scan := { s.scan.lockedAt s.cycles d with
        lastAccepted := some s.cycles, placed := place, holdover := hold } } ∧
      ((∀ l, s.scan.lastStart = some l → l + s.activeCycles + 5000 ≤ s.cycles + s.genlockOffset) →
        place = some (s.cycles + s.genlockOffset) ∧ hold = false) ∧
      (∀ l, s.scan.lastStart = some l → s.cycles + s.genlockOffset < l + s.activeCycles + 5000 → place = none) := by
  have hscan : t.scan = s.scan.lockedAt s.cycles d := h.scan_eq
  have hregs : t.regs = s.regs := h.regs_eq
  have hactive : t.activeCycles = s.activeCycles := by simp only [State.activeCycles, State.f, State.rd, hregs]
  have hoff : t.genlockOffset = s.genlockOffset := by simp only [State.genlockOffset, State.f, State.rd, hregs]
  have hlocked : t.scan.locked = true := by rw [hscan]; rfl
  have hlast : t.scan.lastStart = s.scan.lastStart := by rw [hscan]; rfl
  by_cases hlong : ∀ l, s.scan.lastStart = some l → l + s.activeCycles + 5000 ≤ s.cycles + s.genlockOffset
  · refine ⟨some (s.cycles + s.genlockOffset), false, ?_, fun _ => ⟨rfl, rfl⟩, fun l hl hshort =>
      absurd (hlong l hl) (Nat.not_le.mpr hshort)⟩
    rw [placeStart_places hlocked (.inr fun l hl => by rw [hactive, hoff]; exact hlong l (hlast ▸ hl)), State.startPlaced, hscan, hoff]
  · refine ⟨none, t.scan.holdover, ?_, fun hl => absurd hl hlong, fun _ _ _ => rfl⟩
    push Not at hlong
    obtain ⟨l, hl, hshort⟩ := hlong
    rw [placeStart_short hlocked (by rw [hscan]; rfl) (by rw [hscan]; exact hret) (hlast.trans hl) (by rw [hactive, hoff]; exact hshort), hscan]

/-! ### Windows that pass with no edge (R106) -/

/-- The measurement starts afresh. -/
def State.unreferenced (s : State) : State := { s with scan := { s.scan with reference := none, windowFrom := s.cycles } }

theorem genlockWindowExpiry_stopped {dt : Nat} {s u : State} (hu : u = advance dt s) (h : u.time.running = false) :
    genlockWindowExpiry dt s = u := by
  subst hu
  exact if_neg (by simp [h])

theorem genlockWindowExpiry_running {dt : Nat} {s u : State} (hu : u = advance dt s) (h : u.time.running = true) :
    genlockWindowExpiry dt s = outOfRange u.unreferenced := by
  subst hu
  exact if_pos h

/-- Settles O40: which edges count, what an active edge does by its distance to the reference, and windows without one. -/
theorem genlockMeasuresAndLocks : Obligations.GenlockMeasuresAndLocks := by
  refine ⟨fun dt r s u hu => ⟨fun hr => congrArg Host.Outcome.next (genlockEdge_other hu hr),
      fun hr hrun hkeep => congrArg Host.Outcome.next (genlockEdge_stopped hu hr hrun hkeep), fun hr hrun hkeep => ?keep⟩,
    fun dt r s u hu hr hrun hret hwin hwake => ?active, fun dt s u hu => ?windows⟩
  case keep =>
    have hedge := genlockEdge_keep hu hr hrun hkeep
    exact ⟨fun h => congrArg Host.Outcome.next (hedge.trans (keepGenlockEdge_found h)),
      fun h hfew => congrArg Host.Outcome.next (hedge.trans (keepGenlockEdge_counts h hfew)),
      fun h hmany hmask => congrArg Host.Outcome.next (hedge.trans (keepGenlockEdge_returns h hmany hmask))⟩
  case active =>
    have hedge := genlockEdge_active hu hr hrun
    have hwake3 : u.edgeNoted.noGenlockWake 3 := hwake.imp_right And.left
    have hexec : ∀ {t : State}, activeEdge u.cycles u = t → exec (.genlockEdge dt r) s = .next t :=
      fun h => congrArg Host.Outcome.next (hedge.trans h)
    refine ⟨fun href => hexec (activeEdge_first hret hwin href), fun a href hfull => ⟨fun hopen hfew => hexec ?measures,
        fun hopen hmany => ?locks, fun hlocked hre => hexec ?places⟩,
      fun a href hearly => ⟨fun hopen => hexec ?early, fun hlocked hfew => hexec ?slips, fun hlocked hmany => ?loses⟩⟩
    case measures =>
      have hcount : min 4 (u.scan.inRange + 1) = u.scan.inRange + 1 := by omega
      rw [activeEdge_counts hret hwin href hfull (.inr hfew), placeStart_open (s := u.measured _) hopen, State.measured, hcount]
    case locks =>
      have hwake4 : (u.measured (u.cycles - a)).noGenlockWake 4 := hwake.imp_right And.right
      have hrep := lockGained_reports hwake4
      rw [State.relocked_measured] at hrep
      obtain ⟨place, hold, hplace, hlong, hshort⟩ := placeStart_locks hret hrep
      refine ⟨_, hexec ((activeEdge_fourth hret hwin href hfull hopen hmany).trans hplace), rfl, ?_, rfl, rfl, rfl, rfl, hlong, hshort,
        hrep.setScan _⟩
      exact Nat.min_eq_left (by omega)
    case places =>
      rw [activeEdge_counts hret hwin href hfull (.inl hlocked), placeStart_places (s := u.measured _) hlocked (.inl hre)]
      rfl
    case early => exact (activeEdge_early hret hwin href hearly).trans (outOfRange_open (s := u.edgeNoted) hopen)
    case slips => exact (activeEdge_early hret hwin href hearly).trans (outOfRange_slip (s := u.edgeNoted) hlocked hfew)
    case loses =>
      obtain ⟨hscan, hsticky, hrep⟩ := outOfRange_loses (s := u.edgeNoted) hlocked hmany hwake3
      refine ⟨_, hexec (activeEdge_early hret hwin href hearly), ?_, ?_, ?_, hsticky, hrep⟩ <;> rw [hscan] <;> rfl
  case windows =>
    refine ⟨fun h => congrArg Host.Outcome.next (genlockWindowExpiry_stopped hu h), fun h hopen => ?_, fun h hlocked hfew => ?_,
      fun h hlocked hmany hwake => ?_⟩
    · exact congrArg Host.Outcome.next ((genlockWindowExpiry_running hu h).trans (outOfRange_open (s := u.unreferenced) hopen))
    · exact congrArg Host.Outcome.next ((genlockWindowExpiry_running hu h).trans (outOfRange_slip (s := u.unreferenced) hlocked hfew))
    · obtain ⟨hscan, hsticky, hrep⟩ := outOfRange_loses (s := u.unreferenced) hlocked hmany hwake
      refine ⟨_, congrArg Host.Outcome.next (genlockWindowExpiry_running hu h), ?_, ?_, ?_, ?_, hsticky, hrep⟩ <;> rw [hscan] <;> rfl

end Sys2Proof.Machine

/-! ## What the work at the marks of a frame leaves (R112, R125) -/

namespace Sys2Proof.Machine

/-- `t` differs from `s` at most in what the work at the marks of a frame changes beside scan-out's own state: reports, commands
and engines, memory, pipes, contexts, ports, layers, ageing, both layers' records, the alert, and the marks of activity. -/
def LatchWork (s t : State) : Prop :=
  t = { s with out := t.out, free := t.free, regs := t.regs, mem := t.mem, host := { s.host with pba := t.host.pba }
               faults := t.faults, evSeq := t.evSeq, rings := t.rings, jobs := t.jobs, engines := t.engines, journals := t.journals
               power := { s.power with heldEvents := t.power.heldEvents, activity := t.power.activity, idleCount := t.power.idleCount }
               scan := { s.scan with changed := t.scan.changed }, layers := t.layers, pipes := t.pipes, memc := t.memc
               ports := t.ports, codecs := t.codecs, age := t.age, bist := t.bist, res := t.res, alert := t.alert }

theorem LatchWork.refl (s : State) : LatchWork s s := rfl

theorem LatchWork.trans {s t u : State} (h : LatchWork s t) (k : LatchWork t u) : LatchWork s u := by
  unfold LatchWork at *
  rw [k, h]

theorem LatchWork.forEach {α : Type} {f : α → State → State} (hf : ∀ a t, LatchWork t (f a t)) (l : List α) (s : State) :
    LatchWork s (forEach l f s) :=
  forEach_keeps (LatchWork s) l f (fun a t ht => ht.trans (hf a t)) s (.refl s)

theorem LatchWork.ite {s t u : State} {c : Prop} [Decidable c] (h : LatchWork s t) (k : LatchWork s u) :
    LatchWork s (if c then t else u) := by
  split <;> assumption

theorem LatchWork.of_ringWork {s t : State} (h : RingWork s t) : LatchWork s t := by
  unfold RingWork at h
  unfold LatchWork
  rw [h]

theorem LatchWork.scan_eq {s t : State} (h : LatchWork s t) : t.scan = { s.scan with changed := t.scan.changed } := congrArg State.scan h
theorem LatchWork.work_eq {s t : State} (h : LatchWork s t) : t.work = s.work := by rw [h]
theorem LatchWork.move_eq {s t : State} (h : LatchWork s t) : t.power.move = s.power.move := by rw [h]
theorem LatchWork.power_state_eq {s t : State} (h : LatchWork s t) : t.power.state = s.power.state := by rw [h]
theorem LatchWork.glob_eq {s t : State} (h : LatchWork s t) : t.glob = s.glob := by rw [h]
theorem LatchWork.time_eq {s t : State} (h : LatchWork s t) : t.time = s.time := by rw [h]
theorem LatchWork.nvs_eq {s t : State} (h : LatchWork s t) : t.nvs = s.nvs := by rw [h]
theorem LatchWork.emitter_eq {s t : State} (h : LatchWork s t) : t.emitter = s.emitter := by rw [h]

theorem finishJob_latchWork (j : Job) (st d : Nat) (s : State) : LatchWork s (finishJob j st d s) :=
  .of_ringWork (finishJob_completes ..).ringWork

/-! ### Commits (R49, R125) -/

theorem groupRegs_group (g : Group) : ∀ r ∈ groupRegs g, r.group = some g := by
  cases g <;> decide +kernel

theorem commitReg_group (g : Group) : (commitReg g).group = some g := by
  cases g <;> rfl

/-- No commit bit lies among the shadowed registers of any group. -/
theorem groupRegs_addr_ne_commitReg {g : Group} {r : Reg} (hr : r ∈ groupRegs g) (g' : Group) : r.addr ≠ (commitReg g').addr := by
  intro h
  obtain rfl := Reg.addr_injective (groupRegs_inMap g r hr).1 (commitReg_inMap g') h
  obtain rfl : g' = g := Option.some.inj ((commitReg_group g').symm.trans (groupRegs_group g _ hr))
  exact (groupRegs_inMap g' _ hr).2 rfl

/-- The registers of two groups are apart. -/
theorem groupRegs_apart {g g' : Group} (hg : g ≠ g') {r q : Reg} (hr : r ∈ groupRegs g) (hq : q ∈ groupRegs g') : q.addr ≠ r.addr := by
  intro h
  obtain rfl := Reg.addr_injective (groupRegs_inMap g' q hq).1 (groupRegs_inMap g r hr).1 h
  exact hg (Option.some.inj ((groupRegs_group g q hr).symm.trans (groupRegs_group g' q hq)))

/-- A group whose commit has reached the frame timing generator applies (R125). -/
def applyCommitted (g : Group) (s : State) : State := if s.committed g then applyGroup g s else s

theorem applyGroup_eq (g : Group) (s : State) :
    applyGroup g s = { s with regs := (applyGroup g s).regs, work := (s.applyShadows (groupRegs g)).work } := by
  have h : applyGroup g s = (s.applyShadows (groupRegs g)).wr (commitReg g) 0 := rfl
  rw [h, State.applyShadows_eq]
  rfl

theorem applyCommitted_eq (g : Group) (s : State) :
    applyCommitted g s = { s with regs := (applyCommitted g s).regs, work := (applyCommitted g s).work } := by
  unfold applyCommitted
  split
  · rw [applyGroup_eq]
  · rfl

/-- Applying a commit leaves the shadows of every group. -/
theorem applyCommitted_rd {g : Group} {r : Reg} (hr : r ∈ groupRegs g) (g' : Group) (s : State) :
    (applyCommitted g' s).rd r = s.rd r := by
  unfold applyCommitted
  split
  · refine (State.rd_wr_ne _ (commitReg g') r 0 (groupRegs_addr_ne_commitReg hr g')).trans ?_
    have h : (s.applyShadows (groupRegs g')).regs = s.regs := by rw [State.applyShadows_eq]
    exact congrArg (fun x => (Tab.get (word r.init) r.addr x).toNat) h
  · rfl

theorem applyCommitted_wk_other {g g' : Group} (hg : g ≠ g') {r : Reg} (hr : r ∈ groupRegs g) (s : State) :
    (applyCommitted g' s).wk r = s.wk r := by
  unfold applyCommitted
  split
  · exact State.wk_applyShadows_out _ (fun q hq => groupRegs_apart hg hr hq) s
  · rfl

theorem applyCommitted_wk_own {g : Group} {r : Reg} (hr : r ∈ groupRegs g) (s : State) :
    (applyCommitted g s).wk r = if s.committed g then s.rd r else s.wk r := by
  unfold applyCommitted
  split
  · exact State.wk_applyShadows_in (fun q hq => (groupRegs_inMap g q hq).1) hr s
  · rfl

theorem applyCommitted_committed (g g' : Group) (s : State) : (applyCommitted g s).committed g' = s.committed g' := by
  rw [applyCommitted_eq]
  cases g' <;> rfl

/-- What R125 applies of commits: the groups in order, and their commits are taken. -/
theorem applyCommits_state (s : State) : (applyCommits s).2 =
    { applyCommitted .res (applyCommitted .layer (applyCommitted .scan s)) with
      scan := { s.scan with commitScan := false, commitLayer := false, commitRes := false } } := by
  have h : (applyCommitted .res (applyCommitted .layer (applyCommitted .scan s))).scan = s.scan := by
    rw [applyCommitted_eq .res, applyCommitted_eq .layer, applyCommitted_eq .scan]
  rw [← h]
  rfl

theorem applyCommits_eq (s : State) : (applyCommits s).2 =
    { s with regs := (applyCommits s).2.regs, work := (applyCommits s).2.work
             scan := { s.scan with commitScan := false, commitLayer := false, commitRes := false } } := by
  rw [applyCommits_state, applyCommitted_eq .res, applyCommitted_eq .layer, applyCommitted_eq .scan]

/-- A group that was committed takes its shadows, any other keeps its working values (R49, R125). -/
theorem applyCommits_wk {g : Group} {r : Reg} (hr : r ∈ groupRegs g) (s : State) :
    (applyCommits s).2.wk r = if s.committed g then s.rd r else s.wk r := by
  rw [applyCommits_state]
  refine Eq.trans (b := (applyCommitted .res (applyCommitted .layer (applyCommitted .scan s))).wk r) rfl ?_
  cases g with
  | scan => rw [applyCommitted_wk_other (by decide) hr, applyCommitted_wk_other (by decide) hr, applyCommitted_wk_own hr]
  | layer =>
    rw [applyCommitted_wk_other (by decide) hr, applyCommitted_wk_own hr, applyCommitted_committed, applyCommitted_rd hr,
      applyCommitted_wk_other (by decide) hr]
  | res =>
    rw [applyCommitted_wk_own hr, applyCommitted_committed, applyCommitted_committed, applyCommitted_rd hr, applyCommitted_rd hr,
      applyCommitted_wk_other (by decide) hr, applyCommitted_wk_other (by decide) hr]

/-! ### Binds and FENCEs (R79, R81, R125) -/

theorem applyBinds_latchWork (detail : Nat) (s : State) : LatchWork s (applyBinds detail s) :=
  .forEach (fun j t => LatchWork.trans (t := t.setLayer _ _) rfl (finishJob_latchWork j 0 detail _)) _ s

theorem retireCheck_latchWork (detail : Nat) (s : State) : LatchWork s (retireCheck detail s) := .of_ringWork (retireCheck_ringWork ..)

theorem fenceCheck_latchWork (n : Nat) (s : State) : LatchWork s (fenceCheck n s) := .of_ringWork (fenceCheck_completes n s).ringWork

theorem stopCheck_latchWork (n : Nat) (s : State) : LatchWork s (stopCheck n s) :=
  .of_ringWork (stopCheck_reports n s).completes.ringWork

/-! ### The end of an alert command (R323) -/

/-- The alert's records may settle, and then its command may complete. -/
theorem alertDone_cases (s : State) :
    ∃ t, LatchWork s t ∧ t.jobs = s.jobs ∧ (alertDone s = t ∨ ∃ j d, alertDone s = finishJob j 0 d t) := by
  have hold : LatchWork s (if s.sweeping then s else { s with alert := { s.alert with old := [] } }) := .ite (.refl s) rfl
  have hjobs : (if s.sweeping then s else { s with alert := { s.alert with old := [] } }).jobs = s.jobs := by split <;> rfl
  unfold alertDone
  by_cases hwait : s.alert.waiting = true
  · rw [if_pos hwait]
    exact ⟨s, .refl s, rfl, .inl rfl⟩
  rw [if_neg hwait]
  generalize (if s.sweeping then s else { s with alert := { s.alert with old := [] } }) = t at hold hjobs ⊢
  dsimp only
  split
  case h_1 => exact ⟨t, hold, hjobs, .inl rfl⟩
  case h_2 c hcmd =>
    by_cases hcome : (!t.alert.await.isEmpty || t.pointsToCome) = true
    · rw [if_pos hcome]
      exact ⟨t, hold, hjobs, .inl rfl⟩
    rw [if_neg hcome]
    refine ⟨alertCounted c.since { t with alert := { t.alert with cmd := none } }, hold.trans rfl, hjobs, ?_⟩
    split
    · exact .inr ⟨_, _, rfl⟩
    · exact .inl rfl

theorem alertDone_latchWork (s : State) : LatchWork s (alertDone s) := by
  obtain ⟨t, hwork, -, h | ⟨j, d, h⟩⟩ := alertDone_cases s
  · rw [h]
    exact hwork
  · rw [h]
    exact hwork.trans (finishJob_latchWork ..)

theorem State.modPipe_latchWork (i : Nat) (g : Pipe → Pipe) (s : State) : LatchWork s (s.modPipe i g) := rfl

theorem alertStopped_latchWork (s : State) : LatchWork s (alertStopped s) := by
  refine LatchWork.trans (LatchWork.forEach (fun i t => ?_) _ s) (alertDone_latchWork _)
  exact .ite (State.modPipe_latchWork ..) (.refl t)

/-! ### Scan-out has stopped (R112, R125, R126) -/

/-- Scan-out as it stands STOPPED before waiting commits and binds apply. -/
def State.stopped (s : State) : State :=
  { s with scan := { s.scan with state := .stopped, closed := false, windowOpen := false, placed := none, lastStart := none, rephase := false } }

/-- The latch frame follows an applied commit (R126). -/
def noteLatch (committed : Bool) (s : State) : State :=
  if committed then { s with scan := { s.scan with latchFrame := s.scan.frame % 2 ^ 32 } } else s

/-- The FENCEs of every ring that holds one, and the stops of those rings, are decided (R64, R79). -/
def stopFences (s : State) : State :=
  forEach ((s.jobs.filter Job.isFence).map (·.ring)) (fun n st => stopCheck n (fenceCheck n st)) s

/-- What a stop does once waiting commits have applied: binds, the latch frame, FENCEs and the alert (R126). -/
def stopRest (committed : Bool) (s : State) : State :=
  alertStopped (stopFences (noteLatch committed (retireCheck 0 (applyBinds 0 s))))

/-- Where no transition runs, a stop moves none. -/
theorem scanStopped_eq {s : State} (h : (stopRest (applyCommits s.stopped).1 (applyCommits s.stopped).2).power.move = .none) :
    scanStopped s = stopRest (applyCommits s.stopped).1 (applyCommits s.stopped).2 := by
  unfold scanStopped
  extract_lets scan stopped
  have hstopped : stopped = s.stopped := rfl
  clear_value stopped
  subst hstopped
  generalize applyCommits s.stopped = x at h ⊢
  obtain ⟨committed, a⟩ := x
  dsimp -zeta only at h ⊢
  extract_lets bound boundScan noted rings last
  have hlast : last = stopRest committed a := rfl
  have hnone : last.power.move = .none := by rw [hlast, h]
  clear_value last
  rw [hnone]
  exact hlast

theorem stopRest_latchWork (committed : Bool) (s : State) :
    LatchWork { s with scan := { s.scan with latchFrame := (stopRest committed s).scan.latchFrame } } (stopRest committed s) := by
  have hbinds : LatchWork s (retireCheck 0 (applyBinds 0 s)) := (applyBinds_latchWork 0 s).trans (retireCheck_latchWork 0 _)
  have hfences : ∀ t, LatchWork t (alertStopped (stopFences t)) := fun t => by
    refine LatchWork.trans (LatchWork.forEach (fun n u => ?_) _ t) (alertStopped_latchWork _)
    exact (fenceCheck_latchWork n u).trans (stopCheck_latchWork n _)
  unfold stopRest
  generalize retireCheck 0 (applyBinds 0 s) = t at hbinds
  have hnote : ∃ f, noteLatch committed t = { t with scan := { t.scan with latchFrame := f } } := by
    unfold noteLatch
    split
    · exact ⟨_, rfl⟩
    · exact ⟨t.scan.latchFrame, rfl⟩
  obtain ⟨f, hf⟩ := hnote
  have hall := hfences (noteLatch committed t)
  generalize alertStopped (stopFences (noteLatch committed t)) = u at hall
  rw [hf] at hall
  unfold LatchWork at *
  rw [hall, hbinds]

/-- Scan-out that has stopped while no transition runs (R112). -/
theorem scanStopped_ends {s : State} (h : s.power.move = .none) :
    (scanStopped s).scan.state = .stopped ∧ (scanStopped s).scan.closed = false ∧ (scanStopped s).scan.windowOpen = false ∧
      (scanStopped s).scan.frame = s.scan.frame ∧ (scanStopped s).power.move = .none := by
  have hcommits := applyCommits_eq s.stopped
  have hwork := stopRest_latchWork (applyCommits s.stopped).1 (applyCommits s.stopped).2
  have hrest := @scanStopped_eq s
  generalize (applyCommits s.stopped).1 = committed at hwork hrest
  generalize (applyCommits s.stopped).2 = a at hcommits hwork hrest
  generalize stopRest committed a = t at hwork hrest
  have hbefore : a.power.move = .none := by rw [hcommits]; exact h
  have hstopped : a.scan = { s.stopped.scan with commitScan := false, commitLayer := false, commitRes := false } := by rw [hcommits]
  have hmove : t.power.move = .none := hwork.move_eq.trans hbefore
  have hscan := hwork.scan_eq
  rw [hrest hmove, hscan, hstopped]
  exact ⟨rfl, rfl, rfl, rfl, hmove⟩

end Sys2Proof.Machine

/-! ## SCAN_START, SCAN_STOP, EMIT_RELOAD and RES_CTL (O37) -/

namespace Sys2Proof.Machine

/-! ### SCAN_CTL (R111, R112) -/

/-- A write of SCAN_CTL with START or STOP alone, and FREERUN, is accepted where R111 or R112 allows it. -/
theorem writeReg_scanCtl {v : Nat} {s : State} (hs : s.Open) (hv : v < 2 ^ 32) (hstate : scanCtlState v s = false)
    (hrange : (bit v 0 && bit v 1) = false) (hmove : (scanCtlWrite v s).power.move = .none) :
    writeReg .scanCtl v s = scanCtlWrite v s :=
  writeReg_open .scanCtl v hs rfl hv nofun rfl rfl hstate hrange hmove

/-- Scan-out as START sets it going (R111). -/
def State.scanStarted (s : State) (freerun : Bool) : State :=
  { s.wr .scanCtl (4 * b2n freerun) with
    scan := { s.scan with
      state := if s.scan.locked || freerun then .running else .acquiring
      next := .frameStart, closed := false, handover := false, windowOpen := false
      show_ := s.scan.frame % 2 ^ 32, firstWindow := true, lockHeld := s.scan.locked
      lastStart := none, returning := false
      placed := if !s.scan.locked && freerun then some (s.cycles + 2 + Config.freeValue s.free % 3) else none
      rephaseWait := false }
    age := { s.age with missed := [] }, free := s.free + 1 }

/-- A pipe that a start empties (R111). -/
def Pipe.emptied (q : Pipe) : Pipe :=
  { q with load := none, reload := false, opened := false, todo := [], col := 0, sentWhole := true, skips := 0 }

/-- Every pipe is empty (R111). -/
def emptyPipes (s : State) : State := forEach (List.range 40) (fun i st => st.modPipe i Pipe.emptied) s

theorem scanStart_eq (freerun : Bool) (s : State) : scanStart freerun s = emptyPipes (s.scanStarted freerun) := rfl

theorem emptyPipes_eq (s : State) : emptyPipes s = { s with pipes := (emptyPipes s).pipes } :=
  forEach_keeps (fun t : State => t = { s with pipes := t.pipes }) _ _ (fun _ t ht => by rw [ht]; rfl) s rfl

theorem emptyPipes_pipe (s : State) {i : Nat} (hi : i < 40) :
    ((emptyPipes s).pipe i).load = none ∧ ((emptyPipes s).pipe i).todo = [] ∧ ((emptyPipes s).pipe i).opened = false := by
  refine forEach_reaches (fun i (t : State) => (t.pipe i).load = none ∧ (t.pipe i).todo = [] ∧ (t.pipe i).opened = false)
    (List.range 40) _ (fun i t => ?_) (fun a i t h => ?_) s i (List.mem_range.mpr hi)
  · rw [State.pipe_modPipe]
    exact ⟨rfl, rfl, rfl⟩
  · by_cases hia : i = a
    · rw [hia, State.pipe_modPipe]
      exact ⟨rfl, rfl, rfl⟩
    · rwa [State.pipe_modPipe_ne _ _ _ _ hia]

/-- START of a stopped scan-out whose settings allow it (R111). -/
theorem exec_scanStart (f : Bool) {s : State} (hs : s.Open) (h : s.startAllowed = true) :
    exec (.scanStart f) s = .next (scanStart f s) := by
  have hstate : scanCtlState (1 + 4 * b2n f) s = false := by
    cases f <;> exact congrArg (!·) h
  have hwrite : scanCtlWrite (1 + 4 * b2n f) s = scanStart f s := by
    cases f <;> rfl
  have hmove : (scanStart f s).power.move = .none := by
    rw [scanStart_eq, emptyPipes_eq]
    exact hs.move_eq
  refine congrArg Host.Outcome.next ?_
  rw [writeReg_scanCtl hs (by cases f <;> decide) hstate (by cases f <;> rfl) (hwrite ▸ hmove), hwrite]

/-- STOP of a scan-out that runs or acquires is not refused where no transition runs (R112). -/
theorem exec_scanStop (f : Bool) {s : State} (hs : s.Open) (h : s.scan.state = .running ∨ s.scan.state = .acquiring)
    (hmove : (scanStop f s).power.move = .none) : exec (.scanStop f) s = .next (scanStop f s) := by
  have hstate : scanCtlState (2 + 4 * b2n f) s = false := by
    have hstop : (s.scan.state == .stopping || s.scan.state == .stopped || s.scan.state == .held || s.enteringHold) = false := by
      have hquiet : s.enteringHold = false := by rw [State.enteringHold, hs.move_eq]
      rw [hquiet]
      rcases h with h | h <;> rw [h] <;> rfl
    cases f <;> exact hstop
  have hwrite : scanCtlWrite (2 + 4 * b2n f) s = scanStop f s := by
    cases f <;> rfl
  refine congrArg Host.Outcome.next ?_
  rw [writeReg_scanCtl hs (by cases f <;> decide) hstate (by cases f <;> rfl) (hwrite ▸ hmove), hwrite]

theorem scanStop_running {f : Bool} {s : State} (h : s.scan.state = .running) :
    scanStop f s = { s.wr .scanCtl (4 * b2n f) with scan := { s.scan with state := .stopping } } := by
  have hno : (s.wr .scanCtl (4 * b2n f)).scan.state ≠ .acquiring := by rw [State.wr_scan, h]; nofun
  exact (if_neg hno).trans (if_pos h)

theorem scanStop_acquiring {f : Bool} {s : State} (h : s.scan.state = .acquiring) :
    scanStop f s = scanStopped (s.wr .scanCtl (4 * b2n f)) := if_pos h

/-! ### EMIT_RELOAD (R146) -/

theorem exec_emitReload {s : State} (hs : s.Open) : exec .emitReload s = .next (emitReload s) := by
  have hmove : (emitReload s).power.move = .none := by
    unfold emitReload
    split
    · exact hs.move_eq
    · exact hs.move_eq
  exact congrArg Host.Outcome.next (writeReg_open .emitReload 1 hs rfl (by decide) nofun rfl rfl rfl rfl hmove)

/-! ### RES_CTL (R219) -/

/-- ENABLE is bit 0 of RES_CTL, and a write stores it. -/
theorem State.resCtl_stored (s : State) (v : Nat) : (s.wr .resCtl (Reg.resCtl.keep v)).b .resCtl 0 = bit v 0 := by
  rw [State.b, State.rd_wr, bit_mod_two_pow (by decide), Reg.bit_keep]
  exact Bool.and_true _

/-- A write of RES_CTL that the bistable layer allows, or that clears ENABLE, has its effect (R219). -/
theorem writeReg_resCtl {v : Nat} {s : State} (hs : s.Open) (hv : v < 2 ^ 32)
    (hstate : (bit v 0 && !s.b .resCtl 0 && !s.bistReady) = false) (hmove : (resCtlWrite v s).power.move = .none) :
    writeReg .resCtl v s = resCtlWrite v s :=
  writeReg_open .resCtl v hs rfl hv nofun rfl rfl hstate rfl hmove

theorem resCtlWrite_enable {v : Nat} {s : State} (hv : bit v 0 = true) (hoff : s.b .resCtl 0 = false) :
    resCtlWrite v s = resReset (s.wr .resCtl (Reg.resCtl.keep v)) := by
  simp [resCtlWrite, hv, hoff]

/-- What a request loses when ENABLE is cleared (R219). -/
def Internal.voided (r : Internal) : Internal := match r.kind with | .rerun => r | _ => { r with void := true }

theorem Internal.voided_ends (r : Internal) : r.voided.kind = .rerun ∨ r.voided.void = true := by
  unfold Internal.voided
  split
  · exact .inl ‹_›
  · exact .inr rfl

/-- An internal request in flight loses its effect. -/
def voidFlight (k : Nat) (s : State) : State :=
  match s.flight k with | some r => s.setFlight k (some r.voided) | none => s

theorem resVoid_eq (s : State) : resVoid s =
    forEach (List.range 64) voidFlight { s with bist := { s.bist with queue := s.bist.queue.map Internal.voided } } := rfl

theorem voidFlight_eq (k : Nat) (s : State) : voidFlight k s = { s with bist := { s.bist with flights := (voidFlight k s).bist.flights } } := by
  unfold voidFlight
  split <;> rfl

/-- Void requests in flight leave the rest of the bistable layer. -/
theorem resVoid_frame (s : State) : resVoid s =
    { s with bist := { s.bist with queue := s.bist.queue.map Internal.voided, flights := (resVoid s).bist.flights } } := by
  rw [resVoid_eq]
  refine forEach_keeps (fun t : State => t = { s with bist := { s.bist with
    queue := s.bist.queue.map Internal.voided, flights := t.bist.flights } }) _ _ (fun k t ht => ?_) _ rfl
  rw [voidFlight_eq, ht]

theorem voidFlight_own (k : Nat) (s : State) : (voidFlight k s).flight k = (s.flight k).map Internal.voided := by
  unfold voidFlight
  cases h : s.flight k with
  | none => exact h
  | some r => exact State.flight_setFlight ..

theorem voidFlight_other {k j : Nat} (h : j ≠ k) (s : State) : (voidFlight k s).flight j = s.flight j := by
  unfold voidFlight
  split
  · exact State.flight_setFlight_ne _ _ _ _ h
  · rfl

/-- No request in flight but a rerun has an effect left (R219). -/
theorem resVoid_flight (s : State) : ∀ k r, k < 64 → (resVoid s).flight k = some r → r.kind = .rerun ∨ r.void = true := by
  have hvoided : ∀ k (t : State) r, (voidFlight k t).flight k = some r → r.kind = .rerun ∨ r.void = true := fun k t r hr => by
    rw [voidFlight_own, Option.map_eq_some_iff] at hr
    obtain ⟨q, -, rfl⟩ := hr
    exact q.voided_ends
  intro k r hk
  rw [resVoid_eq]
  refine forEach_reaches (fun k (t : State) => ∀ r, t.flight k = some r → r.kind = .rerun ∨ r.void = true) (List.range 64) voidFlight
    hvoided (fun a k t h => ?_) _ k (List.mem_range.mpr hk) r
  by_cases hka : k = a
  · rw [hka]
    exact hvoided a t
  · rwa [voidFlight_other hka]

theorem resCtlWrite_disable {v : Nat} {s : State} (hv : bit v 0 = false) (hon : s.b .resCtl 0 = true) :
    resCtlWrite v s = resVoid (s.wr .resCtl (Reg.resCtl.keep v)) := by
  simp [resCtlWrite, hv, hon]

theorem resCtlWrite_plain {v : Nat} {s : State} (hv : bit v 0 = false) (hoff : s.b .resCtl 0 = false) :
    resCtlWrite v s = s.wr .resCtl (Reg.resCtl.keep v) := by
  simp [resCtlWrite, hv, hoff]

theorem exec_resEnable {v : Nat} {s : State} (hs : s.Open) (hv : v < 2 ^ 32) (hoff : s.b .resCtl 0 = false) (hready : s.bistReady = true) :
    exec (.resEnable v) s = .next (resReset (s.wr .resCtl (Reg.resCtl.keep (withBit v 0 true)))) := by
  have hwrite := resCtlWrite_enable (bit_withBit v 0 true) hoff
  refine congrArg Host.Outcome.next ?_
  rw [writeReg_resCtl hs (withBit_lt true hv (by decide)) (by simp [hready]) (by rw [hwrite]; exact hs.move_eq), hwrite]

theorem exec_resDisable {v : Nat} {s : State} (hs : s.Open) (hv : v < 2 ^ 32) :
    exec (.resDisable v) s = .next (if s.b .resCtl 0 then resVoid (s.wr .resCtl (Reg.resCtl.keep (withBit v 0 false)))
      else s.wr .resCtl (Reg.resCtl.keep (withBit v 0 false))) := by
  have hwrite : resCtlWrite (withBit v 0 false) s = if s.b .resCtl 0 then resVoid (s.wr .resCtl (Reg.resCtl.keep (withBit v 0 false)))
      else s.wr .resCtl (Reg.resCtl.keep (withBit v 0 false)) := by
    split
    · exact resCtlWrite_disable (bit_withBit v 0 false) ‹_›
    · exact resCtlWrite_plain (bit_withBit v 0 false) (eq_false_of_ne_true ‹_›)
  have hmove : (resCtlWrite (withBit v 0 false) s).power.move = .none := by
    rw [hwrite]
    split
    · rw [resVoid_frame]
      exact hs.move_eq
    · exact hs.move_eq
  refine congrArg Host.Outcome.next ?_
  rw [writeReg_resCtl hs (withBit_lt false hv (by decide)) (by rw [bit_withBit]; rfl) hmove, hwrite]

/-- The F of every cell stays, and the rest of its record starts afresh (R219). -/
theorem resReset_cells (s : State) : (∀ c ∈ (resReset s).res.cells, c.2 = { f := c.2.f }) ∧
    ∀ c ∈ s.res.cells, c.2.f ≠ 32768 → (c.1, ({ f := c.2.f } : ResCell)) ∈ (resReset s).res.cells := by
  refine ⟨fun c hc => ?_, fun c hc hf => ?_⟩
  · obtain ⟨d, -, rfl⟩ := List.mem_map.mp hc
    rfl
  · exact List.mem_map.mpr ⟨c, List.mem_filter.mpr ⟨hc, bne_iff_ne.mpr hf⟩, rfl⟩

/-- Settles O37: START, STOP, RELOAD and the two writes of RES_CTL.ENABLE, each by its accepted write. -/
theorem scanOutStartsAndStops : Obligations.ScanOutStartsAndStops := by
  refine ⟨fun f s hs hallowed => ?start, fun f s hs => ⟨fun hrun => ?stop, fun hacq => ?ends⟩,
    fun s hs => ⟨fun hrun => (exec_emitReload hs).trans (congrArg Host.Outcome.next (if_neg hrun)),
      fun hstop => (exec_emitReload hs).trans (congrArg Host.Outcome.next (if_pos hstop))⟩,
    fun v s hs hv => ⟨fun hoff hready => ?enable, ?disable⟩⟩
  case start =>
    have hframe := emptyPipes_eq (s.scanStarted f)
    have hpipes := @emptyPipes_pipe (s.scanStarted f)
    have hexec := (exec_scanStart f hs hallowed).trans (congrArg Host.Outcome.next (scanStart_eq f s))
    generalize emptyPipes (s.scanStarted f) = t at hframe hpipes hexec
    have hscan : t.scan = (s.scanStarted f).scan := by rw [hframe]
    have hregs : t.regs = (s.wr .scanCtl (4 * b2n f)).regs := by rw [hframe]; rfl
    have hrd : ∀ q, t.rd q = (s.wr .scanCtl (4 * b2n f)).rd q := fun q => by rw [State.rd, hregs]; rfl
    refine ⟨t, hexec, ?_⟩
    rw [hscan]
    refine ⟨rfl, rfl, rfl, rfl, rfl, rfl, rfl, by rw [hframe]; rfl, fun hopen hfree => ?_, fun hlocked => if_neg ?_,
      fun i hi => hpipes hi, by rw [hframe]; rfl, ?_, fun q hq => ?_⟩
    · exact ⟨s.cycles + 2 + Config.freeValue s.free % 3, if_pos (by rw [hopen, hfree]; rfl), by omega, by omega⟩
    · rcases hlocked with h | h <;> simp [h]
    · rw [hrd, State.rd_wr]
      cases f <;> rfl
    · rw [hrd, State.rd_wr_ne _ _ _ _ hq]
  case stop =>
    have hstop := scanStop_running (f := f) hrun
    exact (exec_scanStop f hs (.inl hrun) (by rw [hstop]; exact hs.move_eq)).trans (congrArg Host.Outcome.next hstop)
  case ends =>
    have hstop := scanStop_acquiring (f := f) hacq
    obtain ⟨hstate, -, hwindow, hframe, hmove⟩ := scanStopped_ends (s := s.wr .scanCtl (4 * b2n f)) hs.move_eq
    exact ⟨_, (exec_scanStop f hs (.inr hacq) (by rw [hstop]; exact hmove)).trans (congrArg Host.Outcome.next hstop), hstate, hwindow,
      hframe, scanStopped_mem _⟩
  case enable =>
    obtain ⟨hfresh, hkept⟩ := resReset_cells (s.wr .resCtl (Reg.resCtl.keep (withBit v 0 true)))
    exact ⟨_, exec_resEnable hs hv hoff hready, rfl, hfresh, hkept, (s.resCtl_stored _).trans (bit_withBit v 0 true),
      fun q hq => State.rd_wr_ne _ _ _ _ hq⟩
  case disable =>
    have hbit := (s.resCtl_stored (withBit v 0 false)).trans (bit_withBit v 0 false)
    have hrd : ∀ q : Reg, q.addr ≠ Reg.resCtl.addr → (s.wr .resCtl (Reg.resCtl.keep (withBit v 0 false))).rd q = s.rd q :=
      fun q hq => State.rd_wr_ne _ _ _ _ hq
    refine ⟨_, exec_resDisable hs hv, ?_⟩
    cases hon : s.b .resCtl 0 with
    | false => exact ⟨rfl, hbit, nofun, nofun, fun _ => rfl, hrd⟩
    | true =>
      rw [if_pos rfl]
      have hframe := resVoid_frame (s.wr .resCtl (Reg.resCtl.keep (withBit v 0 false)))
      have hflight := resVoid_flight (s.wr .resCtl (Reg.resCtl.keep (withBit v 0 false)))
      generalize resVoid (s.wr .resCtl (Reg.resCtl.keep (withBit v 0 false))) = t at hframe hflight
      refine ⟨by rw [hframe]; rfl, by rw [hframe]; exact hbit, fun _ r hr => ?_, fun _ => hflight, nofun,
        fun q hq => by rw [hframe]; exact hrd q hq⟩
      rw [hframe] at hr
      obtain ⟨x, -, rfl⟩ := List.mem_map.mp hr
      exact x.voided_ends

end Sys2Proof.Machine

/-! ## PIXEL_PROCESS and LINE_BUFFER_FETCH (O42) -/

namespace Sys2Proof.Machine

/-! ### What the work of a pipe leaves (R127, R154, R210, R227) -/

/-- `t` differs from `s` at most in what pipes change as they process pixels: reports, memory and its requests, pipes, contexts, and
the ageing and residency records. -/
def PipeWork (s t : State) : Prop :=
  t = { s with out := t.out, free := t.free, mem := t.mem, host := { s.host with pba := t.host.pba }, faults := t.faults
               evSeq := t.evSeq, rings := t.rings, journals := t.journals, power := { s.power with heldEvents := t.power.heldEvents }
               pipes := t.pipes, memc := t.memc, codecs := t.codecs, age := t.age, bist := { s.bist with queue := t.bist.queue }
               res := t.res }

theorem PipeWork.refl (s : State) : PipeWork s s := rfl

theorem PipeWork.trans {s t u : State} (h : PipeWork s t) (k : PipeWork t u) : PipeWork s u := by
  unfold PipeWork at *
  rw [k, h]

theorem PipeWork.ite {s t u : State} {c : Prop} [Decidable c] (h : PipeWork s t) (k : PipeWork s u) :
    PipeWork s (if c then t else u) := by
  split <;> assumption

theorem PipeWork.forEach {α : Type} {f : α → State → State} (hf : ∀ a t, PipeWork t (f a t)) (l : List α) (s : State) :
    PipeWork s (forEach l f s) :=
  forEach_keeps (PipeWork s) l f (fun a t ht => ht.trans (hf a t)) s (.refl s)

theorem PipeWork.of_resWork {s t : State} (h : ResWork s t) : PipeWork s t := by
  unfold ResWork Reports at h
  unfold PipeWork
  rw [h]

theorem PipeWork.of_reports {s t : State} (h : Reports s t) : PipeWork s t := .of_resWork (.of_reports h)

theorem PipeWork.jobs_eq {s t : State} (h : PipeWork s t) : t.jobs = s.jobs := by rw [h]
theorem PipeWork.regs_eq {s t : State} (h : PipeWork s t) : t.regs = s.regs := by rw [h]
theorem PipeWork.scan_eq {s t : State} (h : PipeWork s t) : t.scan = s.scan := by rw [h]
theorem PipeWork.ports_eq {s t : State} (h : PipeWork s t) : t.ports = s.ports := by rw [h]
theorem PipeWork.geom_eq {s t : State} (h : PipeWork s t) : t.geom = s.geom := by rw [h]
theorem PipeWork.placement_eq {s t : State} (h : PipeWork s t) : t.placement = s.placement := by rw [h]; rfl
theorem PipeWork.familyOf_eq {s t : State} (h : PipeWork s t) : t.familyOf = s.familyOf := by rw [h]; rfl
theorem PipeWork.layers_eq {s t : State} (h : PipeWork s t) : t.layers = s.layers := by rw [h]
theorem PipeWork.power_state_eq {s t : State} (h : PipeWork s t) : t.power.state = s.power.state := by rw [h]
theorem PipeWork.move_eq {s t : State} (h : PipeWork s t) : t.power.move = s.power.move := by rw [h]

theorem State.modPipe_pipeWork (i : Nat) (g : Pipe → Pipe) (s : State) : PipeWork s (s.modPipe i g) := rfl

/-- Pipe `i` stands where it stood: at its column, with its segments, and skips its frame as before. -/
def Pipe.SamePlace (q r : Pipe) : Prop := r.col = q.col ∧ r.todo = q.todo ∧ r.skipping = q.skipping

/-- Work on behalf of pipe `i`, which changes no other pipe and leaves pipe `i` where it stands. -/
structure PixelWork (i : Nat) (s t : State) : Prop where
  work : PipeWork s t
  others : ∀ k, k ≠ i → t.pipe k = s.pipe k
  place : (s.pipe i).SamePlace (t.pipe i)

section
variable {i : Nat}

theorem PixelWork.of_pipes {s t : State} (h : PipeWork s t) (hp : t.pipes = s.pipes) : PixelWork i s t := by
  have hpipe : ∀ k, t.pipe k = s.pipe k := fun k => by rw [State.pipe, hp]; rfl
  refine ⟨h, fun k _ => hpipe k, ?_⟩
  rw [hpipe]
  exact ⟨rfl, rfl, rfl⟩

theorem PixelWork.refl (s : State) : PixelWork i s s := .of_pipes (.refl s) rfl

theorem PixelWork.trans {s t u : State} (h : PixelWork i s t) (k : PixelWork i t u) : PixelWork i s u := by
  obtain ⟨hcol, htodo, hskip⟩ := h.place
  obtain ⟨kcol, ktodo, kskip⟩ := k.place
  exact ⟨h.work.trans k.work, fun j hj => (k.others j hj).trans (h.others j hj), kcol.trans hcol, ktodo.trans htodo, kskip.trans hskip⟩

theorem PixelWork.ite {s t u : State} {c : Prop} [Decidable c] (h : PixelWork i s t) (k : PixelWork i s u) :
    PixelWork i s (if c then t else u) := by
  split <;> assumption

theorem PixelWork.forEach {α : Type} {f : α → State → State} (hf : ∀ a t, PixelWork i t (f a t)) (l : List α) (s : State) :
    PixelWork i s (forEach l f s) :=
  forEach_keeps (PixelWork i s) l f (fun a t ht => ht.trans (hf a t)) s (.refl s)

theorem PixelWork.of_resWork {s t : State} (h : ResWork s t) : PixelWork i s t := by
  refine .of_pipes (.of_resWork h) ?_
  unfold ResWork at h
  exact h.pipes_eq

theorem PixelWork.of_reports {s t : State} (h : Reports s t) : PixelWork i s t := .of_resWork (.of_reports h)

/-- A change of pipe `i` that leaves it where it stands. -/
theorem State.modPipe_pixelWork {g : Pipe → Pipe} (s : State) (hg : ∀ q : Pipe, q.SamePlace (g q) := by exact fun _ => ⟨rfl, rfl, rfl⟩) :
    PixelWork i s (s.modPipe i g) := by
  refine ⟨rfl, fun k hk => State.pipe_modPipe_ne _ _ _ _ hk, ?_⟩
  rw [State.pipe_modPipe]
  exact hg _

theorem State.modCodec_pixelWork (k : Nat) (g : Codec → Codec) (s : State) : PixelWork i s (s.modCodec k g) := .of_pipes rfl rfl

theorem State.modCell_pixelWork (key : Nat) (g : ResCell → ResCell) (s : State) : PixelWork i s (s.modCell key g) := .of_pipes rfl rfl

theorem State.puts_pixelWork (a : Nat) (l : List Nat) (s : State) : PixelWork i s (s.puts a l) := .of_pipes rfl rfl

theorem State.putLe_pixelWork (a n v : Nat) (s : State) : PixelWork i s (s.putLe a n v) := .of_pipes rfl rfl

theorem State.setMissed_pixelWork (k y m : Nat) (s : State) : PixelWork i s (s.setMissed k y m) := .of_pipes rfl rfl

theorem memRequest_pixelWork (m cls group who : Nat) (s : State) : PixelWork i s (memRequest m cls group who s) := .of_pipes rfl rfl

theorem detectNote_pixelWork (u k : Nat) (s : State) : PixelWork i s (detectNote u k s) := .of_reports (detectNote_reports ..)

theorem PixelWork.detectNote {s t : State} (h : PixelWork i s t) (u k : Nat) : PixelWork i s (Machine.detectNote u k t) :=
  h.trans (detectNote_pixelWork ..)

theorem emitRange_pixelWork (s : State) : PixelWork i s (emitRange i s) :=
  .ite (.refl s) (.detectNote (State.modPipe_pixelWork s) ..)

theorem ageRange_pixelWork (s : State) : PixelWork i s (ageRange i s) :=
  .ite (.refl s) (.detectNote (State.modPipe_pixelWork s) ..)

/-! ### Anise (R151, R154) -/

theorem memRequestRange_pixelWork (cls group who a n : Nat) (s : State) : PixelWork i s (memRequestRange cls group who a n s) :=
  .forEach (fun _ t => memRequest_pixelWork _ _ _ _ t) _ s

theorem putIn_pixelWork (a n v : Nat) (s : State) : PixelWork i s (putIn a n v s) := .ite (State.putLe_pixelWork ..) (.refl s)

theorem stressAdd_pixelWork (src j x y c inc : Nat) (s : State) : PixelWork i s (stressAdd src j x y c inc s) := by
  have hput := putIn_pixelWork (i := i) (s.stressAddr x y c) 4 (min 0xFFFFFFFF (s.lez (s.stressAddr x y c) 4 + inc)) s
  exact .ite (hput.trans (.of_reports ((detectNote_reports ..).trans (raiseEvent_reports ..)))) hput

theorem sampleRow_pixelWork (ld : Load) (j v weight period frame n : Nat) (every : Bool) (s : State) :
    PixelWork i s (sampleRow i ld j v weight period frame n every s) := by
  unfold sampleRow
  extract_lets w y past t s₁ s₂
  have hrow : PixelWork i s s₂ := (memRequestRange_pixelWork ..).trans
    (.forEach (fun u st => .forEach (fun c st' => stressAdd_pixelWork ..) _ st) _ s₁)
  split
  · exact hrow.trans (ageRange_pixelWork s₂)
  · exact hrow

theorem aniseRow_pixelWork (j v : Nat) (s : State) : PixelWork i s (aniseRow i j v s) := by
  unfold aniseRow
  extract_lets q y
  split
  case h_1 => exact .refl s
  case h_2 =>
    split
    · exact .refl s
    · extract_lets s₁
      have hrow : PixelWork i s s₁ := sampleRow_pixelWork ..
      split
      · exact hrow
      · exact hrow.trans (State.setMissed_pixelWork ..)

/-! ### Fennel sees a pixel (R210, R213) -/

theorem captureCell_pixelWork (key cx cy col : Nat) (s : State) : PixelWork i s (captureCell key cx cy col s) := by
  unfold captureCell
  extract_lets f
  refine .forEach (fun c t => ?_) _ s
  extract_lets sum x a t₁
  have hbyte : PixelWork i t t₁ := .ite (State.puts_pixelWork ..) <|
    .trans (.ite (.refl t) (detectNote_pixelWork ..)) (State.modCell_pixelWork ..)
  exact hbyte.trans (State.modCell_pixelWork ..)

theorem resChange_resWork (key : Nat) (s : State) : ResWork s (resChange key s) :=
  .ite ((State.modCell_resWork ..).trans (resLeave_resWork ..))
    (.ite (State.modCell_resWork ..) ((State.modCell_resWork ..).trans (State.modCell_resWork ..)))

theorem resComplete_resWork (key : Nat) (s : State) : ResWork s (resComplete key s) := by
  refine .trans ?_ (resDecide_resWork ..)
  exact .ite (State.modCell_resWork ..) ((State.modCell_resWork ..).trans (resChange_resWork ..))

theorem resTap_pixelWork (j u v : Nat) (tap : List Nat) (s : State) : PixelWork i s (resTap j u v tap s) := by
  unfold resTap
  split
  · exact .refl s
  extract_lets key r col cap s₁ s₂
  have hseen : PixelWork i s s₁ := State.modCell_pixelWork ..
  have hcap : PixelWork i s s₂ := .ite (hseen.trans (captureCell_pixelWork ..)) hseen
  split
  · exact hcap.trans (.of_resWork (resComplete_resWork ..))
  · exact hcap

/-! ### The encoder takes a pixel (R227) -/

theorem closeBlock_pixelWork (k : Nat) (last : Bool) (s : State) : PixelWork i s (closeBlock k last s) := by
  unfold closeBlock
  split
  · exact .refl s
  · exact State.modCodec_pixelWork ..

theorem pushPixel_pixelWork (k tile row col : Nat) (codes : List Nat) (s : State) :
    PixelWork i s (pushPixel k tile row col codes s) := by
  unfold pushPixel
  extract_lets w c b full last s₁
  have hpush : PixelWork i s s₁ := State.modCodec_pixelWork ..
  split
  · exact hpush.trans (closeBlock_pixelWork ..)
  · exact .ite (hpush.trans (closeBlock_pixelWork ..)) hpush

theorem stepPixel_pixelWork (tile v u : Nat) (ld : Load) (s : State) : PixelWork i s (stepPixel i tile v u ld s).2 := by
  unfold stepPixel
  extract_lets q px s₁ s₂
  have hpeak : PixelWork i s s₁ :=
    .ite (.detectNote (State.modPipe_pixelWork s) ..) (.refl s)
  have hrange : PixelWork i s s₂ := .ite (hpeak.trans (emitRange_pixelWork s₁)) hpeak
  split
  · exact hrange
  · exact hrange.trans ((resTap_pixelWork ..).trans (pushPixel_pixelWork ..))

/-! ### The line buffer's watermark and its drain (R123) -/

theorem reclass_pixelWork (k : Nat) (s : State) : PixelWork i s (reclass k s) := .of_pipes rfl rfl

theorem updateUrgent_pixelWork (s : State) : PixelWork i s (updateUrgent i s) :=
  (State.modPipe_pixelWork s).trans (reclass_pixelWork ..)

theorem State.tickFree_pixelWork (s : State) : PixelWork i s s.tickFree := .of_pipes rfl rfl

theorem drainBuffer_pixelWork (s : State) : PixelWork i s (drainBuffer i s) :=
  .ite (updateUrgent_pixelWork s)
    ((State.modPipe_pixelWork s).trans ((State.tickFree_pixelWork _).trans (updateUrgent_pixelWork _)))

theorem drainBuffer_out (s : State) : (drainBuffer i s).out = s.out := by
  unfold drainBuffer
  split <;> rfl

/-! ### A pixel pair leaves (R127, R287) -/

/-- What pipe `i` does as it comes to a pixel pair at the head of its segment: Anise samples the row at its first column. -/
def pairBegun (i tile v : Nat) (s : State) : State := if (s.pipe i).col = 0 then aniseRow i tile v s else s

/-- The two pixels of pipe `i`'s pair, processed: the codes, and the state after. -/
def pairStepped (i tile v : Nat) (ld : Load) (s : State) : List Nat × State :=
  let a := stepPixel i tile v (s.pipe i).col ld (pairBegun i tile v s)
  let b := stepPixel i tile v ((s.pipe i).col + 1) ld a.2
  (a.1 ++ b.1, b.2)

/-- The pair's codes go out, unless the pipe skips the frame. -/
def pairSent (i tile v : Nat) (ld : Load) (s : State) : State :=
  let (codes, t) := pairStepped i tile v ld s
  if (s.pipe i).skipping then t
  else t.emit (.pixels i ((t.placement tile).x + (s.pipe i).col) ((t.placement tile).y + v) codes)

/-- A pipe goes on by two columns, or to the segments `rest`. -/
def pairDone (last : Bool) (rest : List (Nat × Nat)) (q : Pipe) : Pipe :=
  { q with col := if last then 0 else q.col + 2, todo := if last then rest else q.todo }

theorem pairStepped_pixelWork (tile v : Nat) (ld : Load) (s : State) : PixelWork i s (pairStepped i tile v ld s).2 := by
  have hbegun : PixelWork i s (pairBegun i tile v s) := .ite (aniseRow_pixelWork ..) (.refl s)
  exact hbegun.trans ((stepPixel_pixelWork ..).trans (stepPixel_pixelWork ..))

theorem pairSent_pixelWork (tile v : Nat) (ld : Load) (s : State) : PixelWork i s (pairSent i tile v ld s) := by
  have hstep := pairStepped_pixelWork (i := i) tile v ld s
  exact .ite hstep (hstep.trans (.of_pipes rfl rfl))

theorem pairSent_out {tile v : Nat} (ld : Load) {s : State} (hskip : (s.pipe i).skipping = false) :
    ∃ codes, (pairSent i tile v ld s).out.getLast? =
      some (.pixels i ((s.placement tile).x + (s.pipe i).col) ((s.placement tile).y + v) codes) := by
  refine ⟨(pairStepped i tile v ld s).1, ?_⟩
  unfold pairSent
  rw [hskip, ← (pairStepped_pixelWork tile v ld s).work.placement_eq]
  exact List.getLast?_concat

end

variable {i : Nat} {s : State}

/-- A pipe that can go on does one pair. -/
theorem pixelProcess_flows {tile v : Nat} {rest : List (Nat × Nat)} {ld : Load} (hrun : (s.span (pipeSpan i)).running = true)
    (hbad : s.pipeBad i = false) (htodo : (s.pipe i).todo = (tile, v) :: rest) (hload : (s.pipe i).load = some ld)
    (hstall : s.pipeStalled i = false) (hsweep : (s.pipe i).sweep = none) (halert : s.atAlertPoint i = false)
    (hstarved : s.starved i tile v ld = false) :
    pixelProcess i .ok s = drainBuffer i ((pairSent i tile v ld s).modPipe i
      (pairDone (decide ((s.familyOf tile).tileW ≤ (s.pipe i).col + 2)) rest)) := by
  unfold pixelProcess
  rw [hrun, hbad]
  have hok : applyCheck i .ok s = s := rfl
  simp only [hok, htodo, hload, hstall, hsweep, halert, hstarved, Bool.not_true, Bool.or_self, Option.isSome_none, Bool.false_eq_true,
    if_false]
  rw [← (pairSent_pixelWork (i := i) tile v ld s).work.familyOf_eq]
  rfl

/-- A pipe that stalls, sweeps or stands at an alert point does nothing. -/
theorem pixelProcess_stays {tile v : Nat} {rest : List (Nat × Nat)} {ld : Load} (htodo : (s.pipe i).todo = (tile, v) :: rest)
    (hload : (s.pipe i).load = some ld)
    (h : s.pipeStalled i = true ∨ (s.pipe i).sweep ≠ none ∨ s.atAlertPoint i = true ∨ s.starved i tile v ld = true) :
    pixelProcess i .ok s = s := by
  have hstop : (s.pipeStalled i || (s.pipe i).sweep.isSome || s.atAlertPoint i || s.starved i tile v ld) = true := by
    rw [← Option.isSome_iff_ne_none] at h
    simpa only [Bool.or_eq_true, or_assoc] using h
  have hok : applyCheck i .ok s = s := rfl
  unfold pixelProcess
  split
  · rfl
  · simp only [hok, htodo, hload, hstop, if_true]

/-- What a pair leaves: the pipe a pair on, the pair's codes sent unless it skips, and beside that the work of the pixel path. -/
theorem pairDone_drained {tile v : Nat} {rest : List (Nat × Nat)} {ld : Load} {t : State} {last : Bool}
    (htodo : (s.pipe i).todo = (tile, v) :: rest)
    (ht : t = drainBuffer i ((pairSent i tile v ld s).modPipe i (pairDone last rest))) :
    (t.pipe i).col = (if last then 0 else (s.pipe i).col + 2) ∧ (t.pipe i).todo = (if last then rest else (tile, v) :: rest) ∧
      t.out = (pairSent i tile v ld s).out ∧ (∀ k, k ≠ i → t.pipe k = s.pipe k) ∧ PipeWork s t := by
  have hsent := pairSent_pixelWork (i := i) tile v ld s
  have hdrain := drainBuffer_pixelWork (i := i) ((pairSent i tile v ld s).modPipe i (pairDone last rest))
  have hout := drainBuffer_out (i := i) ((pairSent i tile v ld s).modPipe i (pairDone last rest))
  obtain ⟨hcol, hseg, -⟩ := hsent.place
  obtain ⟨dcol, dseg, -⟩ := hdrain.place
  rw [← ht] at hdrain hout dcol dseg
  rw [State.pipe_modPipe] at dcol dseg
  refine ⟨?_, ?_, hout, fun k hk => ?_, hsent.work.trans (.trans (State.modPipe_pipeWork ..) hdrain.work)⟩
  · rw [dcol, ← hcol]; rfl
  · rw [dseg, ← htodo, ← hseg]; rfl
  · rw [hdrain.others k hk, State.pipe_modPipe_ne _ _ _ _ hk, hsent.others k hk]

theorem exec_pixelProcess (i : Fin 40) (s : State) : exec (.pixelProcess i .ok) s = .next (powerGo (pixelProcess i .ok s)) := rfl

theorem pixelProcess_flows_leaves {i : Fin 40} {tile v : Nat} {rest : List (Nat × Nat)} {ld : Load} (hmove : s.power.move = .none)
    (hrun : (s.span (pipeSpan i)).running = true) (hbad : s.pipeBad i = false) (htodo : (s.pipe i).todo = (tile, v) :: rest)
    (hload : (s.pipe i).load = some ld) (hstall : s.pipeStalled i = false) (hsweep : (s.pipe i).sweep = none)
    (halert : s.atAlertPoint i = false) (hstarved : s.starved i tile v ld = false) :
    ∃ t, exec (.pixelProcess i .ok) s = .next t ∧
        (t.pipe i).col = (if (s.familyOf tile).tileW ≤ (s.pipe i).col + 2 then 0 else (s.pipe i).col + 2) ∧
        (t.pipe i).todo = (if (s.familyOf tile).tileW ≤ (s.pipe i).col + 2 then rest else (tile, v) :: rest) ∧
        ((s.pipe i).skipping = false → ∃ codes, t.out.getLast? =
          some (.pixels i ((s.placement tile).x + (s.pipe i).col) ((s.placement tile).y + v) codes)) ∧
        (∀ k, k ≠ i.val → t.pipe k = s.pipe k) ∧ PipeWork s t := by
  have hflow := pixelProcess_flows hrun hbad htodo hload hstall hsweep halert hstarved
  obtain ⟨hcol, hseg, hout, hothers, hwork⟩ := pairDone_drained htodo hflow
  refine ⟨pixelProcess i .ok s, ?_, ?_, ?_, fun hskip => ?_, hothers, hwork⟩
  · rw [exec_pixelProcess, powerGo_none _ (hwork.move_eq.trans hmove)]
  · simpa only [decide_eq_true_eq] using hcol
  · simpa only [decide_eq_true_eq] using hseg
  · rw [hout]
    exact pairSent_out ld hskip

/-! ### Fetched data arrive (R123, R320) -/

/-- `t` differs from `s` at most in pipe `i` and in the requests that wait for memory. -/
def FetchWork (i : Nat) (s t : State) : Prop := t = { s with pipes := t.pipes, memc := t.memc } ∧ ∀ k, k ≠ i → t.pipe k = s.pipe k

theorem FetchWork.move_eq {t : State} (h : FetchWork i s t) : t.power.move = s.power.move := by
  obtain ⟨hframe, -⟩ := h
  rw [hframe]

theorem State.modPipe_fetchWork (i : Nat) (g : Pipe → Pipe) (s : State) : FetchWork i s (s.modPipe i g) :=
  ⟨rfl, fun _ hk => State.pipe_modPipe_ne _ _ _ _ hk⟩

/-- A request for memory changes no pipe. -/
theorem FetchWork.request {t : State} (h : FetchWork i s t) (c : Prop) [Decidable c] (cls group who : Nat) :
    FetchWork i s (if c then memRequestAll cls group who t else t) ∧
      (if c then memRequestAll cls group who t else t).pipe i = t.pipe i := by
  split
  case isFalse => exact ⟨h, rfl⟩
  case isTrue =>
    obtain ⟨hframe, hothers⟩ := h
    have hreq := memRequestAll_eq cls group who t
    generalize memRequestAll cls group who t = u at hreq
    have hpipe : ∀ k, u.pipe k = t.pipe k := fun k => by rw [hreq]; rfl
    refine ⟨⟨?_, fun k hk => (hpipe k).trans (hothers k hk)⟩, hpipe i⟩
    rw [hreq, hframe]

theorem reclass_pipe (i k : Nat) (s : State) : (reclass i s).pipe k = s.pipe k := rfl

theorem updateUrgent_fetchWork (s : State) : FetchWork i s (updateUrgent i s) :=
  ⟨rfl, fun k hk => (reclass_pipe i k _).trans (State.pipe_modPipe_ne _ _ _ _ hk)⟩

theorem FetchWork.trans {t u : State} (h : FetchWork i s t) (k : FetchWork i t u) : FetchWork i s u := by
  obtain ⟨hframe, hothers⟩ := h
  obtain ⟨kframe, kothers⟩ := k
  refine ⟨?_, fun j hj => (kothers j hj).trans (hothers j hj)⟩
  rw [kframe, hframe]

theorem updateUrgent_pipe (s : State) :
    ((updateUrgent i s).pipe i).fill = (s.pipe i).fill ∧ ((updateUrgent i s).pipe i).lane = (s.pipe i).lane := by
  unfold updateUrgent
  rw [reclass_pipe, State.pipe_modPipe]
  exact ⟨rfl, rfl⟩

/-- Data of the reserved lane fill it up to its 16 KiB (R320). -/
theorem lineBufferFetch_lane (kib : Nat) (hrun : (s.span (pipeSpan i)).running = true) (hbad : s.pipeBad i = false) :
    FetchWork i s (lineBufferFetch i kib true .ok s) ∧
      ((lineBufferFetch i kib true .ok s).pipe i).lane = min 16 ((s.pipe i).lane + kib) ∧
      ((lineBufferFetch i kib true .ok s).pipe i).fill = (s.pipe i).fill := by
  unfold lineBufferFetch
  rw [hrun, hbad, if_neg (by decide), if_pos rfl]
  extract_lets s₂
  have hstep : FetchWork i s s₂ := State.modPipe_fetchWork ..
  have hpipe : s₂.pipe i = { s.pipe i with lane := min 16 ((s.pipe i).lane + kib) } := State.pipe_modPipe ..
  obtain ⟨hwork, hreq⟩ := hstep.request (((s₂.pipe i).sweep.isSome && decide ((s₂.pipe i).lane < 16)) = true) 0 (pipeSpan i) i
  exact ⟨hwork, by rw [hreq, hpipe], by rw [hreq, hpipe]⟩

/-- Data of the scan portion fill it up to its 176 KiB (R123). -/
theorem lineBufferFetch_fill (kib : Nat) (hrun : (s.span (pipeSpan i)).running = true) (hbad : s.pipeBad i = false) :
    FetchWork i s (lineBufferFetch i kib false .ok s) ∧
      ((lineBufferFetch i kib false .ok s).pipe i).fill = min 176 ((s.pipe i).fill + kib) ∧
      ((lineBufferFetch i kib false .ok s).pipe i).lane = (s.pipe i).lane := by
  unfold lineBufferFetch
  rw [hrun, hbad, if_neg (by decide), if_neg (by decide)]
  extract_lets s₃
  have hstep : FetchWork i s s₃ := (State.modPipe_fetchWork ..).trans (updateUrgent_fetchWork _)
  obtain ⟨hfill, hlane⟩ := updateUrgent_pipe (i := i) (s.modPipe i fun q => { q with fill := min 176 (q.fill + kib) })
  rw [State.pipe_modPipe] at hfill hlane
  obtain ⟨hwork, hreq⟩ := hstep.request ((s₃.pipe i).fill < 176) (s₃.pipe i).fetchClass (pipeSpan i) i
  exact ⟨hwork, by rw [hreq]; exact hfill, by rw [hreq]; exact hlane⟩

theorem exec_lineBufferFetch {i : Fin 40} {kib : Nat} {lane : Bool} (hmove : s.power.move = .none)
    (h : FetchWork i s (lineBufferFetch i kib lane .ok s)) :
    exec (.lineBufferFetch i kib lane .ok) s = .next (lineBufferFetch i kib lane .ok s) :=
  congrArg Host.Outcome.next (powerGo_none _ (h.move_eq.trans hmove))

/-- Settles O42: fetched data only fill their pipe's buffer; a pair that goes on does the work of the pixel path, which leaves every
other pipe alone and its own in place, then sends its codes and advances; one that stalls does nothing. -/
theorem pixelPairsFlow : Obligations.PixelPairsFlow := by
  unfold Obligations.PixelPairsFlow
  constructor
  case left =>
    intro i kib s hmove hrun hbad
    obtain ⟨hwork, hfill, hlane⟩ := lineBufferFetch_fill kib hrun hbad
    obtain ⟨kwork, klane, kfill⟩ := lineBufferFetch_lane kib hrun hbad
    have hexec := exec_lineBufferFetch hmove hwork
    have kexec := exec_lineBufferFetch hmove kwork
    obtain ⟨hframe, hothers⟩ := hwork
    obtain ⟨kframe, kothers⟩ := kwork
    exact ⟨⟨_, hexec, hfill, hlane, hothers, hframe⟩, ⟨_, kexec, klane, kfill, kothers, kframe⟩⟩
  case right =>
    intro i tile v rest ld s hmove hrun hbad htodo hload
    constructor
    case left =>
      intro hstall hsweep halert hstarved
      obtain ⟨t, hexec, hcol, hseg, hout, hothers, hwork⟩ :=
        pixelProcess_flows_leaves hmove hrun hbad htodo hload hstall hsweep halert hstarved
      exact ⟨t, hexec, hcol, hseg, hout, hothers, hwork.jobs_eq, hwork.regs_eq, hwork.scan_eq, hwork.ports_eq, hwork.geom_eq,
        hwork.layers_eq, hwork.power_state_eq⟩
    case right =>
      intro hstop
      rw [exec_pixelProcess, pixelProcess_stays htodo hload hstop, powerGo_none _ hmove]

end Sys2Proof.Machine

/-! ## FRAME_START and LATCH_POINT (O39) -/

namespace Sys2Proof.Machine

/-! ### Frame starts (R104, R112, R113, R289) -/

/-- A port that sends has the SYN of a frame start to send (R289). -/
def synSent (handover resume : Bool) (s : State) (p : Nat) (q : Port) : Port :=
  if q.sends then
    { q with txSyn := q.txSyn ++ [packetBytes 1 0
        (leBytes 4 s.scan.show_ ++ [s.synFlags p handover resume, 0, 0, 0] ++ leBytes 4 s.framePeriod)] }
  else q

/-- SYNs go to ports in turn. -/
def sendSyns (handover resume : Bool) (l : List Nat) (s : State) : State :=
  forEach l (fun p st => sendSyn p st.scan.show_ (st.synFlags p handover resume) st) s

/-- Each port of the list takes one SYN, and the rest of the state gives nothing. -/
theorem sendSyns_ports (handover resume : Bool) {l : List Nat} (hl : l.Nodup) (s : State) :
    PortsOnly s (sendSyns handover resume l s) ∧
      (∀ p ∈ l, (sendSyns handover resume l s).port p = synSent handover resume s p (s.port p)) ∧
      ∀ p, p ∉ l → (sendSyns handover resume l s).port p = s.port p := by
  induction l generalizing s with
  | nil => exact ⟨rfl, nofun, fun _ _ => rfl⟩
  | cons a l ih =>
    obtain ⟨ha, hl⟩ := List.nodup_cons.mp hl
    have hone : PortsOnly s (s.modPort a (synSent handover resume s a)) := rfl
    have hcons : sendSyns handover resume (a :: l) s = sendSyns handover resume l (s.modPort a (synSent handover resume s a)) := rfl
    obtain ⟨hrest, hin, hout⟩ := ih hl (s.modPort a (synSent handover resume s a))
    rw [hcons]
    refine ⟨hone.trans hrest, fun p hp => ?_, fun p hp => ?_⟩
    · rcases List.mem_cons.mp hp with rfl | hp
      · rw [hout p ha, State.port_modPort]
      · have hne : p ≠ a := fun h => ha (h ▸ hp)
        rw [hin p hp, State.port_modPort_ne _ _ _ _ hne]
        rfl
    · rw [hout p (List.not_mem_of_not_mem_cons hp), State.port_modPort_ne _ _ _ _ (List.ne_of_not_mem_cons hp)]

/-- The SYNs of a frame start. -/
def State.synced (s : State) : State :=
  sendSyns (s.scan.closed && s.scan.state == .running) (decide (0 < s.faultg.resumeFrames)) s.upPorts s

/-- The marks that a frame start leaves: a latch point comes next. -/
def State.marked (s : State) : State :=
  { s with
    faultg := { s.faultg with resumeFrames := s.faultg.resumeFrames - 1 }
    scan := { s.scan with
      next := .latch, lastStart := some s.cycles, rephase := s.scan.rephase && s.scan.placed.isNone, placed := none
      returning := false, rephaseWait := s.scan.rephase && s.scan.placed.isNone
      holdover := s.scan.holdover || (s.scan.locked && s.scan.placed.isNone) } }

theorem State.synced_portsOnly (s : State) : PortsOnly s s.synced :=
  (sendSyns_ports _ _ (List.nodup_range.filter _) s).1

theorem State.synced_port (s : State) (p : Nat) : s.synced.port p =
    if p < 32 ∧ (s.port p).state = 2 then
      synSent (s.scan.closed && s.scan.state == .running) (decide (0 < s.faultg.resumeFrames)) s p (s.port p)
    else s.port p := by
  obtain ⟨-, hin, hout⟩ := sendSyns_ports (s.scan.closed && s.scan.state == .running) (decide (0 < s.faultg.resumeFrames))
    (l := s.upPorts) (List.nodup_range.filter _) s
  have hup : p ∈ s.upPorts ↔ p < 32 ∧ (s.port p).state = 2 := by
    rw [State.upPorts, List.mem_filter, List.mem_range, beq_iff_eq]
  split
  · next h => exact hin p (hup.mpr h)
  · next h => exact hout p (mt hup.mp h)

variable {dt : Nat} {s u : State}

/-- Scan-out that has handed over to a power state (R113). -/
def State.handedOver (s : State) : State :=
  { s with scan := { s.scan with state := .held, closed := false, handover := false } }

theorem State.synced_marked_frame (s : State) :
    s.synced.marked = { s with ports := s.synced.ports, scan := s.marked.scan, faultg := s.marked.faultg } := by
  have h := s.synced_portsOnly
  unfold PortsOnly at h
  generalize s.synced = t at h
  rw [h]
  rfl

theorem frameStart_eq (hu : u = advance dt s) (hnext : u.scan.next = .frameStart)
    (hstate : u.scan.state = .running ∨ u.scan.state = .stopping) (hmove : u.power.move = .none) :
    frameStart dt s =
      if u.scan.closed then (if u.scan.state = .stopping then scanStopped u.synced.marked else u.synced.marked.handedOver)
      else u.synced.marked := by
  unfold frameStart
  extract_lets a handover resume synced faultg scan begun heldScan held
  have ha : a = u := hu.symm
  have hbegun : begun = a.synced.marked := rfl
  clear_value a
  subst ha
  have hframe := a.synced_marked_frame
  rw [← hbegun] at hframe ⊢
  have hheld : held = begun.handedOver := rfl
  clear_value begun held
  have hclosed : begun.scan.closed = a.scan.closed := by rw [hframe]; rfl
  have hstop : begun.scan.state = a.scan.state := by rw [hframe]; rfl
  have hnone : held.power.move = .none := by rw [hheld, hframe]; exact hmove
  rw [hclosed, hstop, hnone, hheld, hnext]
  have hgoes : ¬((a.scan.state ≠ .running && a.scan.state ≠ .stopping) = true) := by
    rcases hstate with h | h <;> rw [h] <;> decide
  rw [if_neg (by simpa using hgoes)]
  cases a.scan.closed
  case false => rfl
  case true => rfl

/-- A frame start while the window is open, or is to open (R104, R289). -/
theorem exec_frameStart_begins (hu : u = advance dt s) (hnext : u.scan.next = .frameStart) (hstate : u.scan.state = .running)
    (hclosed : u.scan.closed = false) (hmove : u.power.move = .none) : exec (.frameStart dt) s = .next u.synced.marked := by
  have hframe := u.synced_marked_frame
  have h := frameStart_eq hu hnext (.inl hstate) hmove
  rw [hclosed, if_neg nofun] at h
  have hnone : u.synced.marked.power.move = .none := by rw [hframe]; exact hmove
  exact congrArg Host.Outcome.next ((congrArg powerGo h).trans (powerGo_none _ hnone))

/-- The frame start after the latch point of a stop (R112). -/
theorem exec_frameStart_stops (hu : u = advance dt s) (hnext : u.scan.next = .frameStart) (hstate : u.scan.state = .stopping)
    (hclosed : u.scan.closed = true) (hmove : u.power.move = .none) : exec (.frameStart dt) s = .next (scanStopped u.synced.marked) := by
  have hframe := u.synced_marked_frame
  have h := frameStart_eq hu hnext (.inr hstate) hmove
  rw [hclosed, if_pos rfl, if_pos hstate] at h
  have hbefore : u.synced.marked.power.move = .none := by rw [hframe]; exact hmove
  obtain ⟨-, -, -, -, hnone⟩ := scanStopped_ends hbefore
  exact congrArg Host.Outcome.next ((congrArg powerGo h).trans (powerGo_none _ hnone))

/-- The frame start that hands over to a power state (R113). -/
theorem exec_frameStart_hands (hu : u = advance dt s) (hnext : u.scan.next = .frameStart) (hstate : u.scan.state = .running)
    (hclosed : u.scan.closed = true) (hmove : u.power.move = .none) : exec (.frameStart dt) s = .next u.synced.marked.handedOver := by
  have hframe := u.synced_marked_frame
  have h := frameStart_eq hu hnext (.inl hstate) hmove
  rw [hclosed, if_pos rfl, if_neg (by rw [hstate]; decide)] at h
  have hnone : u.synced.marked.handedOver.power.move = .none := by rw [hframe]; exact hmove
  exact congrArg Host.Outcome.next ((congrArg powerGo h).trans (powerGo_none _ hnone))

end Sys2Proof.Machine

namespace Sys2Proof.Machine

/-! ### The closing of a window (R156, R217, R244, R331) -/

theorem State.modCodec_pipeWork (k : Nat) (g : Codec → Codec) (s : State) : PipeWork s (s.modCodec k g) := rfl

theorem detectNote_pipeWork (u k : Nat) (s : State) : PipeWork s (detectNote u k s) := .of_reports (detectNote_reports ..)

theorem closeBlock_pipeWork (k : Nat) (last : Bool) (s : State) : PipeWork s (closeBlock k last s) :=
  (closeBlock_pixelWork (i := k) k last s).work

theorem missRow_pipeWork (i y : Nat) (s : State) : PipeWork s (missRow i y s) := .ite (detectNote_pipeWork ..) rfl

theorem missRows_pipeWork (i n f : Nat) (l : List (Nat × Nat)) (s : State) : PipeWork s (missRows i n f l s) :=
  .forEach (fun y t => missRow_pipeWork i y t) _ s

theorem missRest_pipeWork (i : Nat) (s : State) : PipeWork s (missRest i s) := missRows_pipeWork ..

theorem abandonFrame_pipeWork (i : Nat) (count : Bool) (s : State) : PipeWork s (abandonFrame i count s) := by
  unfold abandonFrame
  split
  · exact .refl s
  extract_lets s₁ s₂ s₃
  have hclosed : PipeWork s s₁ := closeBlock_pipeWork ..
  have hgone : PipeWork s s₃ := hclosed.trans ((State.modPipe_pipeWork ..).trans (State.modCodec_pipeWork ..))
  split
  · exact hgone.trans (detectNote_pipeWork ..)
  · exact hgone

theorem closeFrameStats_pipeWork (i : Nat) (s : State) : PipeWork s (closeFrameStats i s) := by
  unfold closeFrameStats
  extract_lets c waiting
  exact State.modCodec_pipeWork ..

theorem closePipe_pipeWork (i p n : Nat) (s : State) : PipeWork s (closePipe i p n s) := by
  unfold closePipe
  extract_lets q skipMode s₁ s₂ s₃ s₄
  have hskip : PipeWork s s₁ := .ite (missRows_pipeWork ..) (.refl s)
  have hrest : PipeWork s s₂ := hskip.trans (missRest_pipeWork ..)
  have hleft : PipeWork s s₃ := .ite (hrest.trans (State.modPipe_pipeWork ..)) (.ite hrest (hrest.trans (abandonFrame_pipeWork ..)))
  refine .ite (State.modCodec_pipeWork ..) ?_
  exact hleft.trans ((closeFrameStats_pipeWork ..).trans (State.modCodec_pipeWork ..))

theorem putIn_pipeWork (a n v : Nat) (s : State) : PipeWork s (putIn a n v s) := (putIn_pixelWork (i := 0) a n v s).work

theorem fillKnots_pipeWork (j c g : Nat) (s : State) : PipeWork s (fillKnots j c g s) :=
  .forEach (fun _ _ => (putIn_pipeWork ..).trans (putIn_pipeWork ..)) _ s

theorem zeroCounters_pipeWork (j : Nat) (cs : List Nat) (s : State) : PipeWork s (zeroCounters j cs s) :=
  .forEach (fun _ _ => .forEach (fun _ _ => .forEach (fun _ _ => putIn_pipeWork ..) _ _) _ _) _ s

theorem State.setCards_pipeWork (c : Tab Nat) (s : State) : PipeWork s { s with age := { s.age with cards := c } } := rfl

theorem State.setA0_pipeWork (a : Tab Nat) (s : State) : PipeWork s { s with age := { s.age with a0 := a } } := rfl

theorem setCard_eq (j v : Nat) (s : State) : setCard j v s =
    { putIn (s.geom.tileBase + 32 * j + 16) 8 v s with
      age := { (putIn (s.geom.tileBase + 32 * j + 16) 8 v s).age with cards := Tab.put 0 j v s.age.cards } } := rfl

theorem setCard_pipeWork (j v : Nat) (s : State) : PipeWork s (setCard j v s) := by
  rw [setCard_eq]
  exact (putIn_pipeWork ..).trans (State.setCards_pipeWork ..)

/-- A colour's knots hold A0, and its counters read 0 (R166). -/
def spareCleared (j c : Nat) (s : State) : State :=
  zeroCounters j [c] (fillKnots j c (Tab.get (spareGain s j c) (4 * j + c) s.age.a0) s)

theorem becomeSpare_eq (j c : Nat) (s : State) : ∃ a v,
    becomeSpare j c s = { setCard j v (spareCleared j c s) with age := { (setCard j v (spareCleared j c s)).age with a0 := a } } :=
  ⟨_, _, rfl⟩

theorem becomeSpare_pipeWork (j c : Nat) (s : State) : PipeWork s (becomeSpare j c s) := by
  have hcleared : PipeWork s (spareCleared j c s) := (fillKnots_pipeWork ..).trans (zeroCounters_pipeWork ..)
  obtain ⟨a, v, h⟩ := becomeSpare_eq j c s
  rw [h]
  exact hcleared.trans ((setCard_pipeWork ..).trans (State.setA0_pipeWork ..))

theorem endFades_pipeWork (n : Nat) (s : State) : PipeWork s (endFades n s) := by
  refine .forEach (fun j t => .forEach (fun c u => .ite ?_ (.refl u)) _ t) _ s
  exact (becomeSpare_pipeWork j c u).trans (.of_reports (raiseEvent_reports ..))

theorem resEvent_reports (kind key frame : Nat) (s : State) : Reports s (resEvent kind key frame s) := by
  unfold resEvent
  split
  · exact raiseEvent_reports ..
  · exact .refl s

theorem State.modCell_pipeWork (key : Nat) (g : ResCell → ResCell) (s : State) : PipeWork s (s.modCell key g) := rfl

theorem resClose_pipeWork (key n : Nat) (s : State) : PipeWork s (resClose key n s) :=
  .ite ((State.modCell_pipeWork ..).trans (.of_reports (resEvent_reports ..)))
    (.ite (State.modCell_pipeWork ..) (.ite (State.modCell_pipeWork ..) (.refl s)))

theorem resFrameClosed_pipeWork (n : Nat) (s : State) : PipeWork s (resFrameClosed n s) := by
  unfold resFrameClosed
  split
  · exact .refl s
  extract_lets s₁ s₂
  have hfades : PipeWork s s₁ := .forEach (fun k t => resClose_pipeWork k n t) _ s
  have hskips : PipeWork s s₂ := hfades.trans <| .forEach (fun x t => .ite (.forEach (fun k u => State.modCell_pipeWork ..) _ t) (.refl t)) _ s₁
  exact hskips.trans (.forEach (fun k t => .of_resWork (resDecide_resWork ..)) _ s₂)

/-- `t` differs from `s` at most in what a latch point changes before it opens a window. -/
def CloseWork (s t : State) : Prop :=
  t = { s with out := t.out, free := t.free, mem := t.mem, host := { s.host with pba := t.host.pba }, faults := t.faults
               evSeq := t.evSeq, rings := t.rings, journals := t.journals, ckpts := t.ckpts
               power := { s.power with heldEvents := t.power.heldEvents, activity := t.power.activity, idleCount := t.power.idleCount }
               scan := { s.scan with windowOpen := t.scan.windowOpen, show_ := t.scan.show_, changed := t.scan.changed, next := t.scan.next }
               pipes := t.pipes, memc := t.memc, codecs := t.codecs, age := t.age, bist := { s.bist with queue := t.bist.queue }
               res := t.res, emitter := { s.emitter with pending := t.emitter.pending } }

theorem CloseWork.refl (s : State) : CloseWork s s := rfl

theorem CloseWork.trans {s t u : State} (h : CloseWork s t) (k : CloseWork t u) : CloseWork s u := by
  unfold CloseWork at *
  rw [k, h]

theorem CloseWork.of_pipeWork {s t : State} (h : PipeWork s t) : CloseWork s t := by
  unfold PipeWork at h
  unfold CloseWork
  rw [h]

/-- The count towards self-entered Hold is a mark of activity alone (R331). -/
theorem countIdle_closeWork (s : State) : CloseWork s (countIdle s) := by
  unfold countIdle
  split <;> rfl


/-- What closing the window of the open frame brings to its pipes, to ageing and to cells. -/
def pipesClosed (s : State) : State :=
  let t := forEach (List.range 40) (fun i st => st.modCodec i fun c => { c with justClosed := none }) s
  resFrameClosed s.scan.frame (endFades s.scan.frame (forEach t.openPipes (fun x st => closePipe x.1 x.2 s.scan.frame st) t))

/-- The activity of a frame, which counts towards self-entered Hold (R331). -/
def State.noteActivity (a : Bool) (s : State) : State := { s with power := { s.power with activity := a } }

/-- No window is open, and the frame that had one is the one shown. -/
def State.windowShut (frame : Nat) (s : State) : State :=
  { s with scan := { s.scan with windowOpen := false, show_ := frame % 2 ^ 32, changed := false }
           power := { s.power with activity := false } }

theorem closeWindow_open {s : State} (h : s.scan.windowOpen = true) :
    ∃ a, closeWindow s = (countIdle ((pipesClosed s).noteActivity a)).windowShut s.scan.frame := by
  unfold closeWindow
  rw [h]
  exact ⟨_, rfl⟩

theorem closeWindow_shut {s : State} (h : s.scan.windowOpen = false) : closeWindow s = s := by
  unfold closeWindow
  rw [h]
  rfl

theorem pipesClosed_pipeWork (s : State) : PipeWork s (pipesClosed s) := by
  unfold pipesClosed
  extract_lets t
  have hcodecs : PipeWork s t := .forEach (fun i st => State.modCodec_pipeWork i _ st) _ s
  have hpipes := hcodecs.trans (.forEach (fun x st => closePipe_pipeWork x.1 x.2 s.scan.frame st) t.openPipes t)
  exact hpipes.trans ((endFades_pipeWork ..).trans (resFrameClosed_pipeWork ..))

/-- Closing a window leaves all that a latch point is to find as it was (R104). -/
theorem closeWindow_closeWork (s : State) : CloseWork s (closeWindow s) := by
  cases h : s.scan.windowOpen with
  | false => rw [closeWindow_shut h]; exact .refl s
  | true =>
    obtain ⟨a, hclose⟩ := closeWindow_open h
    have hactive : ∀ t : State, CloseWork t (t.noteActivity a) := fun _ => rfl
    have hshut : ∀ (f : Nat) (t : State), CloseWork t (t.windowShut f) := fun _ _ => rfl
    rw [hclose]
    exact (CloseWork.of_pipeWork (pipesClosed_pipeWork s)).trans ((hactive _).trans ((countIdle_closeWork _).trans (hshut _ _)))

/-- A latch point shuts the window (R104). -/
theorem closeWindow_windowOpen (s : State) : (closeWindow s).scan.windowOpen = false := by
  cases h : s.scan.windowOpen with
  | false => rw [closeWindow_shut h, h]
  | true =>
    obtain ⟨a, hclose⟩ := closeWindow_open h
    rw [hclose]
    rfl

theorem closeWindow_show {s : State} (h : s.scan.windowOpen = true) : (closeWindow s).scan.show_ = s.scan.frame % 2 ^ 32 := by
  obtain ⟨a, hclose⟩ := closeWindow_open h
  rw [hclose]
  rfl

theorem checkpointEngines_closeWork (s : State) : CloseWork s (checkpointEngines s) :=
  forEach_keeps (CloseWork s) _ _ (fun e t ht => ht.trans (show CloseWork t (t.checkpoint e) from rfl)) _ (.refl s)

theorem checkpointEngines_scan (s : State) : (checkpointEngines s).scan = s.scan :=
  forEach_same State.scan _ (fun e st => st.checkpoint e) (fun _ _ => rfl) s

/-- Every pipe is to load its tables as it opens its next window (R146). -/
def reloadAll (s : State) : State :=
  forEach (List.range 40) (fun i st => st.modPipe i fun q => { q with reload := true }) s

theorem reloadAll_eq (s : State) : reloadAll s = { s with pipes := (reloadAll s).pipes } :=
  forEach_keeps (fun t : State => t = { s with pipes := t.pipes }) _ _ (fun i t ht => by rw [ht]; rfl) _ rfl

theorem takeReload_eq (s : State) : ∃ p, takeReload s = { s with emitter := { s.emitter with pending := false }, pipes := p } := by
  cases h : s.emitter.pending with
  | false =>
    have hsame : takeReload s = s := by rw [takeReload, h]; rfl
    refine ⟨s.pipes, ?_⟩
    rw [hsame, ← h]
  | true =>
    have hload : takeReload s = reloadAll { s with emitter := { s.emitter with pending := false } } := by rw [takeReload, h]; rfl
    rw [hload, reloadAll_eq]
    exact ⟨_, rfl⟩

/-- A frame start comes after a latch point (R104). -/
def State.startNext (s : State) : State := { s with scan := { s.scan with next := .frameStart } }

/-- What a latch point does before it opens a window (R104, R146, R393). -/
def latchClosed (s : State) : State := takeReload (closeWindow (checkpointEngines s)).startNext

theorem latchClosed_closeWork (s : State) : CloseWork s (latchClosed s) := by
  have hnext : ∀ t : State, CloseWork t t.startNext := fun _ => rfl
  have hreload : ∀ t : State, CloseWork t (takeReload t) := fun t => by
    obtain ⟨p, hp⟩ := takeReload_eq t
    rw [hp]
    rfl
  exact ((checkpointEngines_closeWork s).trans (closeWindow_closeWork _)).trans ((hnext _).trans (hreload _))

/-- The window is shut, a frame start comes next, and no reload is pending. -/
theorem latchClosed_marks (s : State) :
    (latchClosed s).scan.windowOpen = false ∧ (latchClosed s).scan.next = .frameStart ∧ (latchClosed s).emitter.pending = false := by
  obtain ⟨p, hp⟩ := takeReload_eq (closeWindow (checkpointEngines s)).startNext
  rw [latchClosed, hp]
  exact ⟨closeWindow_windowOpen _, rfl, rfl⟩

theorem latchClosed_show {s : State} (h : s.scan.windowOpen = true) : (latchClosed s).scan.show_ = s.scan.frame % 2 ^ 32 := by
  obtain ⟨p, hp⟩ := takeReload_eq (closeWindow (checkpointEngines s)).startNext
  have hscan := checkpointEngines_scan s
  rw [latchClosed, hp, ← hscan]
  exact closeWindow_show (by rw [hscan, h])

/-! ### Latch points (R104, R112) -/

/-- The window that closed was the last one. -/
def State.lastClosed (s : State) : State := { s with scan := { s.scan with closed := true } }

variable {dt : Nat} {s u : State}

theorem latchClosed_state (s : State) :
    (latchClosed s).scan.state = s.scan.state ∧ (latchClosed s).scan.handover = s.scan.handover := by
  have h := latchClosed_closeWork s
  unfold CloseWork at h
  generalize latchClosed s = t at h
  rw [h]
  exact ⟨rfl, rfl⟩

/-- A latch point of scan-out that runs or stops (R104, R112, R113). -/
theorem latchPoint_eq (hu : u = advance dt s) : latchPoint dt s =
    if u.scan.next ≠ .latch || (u.scan.state ≠ .running && u.scan.state ≠ .stopping) then u
    else if (latchClosed u).scan.state = .stopping then (latchClosed u).lastClosed
    else if (latchClosed u).scan.handover then
      { (latchClosed u).lastClosed with age := { (latchClosed u).age with heldFrom := (latchClosed u).timeNow, heldGap := false } }
    else openWindow (latchClosed u) := by
  rw [hu]
  rfl

theorem latchPoint_stopping (hu : u = advance dt s) (hnext : u.scan.next = .latch) (hstate : u.scan.state = .stopping) :
    latchPoint dt s = (latchClosed u).lastClosed := by
  obtain ⟨kstate, -⟩ := latchClosed_state u
  rw [latchPoint_eq hu, hnext, hstate, kstate, hstate]
  rfl

theorem latchPoint_running (hu : u = advance dt s) (hnext : u.scan.next = .latch) (hstate : u.scan.state = .running)
    (hhand : u.scan.handover = false) : latchPoint dt s = openWindow (latchClosed u) := by
  obtain ⟨kstate, khand⟩ := latchClosed_state u
  rw [latchPoint_eq hu, hnext, hstate, kstate, hstate, khand, hhand]
  rfl

/-- The latch point of a stop closes the window, and opens none (R112). -/
theorem exec_latchPoint_stopping (hu : u = advance dt s) (hnext : u.scan.next = .latch) (hstate : u.scan.state = .stopping)
    (hmove : u.power.move = .none) : exec (.latchPoint dt) s = .next (latchClosed u).lastClosed := by
  have hwork := latchClosed_closeWork u
  unfold CloseWork at hwork
  have hnone : (latchClosed u).lastClosed.power.move = .none := by
    generalize latchClosed u = t at hwork
    rw [hwork]
    exact hmove
  exact congrArg Host.Outcome.next ((congrArg powerGo (latchPoint_stopping hu hnext hstate)).trans (powerGo_none _ hnone))

end Sys2Proof.Machine

namespace Sys2Proof.Machine

/-! ### The opening of a window (R104, R125) -/

theorem LatchWork.of_pipeWork {s t : State} (h : PipeWork s t) : LatchWork s t := by
  unfold PipeWork at h
  unfold LatchWork
  rw [h]

/-- From `s` to `t` no bind has started (R81). -/
def BindsFrom (s t : State) : Prop := ∀ x ∈ t.jobs, x.stage = .binding → x ∈ s.jobs

theorem BindsFrom.of_jobs_eq {s t : State} (h : t.jobs = s.jobs) : BindsFrom s t := fun _ hx _ => h ▸ hx

theorem BindsFrom.trans {s t u : State} (h : BindsFrom s t) (k : BindsFrom t u) : BindsFrom s u :=
  fun x hx hb => h x (k x hx hb) hb

/-- The work of a latch point as it opens a window, in which no bind starts. -/
structure OpenWork (s t : State) : Prop where
  work : LatchWork s t
  binds : BindsFrom s t

theorem OpenWork.refl (s : State) : OpenWork s s := ⟨.refl s, .of_jobs_eq rfl⟩

theorem OpenWork.trans {s t u : State} (h : OpenWork s t) (k : OpenWork t u) : OpenWork s u :=
  ⟨h.work.trans k.work, h.binds.trans k.binds⟩

theorem OpenWork.ite {s t u : State} {c : Prop} [Decidable c] (h : OpenWork s t) (k : OpenWork s u) :
    OpenWork s (if c then t else u) := by
  split <;> assumption

theorem OpenWork.forEach {α : Type} {f : α → State → State} (hf : ∀ a t, OpenWork t (f a t)) (l : List α) (s : State) :
    OpenWork s (forEach l f s) :=
  forEach_keeps (OpenWork s) l f (fun a t ht => ht.trans (hf a t)) s (.refl s)

theorem OpenWork.of_pipeWork {s t : State} (h : PipeWork s t) : OpenWork s t := ⟨.of_pipeWork h, .of_jobs_eq h.jobs_eq⟩

/-! ### Commands at a latch point (R79, R81, R92) -/

theorem finishJob_openWork (j : Job) (st d : Nat) (s : State) : OpenWork s (finishJob j st d s) :=
  ⟨finishJob_latchWork .., fun x hx _ => (finishJob_jobs j st d s x hx).1⟩

theorem State.setJob_binds {j : Job} (hj : j.stage ≠ .binding) (s : State) : BindsFrom s (s.setJob j) := by
  intro x hx hb
  obtain ⟨y, hy, rfl⟩ := List.mem_map.mp hx
  split at hb
  · exact absurd hb hj
  · next hkey => rwa [if_neg hkey]

theorem State.setJob_openWork {j : Job} (hj : j.stage ≠ .binding) (s : State) : OpenWork s (s.setJob j) :=
  ⟨rfl, State.setJob_binds hj s⟩

theorem fenceCheck_openWork (n : Nat) (s : State) : OpenWork s (fenceCheck n s) :=
  ⟨fenceCheck_latchWork n s, fun x hx _ => fenceCheck_jobs n s x hx⟩

theorem stopCheck_openWork (n : Nat) (s : State) : OpenWork s (stopCheck n s) :=
  ⟨stopCheck_latchWork n s, .of_jobs_eq (stopCheck_jobs n s)⟩

theorem latchFences_openWork (due : List Job) (s : State) : OpenWork s (latchFences due s) := by
  refine .forEach (fun j t => ?_) due s
  have hset : OpenWork t (t.setJob { j with stage := .fence true }) := State.setJob_openWork (by simp) t
  exact hset.trans ((fenceCheck_openWork j.ring _).trans (stopCheck_openWork j.ring _))

theorem runWrite_binds (j : Job) (s : State) : BindsFrom s (runWrite j s) := by
  obtain ⟨m, p, h⟩ := runWrite_eq j s
  rw [h]
  exact State.setJob_binds (j := { j with stage := .running }) (by simp) s

theorem runReleased_binds (fuel : Nat) (s : State) : BindsFrom s (runReleased fuel s) := by
  induction fuel generalizing s with
  | zero => exact .of_jobs_eq rfl
  | succ fuel ih =>
    unfold runReleased
    dsimp only
    split
    · exact .of_jobs_eq rfl
    · exact (runWrite_binds _ _).trans (ih _)

theorem State.releasedBy_binds (j : Job) (s : State) : BindsFrom s (s.releasedBy j) := by
  intro x hx hb
  obtain ⟨y, hy, rfl⟩ := List.mem_map.mp hx
  split at hb
  · next hc =>
    rw [Bool.and_eq_true, beq_iff_eq] at hc
    exact absurd (hc.1.symm.trans hb) nofun
  · next hc => rwa [if_neg hc]

theorem retireOne_binds (d : Nat) (j : Job) (s : State) : BindsFrom s (retireOne d j s) := by
  cases h : s.references (wd64 j.desc 4) (wd64 j.desc 6) with
  | true => rw [retireOne_referenced h]; exact .of_jobs_eq rfl
  | false =>
    rw [retireOne_unreferenced h]
    exact ((s.releasedBy_binds j).trans (finishJob_openWork ..).binds).trans (runReleased_binds _ _)

theorem retireCheck_openWork (d : Nat) (s : State) : OpenWork s (retireCheck d s) :=
  ⟨retireCheck_latchWork d s, forEach_keeps (BindsFrom s) _ _ (fun j t ht => ht.trans (retireOne_binds d j t)) s (.of_jobs_eq rfl)⟩

theorem State.setLayer_openWork (n : Nat) (v : Surface) (s : State) : OpenWork s (s.setLayer n v) := ⟨rfl, .of_jobs_eq rfl⟩

/-- A started bind applies and completes (R81). -/
def bindApplied (detail : Nat) (j : Job) (s : State) : State :=
  finishJob j 0 detail (s.setLayer (fld (wd j.desc 2) 5 0) (descSurface j.desc 3))

theorem applyBinds_eq (detail : Nat) (s : State) :
    applyBinds detail s = forEach (s.jobs.filter fun j => j.stage == .binding) (bindApplied detail) s := rfl

theorem bindApplied_openWork (detail : Nat) (j : Job) (s : State) : OpenWork s (bindApplied detail j s) :=
  (State.setLayer_openWork ..).trans (finishJob_openWork ..)

theorem applyBinds_openWork (detail : Nat) (s : State) : OpenWork s (applyBinds detail s) :=
  .forEach (bindApplied_openWork detail) _ s

/-- After the binds have applied none waits (R125). -/
theorem applyBinds_none (detail : Nat) (s : State) : ∀ x ∈ (applyBinds detail s).jobs, x.stage ≠ .binding := by
  intro x hx hb
  have hin : x ∈ s.jobs.filter fun j => j.stage == .binding :=
    List.mem_filter.mpr ⟨(applyBinds_openWork detail s).binds x hx hb, by rw [hb]; rfl⟩
  have hgone : (applyBinds detail s).Gone x := by
    rw [applyBinds_eq]
    exact forEach_reaches (fun o (t : State) => t.Gone o) _ (bindApplied detail) (fun o t => finishJob_gone o 0 detail _)
      (fun a o t ht => (finishJob_proceeds a 0 detail _).gone ht) s x hin
  exact hgone x hx ⟨rfl, rfl⟩

theorem alertDone_openWork (s : State) : OpenWork s (alertDone s) := by
  obtain ⟨t, hwork, hjobs, h | ⟨j, d, h⟩⟩ := alertDone_cases s
  · rw [h]
    exact ⟨hwork, .of_jobs_eq hjobs⟩
  · rw [h]
    exact OpenWork.trans ⟨hwork, .of_jobs_eq hjobs⟩ (finishJob_openWork ..)

end Sys2Proof.Machine

namespace Sys2Proof.Machine

/-! ### Lanes as a window opens (R245, R266, R322) -/

theorem State.emit_openWork (o : Output) (s : State) : OpenWork s (s.emit o) := ⟨rfl, .of_jobs_eq rfl⟩

theorem State.modPort_openWork (p : Nat) (g : Port → Port) (s : State) : OpenWork s (s.modPort p g) := ⟨rfl, .of_jobs_eq rfl⟩

theorem State.modLane_openWork (p l : Nat) (g : Lane → Lane) (s : State) : OpenWork s (s.modLane p l g) := ⟨rfl, .of_jobs_eq rfl⟩

theorem State.modPipe_openWork (i : Nat) (g : Pipe → Pipe) (s : State) : OpenWork s (s.modPipe i g) := ⟨rfl, .of_jobs_eq rfl⟩

theorem State.modCodec_openWork (i : Nat) (g : Codec → Codec) (s : State) : OpenWork s (s.modCodec i g) := ⟨rfl, .of_jobs_eq rfl⟩

theorem State.wr_openWork (r : Reg) (v : Nat) (s : State) : OpenWork s (s.wr r v) := ⟨rfl, .of_jobs_eq rfl⟩

theorem sendSymbols_openWork (p l : Nat) (syms : List Nat) (s : State) : OpenWork s (sendSymbols p l syms s) :=
  (State.modLane_openWork ..).trans (State.emit_openWork ..)

theorem lineAct_openWork (p l action : Nat) (s : State) : OpenWork s (lineAct p l action s) := State.emit_openWork ..

theorem idleLane_openWork (p l : Nat) (s : State) : OpenWork s (idleLane p l s) := by
  unfold idleLane
  extract_lets s₁
  have hidle : OpenWork s s₁ := State.modPort_openWork ..
  exact hidle.trans <| (sendSymbols_openWork ..).trans <| (lineAct_openWork ..).trans (State.modLane_openWork ..)

theorem wakeLane_openWork (p l : Nat) (s : State) : OpenWork s (wakeLane p l s) := by
  unfold wakeLane
  extract_lets s₁
  have hawake : OpenWork s s₁ := State.modPort_openWork ..
  exact hawake.trans <| (sendSymbols_openWork ..).trans (State.modLane_openWork ..)

theorem wakeLanes_openWork (p : Nat) (s : State) : OpenWork s (wakeLanes p s) := .forEach (wakeLane_openWork p) _ s

theorem governorLatch_openWork (i p : Nat) (s : State) : OpenWork s (governorLatch i p s) := by
  unfold governorLatch
  extract_lets c q c1 headroom
  refine .ite (.refl s) (.ite (.ite (.refl s) ((wakeLanes_openWork p s).trans (State.modCodec_openWork ..))) (.ite ?_ (.refl s)))
  split
  · exact idleLane_openWork ..
  · exact .refl s

theorem skipLatch_openWork (i p n : Nat) (s : State) : OpenWork s (skipLatch i p n s) := by
  unfold skipLatch
  extract_lets c c1 degraded
  have hentry : OpenWork s (detectNote (codecUnit i) 0 (s.modCodec i fun c => { c with skip := true })) :=
    (State.modCodec_openWork ..).trans (.of_pipeWork (detectNote_pipeWork ..))
  exact .ite (.ite (State.modCodec_openWork ..) (.refl s)) (.ite hentry (.refl s))

theorem codecLatch_openWork (s : State) : OpenWork s (codecLatch s) := .forEach (fun i t => State.modCodec_openWork i _ t) _ s

theorem releaseLanes_openWork (p : Nat) (s : State) : OpenWork s (releaseLanes p s) := by
  unfold releaseLanes
  extract_lets s₁
  have hhist : OpenWork s s₁ := State.modCodec_openWork ..
  refine .ite (hhist.trans ?_) hhist
  exact (State.modPort_openWork ..).trans <| (State.modLane_openWork ..).trans <| (sendSymbols_openWork ..).trans (lineAct_openWork ..)

theorem sweepLanes_openWork (p : Nat) (s : State) : OpenWork s (sweepLanes p s) := by
  unfold sweepLanes
  extract_lets q s₁ s₂
  have hwake : OpenWork s s₁ := wakeLanes_openWork ..
  have hprbs : OpenWork s s₂ := hwake.trans (.ite ((State.wr_openWork ..).trans (lineAct_openWork ..)) (.refl s₁))
  refine .ite (.refl s) (.ite hwake (hprbs.trans ?_))
  exact (State.modPort_openWork ..).trans <| (State.modLane_openWork ..).trans (sendSymbols_openWork ..)

/-! ### Fennel's frame (R216, R219, R221) -/

theorem policyApply_pipeWork (key n : Nat) (s : State) : PipeWork s (policyApply key n s) := by
  unfold policyApply
  extract_lets new c bright
  exact .ite (.ite (State.modCell_pipeWork ..) (.refl s)) (State.modCell_pipeWork ..)

/-- A cell of pipe `i` begins its frame window, with its F (R219). -/
def cellOpened (n i k : Nat) (s : State) : State :=
  let f := (s.cell k).factor n
  let changed := decide (f ≠ (s.cell k).f)
  let t := s.modCell k fun c => { c.newWindow with f := f }
  if changed then t.modPipe i fun q => { q with dirty := true } else t

/-- The cells of the pipes that open a window begin it. -/
def cellsOpened (n : Nat) (holds : List Nat) (s : State) : State :=
  forEach (s.servingPipes.filter fun x => !holds.contains x.2) (fun x st => forEach (st.pipeCells x.2) (cellOpened n x.1) st) s

/-- What a latch point brings to the cells once Fennel's settings are taken (R219, R221). -/
def cellsLatched (n : Nat) (holds : List Nat) (s : State) : State :=
  if !s.resOn then
    if s.res.off then s
    else forEach (List.range 40) (fun i st => st.modPipe i fun q => { q with dirty := true }) { s with res := { s.res with off := true } }
  else cellsOpened n holds (forEach s.allCells (fun k st => policyApply k n st) { s with res := { s.res with off := false } })

theorem resLatch_eq (n : Nat) (holds : List Nat) (s : State) :
    ∃ r q, resLatch n holds s = cellsLatched n holds { s with res := r, bist := { s.bist with queue := q } } :=
  ⟨_, _, rfl⟩

theorem State.setRes_pipeWork (r : Res) (s : State) : PipeWork s { s with res := r } := rfl

theorem cellOpened_pipeWork (n i k : Nat) (s : State) : PipeWork s (cellOpened n i k s) :=
  .ite ((State.modCell_pipeWork ..).trans (State.modPipe_pipeWork ..)) (State.modCell_pipeWork ..)

theorem cellsOpened_pipeWork (n : Nat) (holds : List Nat) (s : State) : PipeWork s (cellsOpened n holds s) := by
  unfold cellsOpened
  refine .forEach (fun x t => ?_) _ s
  exact .forEach (cellOpened_pipeWork n x.1) _ t

theorem cellsLatched_pipeWork (n : Nat) (holds : List Nat) (s : State) : PipeWork s (cellsLatched n holds s) := by
  have hset : ∀ r, PipeWork s { s with res := r } := (State.setRes_pipeWork · s)
  refine .ite (.ite (.refl s) ((hset _).trans (.forEach (fun i t => State.modPipe_pipeWork i _ t) _ _))) ?_
  exact (hset _).trans ((PipeWork.forEach (fun k t => policyApply_pipeWork k n t) _ _).trans (cellsOpened_pipeWork ..))

theorem resLatch_pipeWork (n : Nat) (holds : List Nat) (s : State) : PipeWork s (resLatch n holds s) := by
  obtain ⟨r, q, h⟩ := resLatch_eq n holds s
  have hset : PipeWork s { s with res := r, bist := { s.bist with queue := q } } := rfl
  rw [h]
  exact hset.trans (cellsLatched_pipeWork ..)

/-! ### Sweeps (R316, R319 to R323) -/

theorem State.setAlert_openWork (a : Alert) (s : State) : OpenWork s { s with alert := a } := ⟨rfl, .of_jobs_eq rfl⟩

theorem yieldFrame_openWork (i : Nat) (s : State) : OpenWork s (yieldFrame i s) := by
  unfold yieldFrame
  refine .ite (.refl s) ?_
  extract_lets s₁
  have hleft : OpenWork s s₁ := .of_pipeWork ((missRest_pipeWork ..).trans (closeBlock_pipeWork ..))
  exact hleft.trans <| (State.modPipe_openWork i _ s₁).trans (State.setAlert_openWork _ _)

theorem memRequestAll_pipeWork (cls group who : Nat) (s : State) : PipeWork s (memRequestAll cls group who s) := by
  rw [memRequestAll_eq]
  rfl

theorem sendAlr_openWork (p hop : Nat) (body : List Nat) (s : State) : OpenWork s (sendAlr p hop body s) := State.modPort_openWork ..

theorem sweepChecks_pipeWork (i : Nat) (px : List Pix) (s : State) : PipeWork s (sweepChecks i px s) := by
  unfold sweepChecks
  extract_lets s₁
  have hpeak : PipeWork s s₁ := .ite ((State.modPipe_pipeWork ..).trans (detectNote_pipeWork ..)) (.refl s)
  exact .ite (hpeak.trans (emitRange_pixelWork s₁).work) hpeak

theorem sendSweep_openWork (i p : Nat) (ld : Load) (region : List Rect) (s : State) : OpenWork s (sendSweep i p ld region s) := by
  unfold sendSweep
  extract_lets t n l
  refine .forEach (fun x st => ?_) _ s
  exact (OpenWork.of_pipeWork (sweepChecks_pipeWork ..)).trans (sendAlr_openWork ..)

theorem alertSweepEnd_openWork (i : Nat) (s : State) : OpenWork s (alertSweepEnd i s) := by
  unfold alertSweepEnd
  split
  · refine .ite (.refl s) ?_
    extract_lets s₁
    have hsweep : OpenWork s s₁ := .of_pipeWork ((State.modPipe_pipeWork ..).trans (reclass_pixelWork (i := i) i _).work)
    exact hsweep.trans <| (State.setAlert_openWork _ s₁).trans <| (releaseLanes_openWork ..).trans (alertDone_openWork _)
  · exact .refl s

theorem alertBegin_openWork (i p : Nat) (region : List Rect) (s : State) : OpenWork s (alertBegin i p region s) := by
  unfold alertBegin
  extract_lets healthy s₁ s₂ alert s₃ s₄ s₅
  have hleft : OpenWork s s₁ := .ite (yieldFrame_openWork ..) (.of_pipeWork (closeBlock_pipeWork ..))
  have hsweep : OpenWork s s₃ := hleft.trans <| (State.modPipe_openWork i _ s₁).trans (State.setAlert_openWork _ s₂)
  have hfetch : OpenWork s s₄ := hsweep.trans <| (sweepLanes_openWork p s₃).trans <| .of_pipeWork <|
    (reclass_pixelWork (i := i) i _).work.trans ((memRequestAll_pipeWork ..).trans (memRequestAll_pipeWork ..))
  have hsent : OpenWork s s₅ := by
    show OpenWork s (match (s₄.pipe i).load with | some ld => sendSweep i p ld region s₄ | none => s₄)
    split
    · exact hfetch.trans (sendSweep_openWork ..)
    · exact hfetch
  exact .ite (hsent.trans (alertSweepEnd_openWork i s₅)) hsent

theorem loadPipe_pipeWork (i p : Nat) (s : State) : PipeWork s (loadPipe i p s) := by
  unfold loadPipe
  extract_lets ld s₁ tiles curves bad worn s₂
  have hload : PipeWork s s₁ := State.modPipe_pipeWork ..
  have hbad : PipeWork s s₂ := .ite (hload.trans (emitRange_pixelWork s₁).work) hload
  exact .ite (hbad.trans (ageRange_pixelWork s₂).work) hbad

theorem openPipe_openWork (i p n : Nat) (wasSkip applied : Bool) (s : State) : OpenWork s (openPipe i p n wasSkip applied s) := by
  unfold openPipe
  extract_lets s₀ first s₁ s₂ s₃ s₄ all
  have hmod : ∀ (g : Pipe → Pipe) (t : State), OpenWork t (t.modPipe i g) := fun g t => State.modPipe_openWork i g t
  have hnone : OpenWork s s₀ := hmod _ s
  have hframe : OpenWork s s₂ := (hmod _ s).trans (State.modCodec_openWork i _ s₁)
  have hload : OpenWork s s₃ := .ite (hframe.trans (.of_pipeWork (loadPipe_pipeWork i p s₂))) hframe
  have hopen : OpenWork s s₄ := hload.trans (hmod _ s₃)
  refine .ite (.ite (hnone.trans (State.modCodec_openWork ..)) hnone) (.ite (State.modCodec_openWork ..) (hopen.trans ?_))
  refine .ite ((hmod _ s₄).trans (yieldFrame_openWork ..)) ?_
  split
  · exact .ite ((hmod _ s₄).trans (alertBegin_openWork ..)) (hmod _ s₄)
  · exact .ite (hmod _ s₄) ((hmod _ s₄).trans (.of_pipeWork (memRequestAll_pipeWork ..)))

end Sys2Proof.Machine

namespace Sys2Proof.Machine

/-! ### A window opens (R104, R125) -/

/-- What R125 applies at the latch point that opens frame `n`: commits, binds and retires. -/
def latchApplied (n : Nat) (s : State) : State := retireCheck (n % 2 ^ 32) (applyBinds (n % 2 ^ 32) (applyCommits s).2)

/-- Frame `n` is the open frame; `f` is the frame of the last commit. -/
def State.frameOpened (n f : Nat) (s : State) : State := { s with scan := { s.scan with frame := n, latchFrame := f } }

/-- A window is open, whose frame has the content changes noted. -/
def State.windowOpened (changed : Bool) (s : State) : State :=
  { s with scan := { s.scan with windowOpen := true, changed := changed } }

/-- The first window since scan-out started has come. -/
def State.firstPassed (s : State) : State := { s with scan := { s.scan with firstWindow := false } }

theorem State.ageTaken_openWork (k : Nat) (s : State) : OpenWork s { s with age := { s.age with n := k } } := ⟨rfl, .of_jobs_eq rfl⟩

/-- Where no transition runs, all that opening a window does beside scan-out's own marks is the work of a latch point. -/
theorem openWindow_steps {s : State} (h : s.power.move = .none) : ∃ f c a b,
    OpenWork ((latchApplied (s.scan.frame + 1) s).frameOpened (s.scan.frame + 1) f) a ∧
      OpenWork (a.windowOpened c) b ∧ OpenWork b.firstPassed (openWindow s) := by
  unfold openWindow latchApplied
  have hcommits := applyCommits_eq s
  generalize applyCommits s = x at hcommits ⊢
  obtain ⟨committed, a₀⟩ := x
  dsimp -zeta only at hcommits ⊢
  extract_lets n due bound a₁ writing applied scan₂ a₂ a₃ a₄ a₅ age a₆ skipping a₇ holds a₈ scan₉ a₉ a₁₀ scan₁₁
  have hdirty : OpenWork a₂ a₃ := .ite (.forEach (fun i t => State.modPipe_openWork i _ t) _ a₂) (.refl a₂)
  have hfences : OpenWork a₂ a₄ := hdirty.trans (latchFences_openWork due a₃)
  have happlied : OpenWork a₀ a₁ := (applyBinds_openWork _ a₀).trans (retireCheck_openWork _ _)
  have hmove : a₄.power.move = .none := by
    have hbefore : a₀.power.move = .none := by rw [hcommits]; exact h
    exact hfences.work.move_eq.trans (happlied.work.move_eq.trans hbefore)
  have hstill : a₅ = a₄ := by
    show (match a₄.power.move with | .switch t => applySwitch t a₄ | _ => a₄) = a₄
    rw [hmove]
  have hswitch : OpenWork a₂ a₅ := by rw [hstill]; exact hfences
  have hcodecs : OpenWork a₂ a₆ := hswitch.trans ((State.ageTaken_openWork _ a₅).trans (codecLatch_openWork _))
  have hports : OpenWork a₂ a₇ := hcodecs.trans (.forEach (fun p t => (skipLatch_openWork ..).trans (governorLatch_openWork ..)) _ a₆)
  have hcells : OpenWork a₂ a₈ := hports.trans (.of_pipeWork (resLatch_pipeWork n holds a₇))
  have hpipes : OpenWork a₉ a₁₀ := by
    refine .forEach (fun x t => ?_) _ a₉
    exact openPipe_openWork ..
  exact ⟨_, applied, a₈, a₁₀, hcells, hpipes, alertDone_openWork _⟩

theorem latchApplied_frame (n : Nat) (s : State) : OpenWork (applyCommits s).2 (latchApplied n s) :=
  (applyBinds_openWork ..).trans (retireCheck_openWork ..)

/-- None of the started binds waits (R125). -/
theorem latchApplied_none (n : Nat) (s : State) : ∀ x ∈ (latchApplied n s).jobs, x.stage ≠ .binding :=
  fun x hx hb => applyBinds_none _ _ x ((retireCheck_openWork ..).binds x hx hb) hb

/-- What stands after a window has opened while no transition runs (R104, R125). -/
theorem openWindow_opens {s : State} (h : s.power.move = .none) : ∃ f c,
    (openWindow s).scan =
      { s.scan with commitScan := false, commitLayer := false, commitRes := false, frame := s.scan.frame + 1, latchFrame := f
                    windowOpen := true, changed := c, firstWindow := false } ∧
    (openWindow s).work = (applyCommits s).2.work ∧ (∀ j ∈ (openWindow s).jobs, j.stage ≠ .binding) ∧
    (openWindow s).power.move = .none ∧ (openWindow s).power.state = s.power.state ∧
    (openWindow s).emitter = s.emitter ∧ (openWindow s).glob = s.glob ∧ (openWindow s).time = s.time ∧ (openWindow s).nvs = s.nvs := by
  obtain ⟨f, c, a, b, ha, hb, ht⟩ := openWindow_steps h
  have happlied := latchApplied_frame (s.scan.frame + 1) s
  have hnone := latchApplied_none (s.scan.frame + 1) s
  have hcommits := applyCommits_eq s
  generalize latchApplied (s.scan.frame + 1) s = d at ha happlied hnone
  generalize openWindow s = t at ht ⊢
  generalize (applyCommits s).2 = e at happlied hcommits ⊢
  obtain ⟨hawork, habinds⟩ := ha
  obtain ⟨hbwork, hbbinds⟩ := hb
  obtain ⟨htwork, htbinds⟩ := ht
  have hbinds : BindsFrom d t := (BindsFrom.trans (s := d) habinds hbbinds).trans htbinds
  have hrest : LatchWork { e with scan := t.scan } t := by
    have hdwork := happlied.work
    unfold LatchWork State.firstPassed State.windowOpened State.frameOpened at *
    rw [htwork, hbwork, hawork, hdwork]
  have hopened : d.scan = { e.scan with changed := d.scan.changed } := happlied.work.scan_eq
  have hscan : t.scan = { e.scan with
      frame := s.scan.frame + 1, latchFrame := f, windowOpen := true, changed := t.scan.changed, firstWindow := false } := by
    rw [htwork.scan_eq, State.firstPassed, hbwork.scan_eq, State.windowOpened, hawork.scan_eq, State.frameOpened, hopened]
  rw [hcommits] at hrest
  refine ⟨f, t.scan.changed, ?_, ?_, fun j hj hb => hnone j (hbinds j hj hb) hb, hrest.move_eq.trans h, hrest.power_state_eq,
    hrest.emitter_eq, hrest.glob_eq, hrest.time_eq, hrest.nvs_eq⟩
  · rw [hscan, hcommits]
  · rw [hrest.work_eq]

end Sys2Proof.Machine

namespace Sys2Proof.Machine

/-! ### Frame starts and latch points (R104, R112, R113, R125, R289) -/

variable {dt : Nat} {s u : State}

/-- The latch point of scan-out that runs on closes the window and opens the next (R104, R125). -/
theorem exec_latchPoint_opens (hu : u = advance dt s) (hnext : u.scan.next = .latch) (hstate : u.scan.state = .running)
    (hhand : u.scan.handover = false) (hmove : u.power.move = .none) :
    exec (.latchPoint dt) s = .next (openWindow (latchClosed u)) := by
  have hwork := latchClosed_closeWork u
  unfold CloseWork at hwork
  have hbefore : (latchClosed u).power.move = .none := by
    generalize latchClosed u = a at hwork
    rw [hwork]
    exact hmove
  obtain ⟨f, c, -, -, -, hnone, -⟩ := openWindow_opens hbefore
  exact congrArg Host.Outcome.next ((congrArg powerGo (latchPoint_running hu hnext hstate hhand)).trans (powerGo_none _ hnone))

/-- What the latch point of scan-out that runs on leaves (R104, R125). -/
theorem latchClosed_opens (hstate : u.scan.state = .running) (hmove : u.power.move = .none) {t : State}
    (ht : t = openWindow (latchClosed u)) :
    t.scan.next = .frameStart ∧ t.scan.state = .running ∧ t.scan.windowOpen = true ∧ t.scan.frame = u.scan.frame + 1 ∧
      (u.scan.windowOpen = true → t.scan.show_ = u.scan.frame % 2 ^ 32) ∧
      t.scan.commitScan = false ∧ t.scan.commitLayer = false ∧ t.scan.commitRes = false ∧
      (∀ g, ∀ r ∈ groupRegs g, t.wk r = if u.committed g then u.rd r else u.wk r) ∧
      (∀ j ∈ t.jobs, j.stage ≠ .binding) ∧ t.emitter.pending = false ∧ t.glob = u.glob ∧ t.time = u.time ∧
      t.power.state = u.power.state ∧ t.nvs = u.nvs := by
  have hwork := latchClosed_closeWork u
  have hshow := @latchClosed_show u
  obtain ⟨-, hnext, hpending⟩ := latchClosed_marks u
  generalize latchClosed u = a at ht hwork hshow hnext hpending
  unfold CloseWork at hwork
  have hbefore : a.power.move = .none := by rw [hwork]; exact hmove
  have hwk : ∀ g, ∀ r ∈ groupRegs g, (applyCommits a).2.wk r = if u.committed g then u.rd r else u.wk r := fun g r hr => by
    have hcommitted : a.committed g = u.committed g := by rw [hwork]; cases g <;> rfl
    have hrd : a.rd r = u.rd r := by rw [hwork]; rfl
    have hkept : a.wk r = u.wk r := by rw [hwork]; rfl
    rw [applyCommits_wk hr, hcommitted, hrd, hkept]
  obtain ⟨f, c, hscan, htw, hnone, -, hpower, hemit, hglob, htime, hnvs⟩ := openWindow_opens hbefore
  generalize applyCommits a = e at hwk htw
  rw [← ht] at hscan htw hnone hpower hemit hglob htime hnvs
  refine ⟨?_, ?_, ?_, ?_, fun hopen => ?_, ?_, ?_, ?_, fun g r hr => ?_, hnone, ?_, ?_, ?_, ?_, ?_⟩
  · rw [hscan]; exact hnext
  · rw [hscan, hwork]; exact hstate
  · rw [hscan]
  · rw [hscan, hwork]
  · rw [hscan]; exact hshow hopen
  · rw [hscan]
  · rw [hscan]
  · rw [hscan]
  · have hsame : t.wk r = e.2.wk r := by rw [State.wk, htw]; rfl
    rw [hsame, hwk g r hr]
  · rw [hemit, hpending]
  · rw [hglob, hwork]
  · rw [htime, hwork]
  · rw [hpower, hwork]
  · rw [hnvs, hwork]

/-- What the latch point of a stop leaves (R112). -/
theorem latchClosed_stops (hstate : u.scan.state = .stopping) {t : State} (ht : t = (latchClosed u).lastClosed) :
    t.scan.next = .frameStart ∧ t.scan.state = .stopping ∧ t.scan.closed = true ∧ t.scan.windowOpen = false ∧
      t.scan.frame = u.scan.frame ∧ t.work = u.work ∧ t.layers = u.layers := by
  have hwork := latchClosed_closeWork u
  obtain ⟨hopen, hnext, -⟩ := latchClosed_marks u
  generalize latchClosed u = a at ht hwork hopen hnext
  unfold CloseWork at hwork
  rw [ht]
  refine ⟨hnext, ?_, rfl, hopen, ?_, ?_, ?_⟩
  · rw [hwork]; exact hstate
  · rw [hwork]; rfl
  · rw [hwork]; rfl
  · rw [hwork]; rfl

/-- The port's share of a frame start while a window is to come: one SYN, where the port is UP and sends (R289). -/
theorem synced_marked_sends (hclosed : u.scan.closed = false) {p : Nat} (hp : p < 32) (hup : (u.port p).state = 2)
    (hsends : (u.port p).sends = true) :
    (u.synced.marked.port p).txSyn = (u.port p).txSyn ++ [packetBytes 1 0 (leBytes 4 u.scan.show_ ++
      [2 * b2n (u.codec (u.pipeOf p)).skipSyn + 4 * b2n (decide (0 < u.faultg.resumeFrames)), 0, 0, 0] ++ leBytes 4 u.framePeriod)] := by
  have hport : u.synced.marked.port p = u.synced.port p := rfl
  have hflags : ∀ resume, u.synFlags p false resume = 2 * b2n (u.codec (u.pipeOf p)).skipSyn + 4 * b2n resume :=
    fun resume => congrArg (· + 4 * b2n resume) (Nat.zero_add _)
  rw [hport, State.synced_port, if_pos ⟨hp, hup⟩, hclosed, synSent, hsends]
  simp only [Bool.false_and, if_true, hflags]

/-- A port that is not UP or does not send has nothing of a frame start. -/
theorem synced_marked_silent {p : Nat} (h : ¬(p < 32 ∧ (u.port p).state = 2 ∧ (u.port p).sends = true)) :
    u.synced.marked.port p = u.port p := by
  have hport : u.synced.marked.port p = u.synced.port p := rfl
  rw [hport, State.synced_port]
  split
  · next hup => exact if_neg fun hsends => h ⟨hup.1, hup.2, hsends⟩
  · rfl

/-- Settles O39: SYNs go to ports one by one and change nothing else; what a latch point does before it opens a window leaves every
register and working value, the commits then give each group its shadows or leave it, the binds all complete, and the rest of the
window's opening starts no bind and changes neither working values nor scan-out's own marks. -/
theorem frameStartsAndLatchPoints : Obligations.FrameStartsAndLatchPoints := by
  unfold Obligations.FrameStartsAndLatchPoints
  refine ⟨?begins, ?opens, ?stopping, ?ends⟩
  case begins =>
    intro dt s u hu hnext hstate hclosed hmove
    have hframe := u.synced_marked_frame
    have hmarked : u.synced.marked.scan = u.marked.scan := by rw [hframe]
    refine ⟨_, exec_frameStart_begins hu hnext hstate hclosed hmove, ?_, ?_, ?_, ?_, ?_,
      fun p hp hup hsends => synced_marked_sends hclosed hp hup hsends, fun p h => synced_marked_silent h, ?_, ?_⟩
    · rw [hmarked]; rfl
    · rw [hmarked]; rfl
    · rw [hmarked]; rfl
    · rw [hmarked]; exact hstate
    · rw [hmarked]; rfl
    · rw [hframe]; rfl
    · rw [hframe]
  case opens =>
    intro dt s u hu hnext hstate hhand hmove
    obtain ⟨knext, kstate, kopen, kframe, kshow, kscan, klayer, kres, kwk, kbinds, kpending, kglob, ktime, kpower, knvs⟩ :=
      latchClosed_opens hstate hmove rfl
    refine ⟨_, exec_latchPoint_opens hu hnext hstate hhand hmove, knext, kstate, kopen, kframe, kshow, kscan, klayer, kres,
      fun g hg r hr => ?_, fun g hg r hr => ?_, kbinds, kpending, kglob, ktime, kpower, congrArg Nvs.pages knvs⟩
    · rw [kwk g r hr, hg, if_pos rfl]
    · rw [kwk g r hr, hg, if_neg nofun]
  case stopping =>
    intro dt s u hu hnext hstate hmove
    exact ⟨_, exec_latchPoint_stopping hu hnext hstate hmove, latchClosed_stops hstate rfl⟩
  case ends =>
    intro dt s u hu hnext hclosed hmove
    have hframe := u.synced_marked_frame
    have hmarked : u.synced.marked.scan = u.marked.scan := by rw [hframe]
    constructor
    case left =>
      intro hstate
      have hbefore : u.synced.marked.power.move = .none := by rw [hframe]; exact hmove
      obtain ⟨kstate, kclosed, kopen, kframe, -⟩ := scanStopped_ends hbefore
      refine ⟨_, exec_frameStart_stops hu hnext hstate hclosed hmove, kstate, kclosed, kopen, ?_, ?_⟩
      · rw [kframe, hmarked]
        rfl
      · rw [scanStopped_mem, hframe]
    case right =>
      intro hstate
      refine ⟨_, exec_frameStart_hands hu hnext hstate hclosed hmove, rfl, rfl, ?_, ?_⟩
      · show u.synced.marked.scan.frame = u.scan.frame
        rw [hmarked]
        rfl
      · rw [State.handedOver, hframe]

end Sys2Proof.Machine

/-! ## Values within the usable capacity, and the end of an AGE clear (O43) -/

namespace Sys2Proof.Machine

/-! ### Reads and writes within the usable capacity (R147, R175) -/

theorem Mem.lez_eq_le (m : List Host.Cell) (cap n : Nat) : ∀ a, a + n ≤ cap → Mem.lez m cap a n = Mem.le m a n := by
  induction n with
  | zero => exact fun _ _ => rfl
  | succ n ih =>
    intro a h
    rw [Mem.lez, Mem.le, if_pos (by omega), ih (a + 1) (by omega)]

/-- Bytes that are all 0 spell 0. -/
theorem Mem.lez_eq_zero (m : List Host.Cell) (cap n : Nat) : ∀ a, (∀ k < n, Mem.byte m (a + k) = 0) → Mem.lez m cap a n = 0 := by
  induction n with
  | zero => exact fun _ _ => rfl
  | succ n ih =>
    intro a h
    have hrest : Mem.lez m cap (a + 1) n = 0 := ih (a + 1) fun k hk => by
      rw [Nat.add_assoc, Nat.add_comm 1]
      exact h (k + 1) (by omega)
    have hbyte : Mem.byte m a = 0 := h 0 (Nat.succ_pos n)
    rw [Mem.lez, hrest, hbyte, ite_self]

theorem Mem.lez_lt (m : List Host.Cell) (cap n : Nat) : ∀ a, Mem.lez m cap a n < 256 ^ n := by
  induction n with
  | zero => exact fun _ => Nat.one_pos
  | succ n ih =>
    intro a
    have hbyte : Mem.byte m a < 256 := (Tab.get (0#8) a m).isLt
    have hrest := ih (a + 1)
    rw [Mem.lez, Nat.pow_succ]
    split <;> omega

theorem leBytes_length (n : Nat) : ∀ v, (leBytes n v).length = n := by
  induction n with
  | zero => exact fun _ => rfl
  | succ n ih => exact fun v => congrArg (· + 1) (ih (v / 256))

theorem leBytes_zero (n : Nat) : leBytes n 0 = List.replicate n 0 := by
  induction n with
  | zero => rfl
  | succ n ih => rw [leBytes, Nat.zero_div, ih, List.replicate_succ]

/-- `t` differs from `s` at most in device memory. -/
def MemOnly (s t : State) : Prop := t = { s with mem := t.mem }

theorem MemOnly.refl (s : State) : MemOnly s s := rfl

theorem MemOnly.trans {s t u : State} (h : MemOnly s t) (k : MemOnly t u) : MemOnly s u := by
  unfold MemOnly at *
  rw [k, h]

theorem MemOnly.ite {s t u : State} {c : Prop} [Decidable c] (h : MemOnly s t) (k : MemOnly s u) :
    MemOnly s (if c then t else u) := by
  split <;> assumption

theorem MemOnly.forEach {α : Type} {f : α → State → State} (hf : ∀ a t, MemOnly t (f a t)) (l : List α) (s : State) :
    MemOnly s (forEach l f s) :=
  forEach_keeps (MemOnly s) l f (fun a t ht => ht.trans (hf a t)) s (.refl s)

theorem MemOnly.capacity_eq {s t : State} (h : MemOnly s t) : t.capacity = s.capacity := by rw [h]; rfl

theorem MemOnly.card_eq {s t : State} (h : MemOnly s t) : t.card = s.card := by rw [h]; rfl

theorem putIn_memOnly (a n v : Nat) (s : State) : MemOnly s (putIn a n v s) := .ite rfl (.refl s)

theorem putIn_inside {a n : Nat} {s : State} (h : a + n ≤ s.capacity) (v : Nat) : putIn a n v s = s.putLe a n v := if_pos h

theorem putIn_byte_out {a b n : Nat} (h : b < a ∨ a + n ≤ b) (v : Nat) (s : State) : (putIn a n v s).byte b = s.byte b := by
  unfold putIn
  split
  · exact Mem.byte_puts_out _ _ _ _ (by rwa [leBytes_length])
  · rfl

theorem putIn_lez_same {a n : Nat} {s : State} (h : a + n ≤ s.capacity) (v : Nat) : (putIn a n v s).lez a n = v % 256 ^ n := by
  rw [putIn_inside h]
  exact (Mem.lez_eq_le _ _ n a h).trans (Mem.le_puts_same n a v s.mem)

theorem putIn_lez_out {a b m n : Nat} {s : State} (hb : b + m ≤ s.capacity) (h : b + m ≤ a ∨ a + n ≤ b) (v : Nat) :
    (putIn a n v s).lez b m = s.lez b m := by
  unfold putIn
  split
  · have hle : (s.putLe a n v).lez b m = Mem.le (Mem.puts a (leBytes n v) s.mem) b m := Mem.lez_eq_le _ _ m b hb
    rw [hle, Mem.le_puts_out _ _ _ _ _ (by rwa [leBytes_length])]
    exact (Mem.lez_eq_le _ _ m b hb).symm
  · rfl

/-- A 0 that lies within the usable capacity is 0 in every byte. -/
theorem putIn_zero_byte {a n k : Nat} {s : State} (h : a + n ≤ s.capacity) (hk : k < n) : (putIn a n 0 s).byte (a + k) = 0 := by
  rw [putIn_inside h, State.putLe, leBytes_zero]
  have hlen : k < (List.replicate n 0).length := by rwa [List.length_replicate]
  exact (Mem.byte_puts_in _ a k s.mem hlen).trans (by rw [List.getElem_replicate])

/-! ### What clearing changes (R152, R164) -/

/-- `t` differs from `s` at most in device memory and the copies of the Cardamom records, and what differs there has become 0. -/
structure ClearWork (s t : State) : Prop where
  frame : t = { s with mem := t.mem, age := { s.age with cards := t.age.cards } }
  bytes : ∀ b, t.byte b = s.byte b ∨ t.byte b = 0
  cards : ∀ i, t.card i = s.card i ∨ t.card i = 0

theorem ClearWork.refl (s : State) : ClearWork s s := ⟨rfl, fun _ => .inl rfl, fun _ => .inl rfl⟩

theorem ClearWork.trans {s t u : State} (h : ClearWork s t) (k : ClearWork t u) : ClearWork s u where
  frame := by rw [k.frame, h.frame]
  bytes b := (k.bytes b).elim (fun e => e ▸ h.bytes b) .inr
  cards i := (k.cards i).elim (fun e => e ▸ h.cards i) .inr

theorem ClearWork.forEach {α : Type} {f : α → State → State} (hf : ∀ a t, ClearWork t (f a t)) (l : List α) (s : State) :
    ClearWork s (forEach l f s) :=
  forEach_keeps (ClearWork s) l f (fun a t ht => ht.trans (hf a t)) s (.refl s)

theorem ClearWork.byte_zero {s t : State} (h : ClearWork s t) {b : Nat} (hb : s.byte b = 0) : t.byte b = 0 :=
  (h.bytes b).elim (·.trans hb) id

theorem ClearWork.card_zero {s t : State} (h : ClearWork s t) {i : Nat} (hi : s.card i = 0) : t.card i = 0 :=
  (h.cards i).elim (·.trans hi) id

theorem putIn_zero_clearWork (a n : Nat) (s : State) : ClearWork s (putIn a n 0 s) := by
  have honly := putIn_memOnly a n 0 s
  refine ⟨by rw [honly], fun b => ?_, fun i => .inl (by rw [honly]; rfl)⟩
  by_cases hout : b < a ∨ a + n ≤ b
  · exact .inl (putIn_byte_out hout 0 s)
  · by_cases hin : a + n ≤ s.capacity
    · have hk := putIn_zero_byte (k := b - a) hin (by omega)
      rw [show a + (b - a) = b by omega] at hk
      exact .inr hk
    · exact .inl (by rw [putIn, if_neg hin])

theorem State.setCards_clearWork {s : State} {c : Tab Nat} (h : ∀ k, Tab.get 0 k c = s.card k ∨ Tab.get 0 k c = 0) :
    ClearWork s { s with age := { s.age with cards := c } } :=
  ⟨rfl, fun _ => .inl rfl, h⟩

theorem setCard_zero_clearWork (i : Nat) (s : State) : ClearWork s (setCard i 0 s) := by
  have hput := putIn_zero_clearWork (s.geom.tileBase + 32 * i + 16) 8 s
  have hkept : (putIn (s.geom.tileBase + 32 * i + 16) 8 0 s).card = s.card :=
    (putIn_memOnly ..).card_eq
  rw [setCard_eq]
  generalize putIn (s.geom.tileBase + 32 * i + 16) 8 0 s = t at hput hkept ⊢
  refine hput.trans (State.setCards_clearWork fun k => ?_)
  rw [hkept]
  by_cases hk : k = i
  · exact .inr (hk ▸ Tab.get_put_same ..)
  · exact .inl (Tab.get_put_ne _ _ _ _ _ _ hk)

theorem zeroCounters_clearWork (i : Nat) (cs : List Nat) (s : State) : ClearWork s (zeroCounters i cs s) :=
  .forEach (fun _ _ => .forEach (fun _ _ => .forEach (fun _ _ => putIn_zero_clearWork ..) _ _) _ _) _ s

/-! ### What a clear leaves of a tile (R150, R152) -/

/-- Counter c of the pixel at (x, y) is 0 in every byte, where it lies within the usable capacity. -/
def State.CounterZero (t : State) (x y c : Nat) : Prop :=
  t.stressAddr x y c + 4 ≤ t.capacity → ∀ k < 4, t.byte (t.stressAddr x y c + k) = 0

theorem State.CounterZero.lez {t : State} {x y c : Nat} (h : t.CounterZero x y c) (hin : t.stressAddr x y c + 4 ≤ t.capacity) :
    t.lez (t.stressAddr x y c) 4 = 0 :=
  Mem.lez_eq_zero _ _ _ _ (h hin)

theorem ClearWork.stressAddr_eq {s t : State} (h : ClearWork s t) : t.stressAddr = s.stressAddr := by rw [h.frame]; rfl

theorem ClearWork.capacity_eq {s t : State} (h : ClearWork s t) : t.capacity = s.capacity := by rw [h.frame]; rfl

theorem ClearWork.rectOf_eq {s t : State} (h : ClearWork s t) : t.rectOf = s.rectOf := by rw [h.frame]; rfl

theorem ClearWork.counterZero {s t : State} (h : ClearWork s t) {x y c : Nat} (hz : s.CounterZero x y c) : t.CounterZero x y c := by
  unfold State.CounterZero at *
  rw [h.stressAddr_eq, h.capacity_eq]
  exact fun hin k hk => h.byte_zero (hz hin k hk)

/-- Every counter of the listed colours of tile i is 0. -/
theorem zeroCounters_counterZero (i : Nat) (cs : List Nat) (s : State) {u v c : Nat} (hu : u < (s.rectOf i).w)
    (hv : v < (s.rectOf i).h) (hc : c ∈ cs) :
    (zeroCounters i cs s).CounterZero ((s.rectOf i).x + u) ((s.rectOf i).y + v) c := by
  have hone : ∀ x y c (t : State), (putIn (t.stressAddr x y c) 4 0 t).CounterZero x y c := fun x y c t hin k hk => by
    have hwork := putIn_zero_clearWork (t.stressAddr x y c) 4 t
    rw [hwork.stressAddr_eq, hwork.capacity_eq] at hin
    rw [hwork.stressAddr_eq]
    exact putIn_zero_byte hin hk
  refine forEach_reaches (fun v (t : State) => ∀ u < (s.rectOf i).w, ∀ c ∈ cs,
    t.CounterZero ((s.rectOf i).x + u) ((s.rectOf i).y + v) c) _ _ (fun v t u hu => ?row) (fun v w t ht u hu c hc => ?rowKept) s v
    (List.mem_range.mpr hv) u hu c hc
  case rowKept =>
    exact (ClearWork.forEach (fun _ _ => .forEach (fun _ _ => putIn_zero_clearWork ..) _ _) _ t).counterZero (ht u hu c hc)
  case row =>
    refine forEach_reaches (fun u (t : State) => ∀ c ∈ cs, t.CounterZero ((s.rectOf i).x + u) ((s.rectOf i).y + v) c) _ _
      (fun u t => ?pixel) (fun u w t ht c hc => ?pixelKept) t u (List.mem_range.mpr hu)
    case pixelKept => exact (ClearWork.forEach (fun _ _ => putIn_zero_clearWork ..) _ t).counterZero (ht c hc)
    case pixel =>
      exact forEach_reaches (fun c (t : State) => t.CounterZero ((s.rectOf i).x + u) ((s.rectOf i).y + v) c) _ _
        (fun c t => hone _ _ c t) (fun _ _ t ht => (putIn_zero_clearWork ..).counterZero ht) t

/-- Tile i's record and its counters are 0. -/
def State.TileZero (t : State) (i : Nat) : Prop :=
  t.card i = 0 ∧ ∀ u v c, u < (t.rectOf i).w → v < (t.rectOf i).h → c < 3 →
    t.CounterZero ((t.rectOf i).x + u) ((t.rectOf i).y + v) c

theorem ClearWork.tileZero {s t : State} (h : ClearWork s t) {i : Nat} (hz : s.TileZero i) : t.TileZero i := by
  unfold State.TileZero at *
  rw [h.rectOf_eq]
  exact ⟨h.card_zero hz.1, fun u v c hu hv hc => h.counterZero (hz.2 u v c hu hv hc)⟩

/-- A tile's part of a clear (R152). -/
def tileCleared (i : Nat) (s : State) : State := setCard i 0 (zeroCounters i [0, 1, 2] s)

theorem tileCleared_clearWork (i : Nat) (s : State) : ClearWork s (tileCleared i s) :=
  (zeroCounters_clearWork ..).trans (setCard_zero_clearWork ..)

theorem tileCleared_tileZero (i : Nat) (s : State) : (tileCleared i s).TileZero i := by
  have hcounters := zeroCounters_clearWork i [0, 1, 2] s
  refine ⟨Tab.get_put_same .., fun u v c hu hv hc => ?_⟩
  rw [(tileCleared_clearWork i s).rectOf_eq] at hu hv ⊢
  exact (setCard_zero_clearWork ..).counterZero (zeroCounters_counterZero i _ s hu hv (by simp; omega))

theorem ageClearEnd_clearing {s : State} (h : s.age.clearing = true) : ageClearEnd s =
    { forEach s.allTiles tileCleared s with age := { (forEach s.allTiles tileCleared s).age with
      clearing := false, mapReady := true, a0 := [] } } := by
  unfold ageClearEnd
  rw [h]
  rfl

/-- Settles O43: each tile's clear brings its record and counters to 0, and no other tile's clear writes anything but 0. -/
theorem ageClearEndZeroes : Obligations.AgeClearEndZeroes := by
  intro s hclearing
  have hwork : ClearWork s (forEach s.allTiles tileCleared s) := .forEach tileCleared_clearWork _ s
  have hzero : ∀ i ∈ s.allTiles, (forEach s.allTiles tileCleared s).TileZero i :=
    forEach_reaches (fun i t => t.TileZero i) _ _ tileCleared_tileZero (fun i _ _ ht => (tileCleared_clearWork i _).tileZero ht) s
  have hmem : s.MemOk → (ageClearEnd s).MemOk := ageClearEnd_wf
  rw [ageClearEnd_clearing hclearing] at hmem
  refine ⟨_, congrArg Host.Outcome.next (ageClearEnd_clearing hclearing), rfl, rfl, rfl, fun i hi => ?_, hwork.bytes, hmem, ?_⟩
  · obtain ⟨hcard, hcounters⟩ := hzero i hi
    refine ⟨hcard, fun u v c hu hv hc hin => ?_⟩
    rw [hwork.rectOf_eq] at hcounters
    have hlez := (hcounters u v c hu hv hc).lez
    rw [hwork.stressAddr_eq, hwork.capacity_eq] at hlez
    exact hlez hin
  · rw [hwork.frame]

end Sys2Proof.Machine

/-! ## Knot passes, knot steps and the Hold accrual pass (O44) -/

namespace Sys2Proof.Machine

/-! ### What knot work changes (R31, R160 to R162) -/

/-- `t` differs from `s` at most in reports, device memory and the requests for it. -/
def KnotWork (s t : State) : Prop := Reports { s with mem := t.mem, memc := t.memc } t

theorem KnotWork.refl (s : State) : KnotWork s s := rfl

theorem KnotWork.trans {s t u : State} (h : KnotWork s t) (k : KnotWork t u) : KnotWork s u := by
  unfold KnotWork Reports at *
  rw [k, h]

theorem KnotWork.of_reports {s t : State} (h : Reports s t) : KnotWork s t := by
  unfold Reports at h
  unfold KnotWork Reports
  rw [h]

theorem KnotWork.of_memOnly {s t : State} (h : MemOnly s t) : KnotWork s t := by
  unfold MemOnly at h
  unfold KnotWork Reports
  rw [h]

theorem KnotWork.regs_eq {s t : State} (h : KnotWork s t) : t.regs = s.regs := by rw [h]
theorem KnotWork.age_eq {s t : State} (h : KnotWork s t) : t.age = s.age := by rw [h]
theorem KnotWork.scan_eq {s t : State} (h : KnotWork s t) : t.scan = s.scan := by rw [h]

/-- Knot work and a change of the AGE block. -/
theorem KnotWork.withAge {s t : State} (h : KnotWork s t) (a : Age) :
    Reports { s with mem := t.mem, memc := t.memc, age := a } { t with age := a } := by
  unfold KnotWork Reports at h
  unfold Reports
  rw [h]

theorem memRequestAll_knotWork (cls group who : Nat) (s : State) : KnotWork s (memRequestAll cls group who s) := by
  rw [memRequestAll_eq]
  rfl

/-- Requests only join those that wait. -/
theorem memRequestAll_waiting (cls group who : Nat) (s : State) : memRequestAll cls group who s =
    { s with memc := { s.memc with waiting := (memRequestAll cls group who s).memc.waiting } } :=
  forEach_keeps (fun t : State => t = { s with memc := { s.memc with waiting := t.memc.waiting } }) _ _
    (fun i t ht => by rw [ht]; rfl) _ rfl

theorem memRequestAll_capacity (cls group who : Nat) (s : State) : (memRequestAll cls group who s).capacity = s.capacity := by
  have hwaiting := memRequestAll_waiting cls group who s
  generalize memRequestAll cls group who s = t at hwaiting ⊢
  rw [hwaiting]
  rfl

theorem detectNote_if_reports (c : Prop) [Decidable c] (u k : Nat) (s : State) : Reports s (if c then detectNote u k s else s) := by
  split
  · exact detectNote_reports ..
  · exact .refl s

/-! ### The targets of a pass (R160) -/

theorem knotColour_memOnly (seed : Bool) (i c : Nat) (s : State) : MemOnly s (knotColour seed i c s) := by
  refine .forEach (fun k t => ?_) _ s
  extract_lets m g t₁
  have hput : MemOnly t t₁ := putIn_memOnly ..
  exact .ite (hput.trans (putIn_memOnly ..)) hput

theorem knotColour_byte_out {i c b : Nat} {s : State}
    (h : ∀ k ∈ s.knots i, b < targetAddr s i c k.1 k.2 ∨ targetAddr s i c k.1 k.2 + 2 ≤ b) :
    (knotColour false i c s).byte b = s.byte b := by
  refine forEach_keeps_mem (fun t : State => t.byte b = s.byte b) _ _ (fun k hk t ht => ?_) s rfl
  extract_lets m g t₁
  rw [if_neg Bool.false_ne_true]
  exact (putIn_byte_out (h k hk) g t).trans ht

/-- The targets of the listed tiles, of the colours that do not fade (R160). -/
def knotsTargeted (seed : Bool) (tiles : List Nat) (s : State) : State :=
  forEach tiles (fun i st =>
    forEach ((List.range 3).filter fun c => cardState (st.card i) c != 1) (fun c st => knotColour seed i c st) st) s

theorem knotsTargeted_memOnly (seed : Bool) (tiles : List Nat) (s : State) : MemOnly s (knotsTargeted seed tiles s) :=
  .forEach (fun _ _ => .forEach (fun _ _ => knotColour_memOnly ..) _ _) _ s

theorem MemOnly.targetAddr_eq {s t : State} (h : MemOnly s t) : targetAddr t = targetAddr s := by rw [h]; rfl
theorem MemOnly.knots_eq {s t : State} (h : MemOnly s t) : t.knots = s.knots := by rw [h]; rfl

theorem knotsTargeted_byte_out {tiles : List Nat} {b : Nat} {s : State}
    (h : ∀ i ∈ tiles, ∀ c, c < 3 → ∀ k ∈ s.knots i, b < targetAddr s i c k.1 k.2 ∨ targetAddr s i c k.1 k.2 + 2 ≤ b) :
    (knotsTargeted false tiles s).byte b = s.byte b := by
  have hcolour : ∀ i ∈ tiles, ∀ c < 3, ∀ t, MemOnly s t ∧ t.byte b = s.byte b →
      MemOnly s (knotColour false i c t) ∧ (knotColour false i c t).byte b = s.byte b := fun i hi c hc t ht => by
    refine ⟨ht.1.trans (knotColour_memOnly ..), (knotColour_byte_out ?_).trans ht.2⟩
    rw [ht.1.targetAddr_eq, ht.1.knots_eq]
    exact h i hi c hc
  refine (forEach_keeps_mem (fun t => MemOnly s t ∧ t.byte b = s.byte b) _ _ (fun i hi t ht => ?_) s ⟨.refl s, rfl⟩).2
  exact forEach_keeps_mem _ _ _ (fun c hc => hcolour i hi c (List.mem_range.mp (List.mem_filter.mp hc).1)) t ht

/-! ### A pass while Cardamom is off (R160, R163, R167) -/

theorem cardamom_off {s : State} (h : s.b .ageCtl 2 = false) (i : Nat) : cardamom i s = s := by simp [cardamom, h]

theorem retryUnlogged_nil {s : State} (h : s.age.unlogged = []) : retryUnlogged s = s := by
  have hsame : { s with age := { s.age with unlogged := [] } } = s := by rw [← h]
  rw [retryUnlogged, h, forEach_nil, hsame]

/-- With Cardamom off and no engagement to log, a pass asks for memory, writes targets and may report (R160, R175). -/
theorem knotChain_off {s : State} (hoff : s.b .ageCtl 2 = false) (hlog : s.age.unlogged = []) (seed : Bool) (p : Nat) :
    ∃ m, Reports (knotsTargeted seed (s.fedTiles p) { s with memc := m }) (knotChain seed p s) := by
  unfold knotChain
  extract_lets tiles e asked passed noted
  have hasked : asked = { s with memc := asked.memc } :=
    (memRequestAll_eq ..).trans (congrArg (fun u : State => { u with memc := asked.memc }) (memRequestAll_eq ..))
  have hpassed : passed = knotsTargeted seed tiles { s with memc := asked.memc } := congrArg (knotsTargeted seed tiles) hasked
  have hreports : Reports passed noted := detectNote_if_reports ..
  have honly : MemOnly { s with memc := asked.memc } passed := hpassed ▸ knotsTargeted_memOnly ..
  have hidle : forEach tiles cardamom (retryUnlogged noted) = noted := by
    have hretry : retryUnlogged noted = noted := retryUnlogged_nil (by rw [hreports.age_eq, honly]; exact hlog)
    have hnone : noted.b .ageCtl 2 = false := by rw [State.b, State.rd, hreports.regs_eq, honly]; exact hoff
    rw [hretry]
    exact forEach_keeps (fun t => t = noted) _ _ (fun i t ht => ht ▸ cardamom_off hnone i) noted rfl
  exact ⟨asked.memc, by rw [hidle, ← hpassed]; exact hreports⟩

theorem knotChain_knotWork {s : State} (hoff : s.b .ageCtl 2 = false) (hlog : s.age.unlogged = []) (seed : Bool) (p : Nat) :
    KnotWork s (knotChain seed p s) := by
  obtain ⟨m, hreports⟩ := knotChain_off hoff hlog seed p
  have hasked : KnotWork s { s with memc := m } := rfl
  exact (hasked.trans (.of_memOnly (knotsTargeted_memOnly ..))).trans (.of_reports hreports)

theorem knotChain_byte_out {s : State} (hoff : s.b .ageCtl 2 = false) (hlog : s.age.unlogged = []) {p b : Nat}
    (h : ∀ i ∈ s.fedTiles p, ∀ c, c < 3 → ∀ k ∈ s.knots i,
      b < targetAddr s i c k.1 k.2 ∨ targetAddr s i c k.1 k.2 + 2 ≤ b) : (knotChain false p s).byte b = s.byte b := by
  obtain ⟨m, hreports⟩ := knotChain_off hoff hlog false p
  rw [State.byte, hreports.mem_eq]
  exact knotsTargeted_byte_out (s := { s with memc := m }) h

theorem knotPass_runs {p : Nat} {s : State} (hon : s.knotsOn = true) (hrun : s.scan.state = .running)
    (hengine : s.portEngineOn p = true) : knotPass p s = knotChain false p s := by
  simp [knotPass, hon, hrun, hengine]

/-! ### The end of a seed pass (R162) -/

theorem seedPassEnd_ends {s : State} (hseed : s.age.seeding = true) (hon : s.knotsOn = true) : seedPassEnd s =
    { forEach (List.range 32) (knotChain true) s with age := { (forEach (List.range 32) (knotChain true) s).age with
      seeding := false, seedRestore := false, seeded := true } } := by
  unfold seedPassEnd
  rw [hseed, hon]
  rfl

theorem knotChains_knotWork {s : State} (hoff : s.b .ageCtl 2 = false) (hlog : s.age.unlogged = []) (seed : Bool) (l : List Nat) :
    KnotWork s (forEach l (knotChain seed) s) := by
  refine forEach_keeps (KnotWork s) l _ (fun p t ht => ht.trans (knotChain_knotWork ?_ ?_ seed p)) s (.refl s)
  · rw [State.b, State.rd, ht.regs_eq]
    exact hoff
  · rw [ht.age_eq]
    exact hlog

end Sys2Proof.Machine

namespace Sys2Proof.Machine

/-! ### Knot steps (R161) -/

theorem stepKnot_lt {a t m : Nat} (ha : a < m) (ht : t < m) : stepKnot a t < m := by
  unfold stepKnot
  dsimp only
  split
  · omega
  · split <;> omega

/-- An applied knot: its tile, its colour, and its column and row. -/
abbrev KnotKey := Nat × Nat × Nat × Nat

/-- The applied knots of port p's tiles. -/
def State.knotKeys (s : State) (p : Nat) : List KnotKey :=
  (s.fedTiles p).flatMap fun i => (List.range 3).flatMap fun c => (s.knots i).map fun k => (i, c, k)

theorem State.mem_knotKeys {s : State} {p i c : Nat} {k : Nat × Nat} :
    (i, c, k) ∈ s.knotKeys p ↔ i ∈ s.fedTiles p ∧ c < 3 ∧ k ∈ s.knots i := by
  simp only [State.knotKeys, List.mem_flatMap, List.mem_map, List.mem_range, Prod.mk.injEq]
  constructor
  · rintro ⟨_, hi, _, hc, _, hk, rfl, rfl, rfl⟩
    exact ⟨hi, hc, hk⟩
  · rintro ⟨hi, hc, hk⟩
    exact ⟨i, hi, c, hc, k, hk, rfl, rfl, rfl⟩

/-- The address of an applied ageing knot (R137). -/
def State.appliedAddr (s : State) (x : KnotKey) : Nat := s.knotAddr s.knotBase 0x2000 x.1 x.2.1 x.2.2.1 x.2.2.2

/-- An applied knot one step on towards its target, both as they stand in `s` (R161). -/
def State.knotStepped (s : State) (x : KnotKey) : Nat :=
  stepKnot (s.lez (s.appliedAddr x) 2) (s.lez (targetAddr s x.1 x.2.1 x.2.2.1 x.2.2.2) 2)

/-- The write of a knot's step. -/
def knotMoved (s : State) (x : KnotKey) (t : State) : State := putIn (s.appliedAddr x) 2 (s.knotStepped x) t

theorem knotMoved_memOnly (s : State) (x : KnotKey) (t : State) : MemOnly t (knotMoved s x t) := putIn_memOnly ..

theorem State.knotStepped_lt (s : State) (x : KnotKey) : s.knotStepped x < 256 ^ 2 :=
  stepKnot_lt (Mem.lez_lt ..) (Mem.lez_lt ..)

/-- What a listed number's round brings about, whatever came before, and no other round of the list undoes, a `forEach` brings
about. -/
theorem forEach_brings {β σ : Type} (P : σ → Prop) {l : List β} {f : β → σ → σ} {b : β} (hb : b ∈ l)
    (hset : ∀ s, P (f b s)) (hkeep : ∀ a ∈ l, ∀ s, P s → P (f a s)) (s : σ) : P (forEach l f s) := by
  induction l generalizing s with
  | nil => nomatch hb
  | cons a l ih =>
    have hrest : ∀ c ∈ l, ∀ t, P t → P (f c t) := fun c hc => hkeep c (List.mem_cons_of_mem a hc)
    rcases List.mem_cons.mp hb with rfl | hb
    · exact forEach_keeps_mem P l f hrest _ (hset s)
    · exact ih hb hrest _

/-- A knot that overlaps no other one of its port takes its step (R161). -/
theorem knotsMoved_lez {s t : State} {p : Nat} {x : KnotKey} (hx : x ∈ s.knotKeys p) (hin : s.appliedAddr x + 2 ≤ t.capacity)
    (hapart : ∀ y ∈ s.knotKeys p, y = x ∨ s.appliedAddr y + 2 ≤ s.appliedAddr x ∨ s.appliedAddr x + 2 ≤ s.appliedAddr y) :
    (forEach (s.knotKeys p) (knotMoved s) t).lez (s.appliedAddr x) 2 = s.knotStepped x := by
  have hset : ∀ u : State, s.appliedAddr x + 2 ≤ u.capacity → (knotMoved s x u).lez (s.appliedAddr x) 2 = s.knotStepped x :=
    fun u hu => (putIn_lez_same hu _).trans (Nat.mod_eq_of_lt (s.knotStepped_lt x))
  have hmoved := MemOnly.forEach (knotMoved_memOnly s) (s.knotKeys p) t
  refine forEach_brings (fun u : State => s.appliedAddr x + 2 ≤ u.capacity → u.lez (s.appliedAddr x) 2 = s.knotStepped x) hx
    (fun u hu => hset u ?_) (fun y hy u hu hcap => ?_) t (by rwa [hmoved.capacity_eq])
  · rwa [(knotMoved_memOnly s x u).capacity_eq] at hu
  · rw [(knotMoved_memOnly s y u).capacity_eq] at hcap
    rcases hapart y hy with rfl | hout
    · exact hset u hcap
    · exact (putIn_lez_out hcap hout.symm _).trans (hu hcap)

theorem knotsMoved_byte_out {s t : State} {p b : Nat}
    (h : ∀ x ∈ s.knotKeys p, b < s.appliedAddr x ∨ s.appliedAddr x + 2 ≤ b) :
    (forEach (s.knotKeys p) (knotMoved s) t).byte b = t.byte b :=
  forEach_keeps_mem (fun u : State => u.byte b = t.byte b) _ _ (fun x hx u hu => (putIn_byte_out (h x hx) _ u).trans hu) t rfl

/-- A port's knots have stepped in the frame window that is open. -/
theorem knotStep_done {p : Nat} {s : State} (h : Tab.get 0 p s.age.stepped = s.scan.frame + 1) : knotStep p s = s := by
  simp [knotStep, h]

/-- A port's step is noted with the frame (R161). -/
def State.stepNoted (t : State) (p : Nat) : State :=
  { t with age := { t.age with stepped := Tab.put 0 p (t.scan.frame + 1) t.age.stepped } }

theorem State.stepNoted_eq {s t : State} (hage : t.age = s.age) (hframe : t.scan.frame = s.scan.frame) (p : Nat) : t.stepNoted p =
    { t with age := { s.age with stepped := Tab.put 0 p (s.scan.frame + 1) s.age.stepped } } := by
  rw [State.stepNoted, hage, hframe]

/-- A knot step in Run asks for memory, moves each applied knot of the port and notes the frame, and may report (R161, R175). -/
theorem knotStep_steps {p : Nat} {s : State} (hon : s.knotsOn = true) (hseed : s.age.seeding = false)
    (hrun : s.scan.state = .running) (hopen : s.scan.windowOpen = true) (hpower : s.power.state = .run)
    (hengine : s.portEngineOn p = true) (hstep : Tab.get 0 p s.age.stepped ≠ s.scan.frame + 1) :
    ∃ u, KnotWork s u ∧ u.capacity = s.capacity ∧ u.mem = s.mem ∧
      knotStep p s = { forEach (s.knotKeys p) (knotMoved s) u with
        age := { s.age with stepped := Tab.put 0 p (s.scan.frame + 1) s.age.stepped } } := by
  have htrim : (s.power.state == .trim) = false := by rw [hpower]; rfl
  have hgo : (!s.knotsOn || s.age.seeding || s.scan.state != .running || !s.scan.windowOpen ||
      (s.power.state == .trim && (s.pipe (s.pipeOf p)).skipping) || !s.portEngineOn p ||
      Tab.get 0 p s.age.stepped == s.scan.frame + 1) = false := by
    simp [hon, hseed, hrun, hopen, htrim, hengine, hstep]
  unfold knotStep
  extract_lets trimmed start noted asked moved
  rw [if_neg (by rw [hgo]; exact Bool.false_ne_true)]
  have hnoted : Reports s noted := detectNote_if_reports ..
  have hasked : KnotWork s asked := (KnotWork.of_reports hnoted).trans (memRequestAll_knotWork ..)
  have hcapacity : asked.capacity = s.capacity :=
    (memRequestAll_capacity ..).trans (by rw [State.capacity, hnoted.memc_eq]; rfl)
  have hmem : asked.mem = s.mem := (memRequestAll_mem ..).trans hnoted.mem_eq
  have htiles : asked.fedTiles p = s.fedTiles p := by rw [hasked]; rfl
  have hmoved : moved = forEach (s.knotKeys p) (knotMoved s) asked := by
    have hnest : moved = forEach (s.fedTiles p) (fun i st => forEach (List.range 3) (fun c st =>
        forEach (s.knots i) (fun k st => knotMoved s (i, c, k) st) st) st) asked := by rw [← htiles]; rfl
    rw [hnest, State.knotKeys]
    simp only [forEach, List.foldl_flatMap, List.foldl_map]
  have hwork : KnotWork s moved := by
    rw [hmoved]
    exact hasked.trans (.of_memOnly (.forEach (knotMoved_memOnly s) _ asked))
  refine ⟨asked, hasked, hcapacity, hmem, ?_⟩
  rw [← hmoved]
  exact State.stepNoted_eq hwork.age_eq (congrArg Scan.frame hwork.scan_eq) p

/-! ### The Hold accrual pass of a wake (R157) -/

/-- The wake's accrual pass is over, and its last step is next. -/
def State.accrued (s : State) : State := { s with power := { s.power with move := .wake 3 } }

theorem holdAccrual_off {s : State} (h : s.power.move = .wake 1) (hoff : s.anise = false) : holdAccrual s = s.accrued := by
  have hstill : s.accrued.anise = false := hoff
  unfold State.accrued at hstill
  unfold holdAccrual
  simp only [h, hstill]
  rfl

theorem holdAccrual_gap {s : State} (h : s.power.move = .wake 1) (hon : s.anise = true) (hheld : s.scan.state = .held)
    (hgap : s.age.heldGap = true) : holdAccrual s = raiseEvent 10 5 [5, 0, 0, 0] (detectNote 10 2 s.accrued) := by
  have hstill : s.accrued.anise = true := hon
  unfold State.accrued at hstill
  unfold holdAccrual
  simp only [h, hstill, hheld, hgap]
  rfl

/-- Whatever the pass adds or reports, it is a pipe's work beside the wake's own step (R157). -/
theorem holdAccrual_pipeWork {s : State} (h : s.power.move = .wake 1) : PipeWork s.accrued (holdAccrual s) := by
  unfold holdAccrual
  split
  case h_2 hother => exact absurd h hother
  extract_lets power done weight
  refine .ite (.refl done) (.ite (.of_reports ((detectNote_reports ..).trans (raiseEvent_reports ..))) (.forEach (fun p t => ?_) _ done))
  extract_lets i cleared tiles
  split
  · exact .refl t
  · extract_lets past noted
    have hcleared : PipeWork t cleared := State.modPipe_pipeWork ..
    have hnoted : PipeWork t noted := .ite (hcleared.trans (emitRange_pixelWork cleared).work) hcleared
    exact hnoted.trans (.forEach (fun t u => .forEach (fun v w => (sampleRow_pixelWork ..).work) _ u) _ noted)

/-! ### Checkpoint intervals (R168) -/

theorem checkpointDue_on {s : State} (hon : s.anise = true) (hinterval : s.f .agePeriods 31 16 ≠ 0) :
    checkpointDue s = raiseEvent 10 5 [4, 0, 0, s.age.epoch] s := by
  simp [checkpointDue, hon, hinterval]

theorem checkpointDue_off {s : State} (h : s.anise = false ∨ s.f .agePeriods 31 16 = 0) : checkpointDue s = s := by
  rcases h with h | h <;> simp [checkpointDue, h]

/-- Settles O44: a pass while Cardamom is off is targets alone, a step is one write for each applied knot of the port, and the
accrual pass is a pipe's work beside the wake's step. -/
theorem knotAndAccrualPassesRun : Obligations.KnotAndAccrualPassesRun := by
  refine ⟨?pass, ?step, ?seed, fun s => ⟨fun hon hinterval => ?due, fun hoff => ?idle⟩,
    fun s hwake => ⟨fun hoff => ?none, ?gap, ?wake⟩⟩
  case pass =>
    intro p s hon hrun hengine hoff hlog
    have heq := knotPass_runs hon hrun hengine
    refine ⟨_, congrArg Host.Outcome.next heq, knotChain_knotWork hoff hlog false p, ?_, fun b hb => knotChain_byte_out hoff hlog hb⟩
    exact knotChain_wf
  case step =>
    intro p s hon hseed hrun hopen hpower hengine hstep
    obtain ⟨u, hwork, hcapacity, hmem, heq⟩ := knotStep_steps hon hseed hrun hopen hpower hengine hstep
    have hwf : s.MemOk → (knotStep p s).MemOk := knotStep_wf
    have hmoved : MemOnly u (forEach (s.knotKeys p) (knotMoved s) u) := .forEach (knotMoved_memOnly s) _ u
    have hreports := (hwork.trans (.of_memOnly hmoved)).withAge { s.age with stepped := Tab.put 0 p (s.scan.frame + 1) s.age.stepped }
    have hstepped : Tab.get 0 p.val (knotStep p s).age.stepped = s.scan.frame + 1 := by rw [heq]; exact Tab.get_put_same ..
    have hframe : (knotStep p s).scan = s.scan := by rw [heq]; exact (hwork.trans (.of_memOnly hmoved)).scan_eq
    have hagain : knotStep p (knotStep p s) = knotStep p s := knotStep_done (by rw [hstepped, hframe])
    refine ⟨_, rfl, ?reports, hstepped, hwf, congrArg Host.Outcome.next hagain,
      fun i hi c hc k hk hin hapart => ?value, fun b hb => ?kept⟩
    case reports =>
      rw [heq]
      exact hreports
    case value =>
      have hkey : (i, c, k) ∈ s.knotKeys p := State.mem_knotKeys.mpr ⟨hi, hc, hk⟩
      have hlez : (knotStep p s).lez (s.appliedAddr (i, c, k)) 2 = s.knotStepped (i, c, k) := by
        rw [heq]
        refine knotsMoved_lez hkey (by rw [hcapacity]; exact hin) fun y hy => ?_
        obtain ⟨hj, hd, hm⟩ := State.mem_knotKeys.mp hy
        exact hapart y.1 hj y.2.1 hd y.2.2 hm
      exact hlez
    case kept =>
      have hbyte : (knotStep p s).byte b = u.byte b := by
        rw [heq]
        refine knotsMoved_byte_out fun x hx => ?_
        obtain ⟨hi, hc, hk⟩ := State.mem_knotKeys.mp hx
        exact hb x.1 hi x.2.1 hc x.2.2 hk
      rw [hbyte, State.byte, hmem]
      rfl
  case seed =>
    intro s hseed hon hoff hlog
    have heq := seedPassEnd_ends hseed hon
    have hwf : s.MemOk → (seedPassEnd s).MemOk := seedPassEnd_wf
    have hwork := knotChains_knotWork hoff hlog true (List.range 32)
    rw [heq] at hwf
    generalize forEach (List.range 32) (knotChain true) s = u at heq hwf hwork
    exact ⟨_, congrArg Host.Outcome.next heq, rfl, rfl, rfl, hwf, hwork.withAge _⟩
  case due => exact congrArg Host.Outcome.next (checkpointDue_on hon hinterval)
  case idle => exact congrArg Host.Outcome.next (checkpointDue_off hoff)
  case none => exact congrArg Host.Outcome.next (holdAccrual_off hwake hoff)
  case gap =>
    intro hon hheld hgap
    have hreports : Reports s.accrued (holdAccrual s) := by
      rw [holdAccrual_gap hwake hon hheld hgap]
      exact (detectNote_reports ..).trans (raiseEvent_reports ..)
    refine ⟨_, rfl, ?_, hreports.move_eq, ?_⟩
    · rw [holdAccrual_gap hwake hon hheld hgap, State.fault, raiseEvent, raiseEventAs_faults]
      exact (congrArg (bit · 2) (detectNote_sticky (sev := 0) rfl _)).trans (bit_withBit ..)
    · unfold Reports State.accrued at *
      rw [hreports]
  case wake =>
    have hwork := holdAccrual_pipeWork hwake
    exact ⟨_, rfl, hwork.move_eq, hwork.regs_eq, hwork.scan_eq, hwork.ports_eq, holdAccrual_wf⟩

end Sys2Proof.Machine

/-! ## Checkpoints and restores (O32) -/

namespace Sys2Proof.Machine

/-! ### Commands that run and end -/

theorem State.jobOf_opcode {s : State} {op n slot : Nat} {j : Job} (h : s.jobOf op n slot = some j) : j.opcode = op := by
  have hfound := List.find?_some h
  simp only [Bool.and_eq_true, beq_iff_eq] at hfound
  obtain ⟨⟨-, hop⟩, -⟩ := hfound
  exact hop

/-- The end of a command moves no transition on while none runs. -/
theorem powerGo_finishJob {s : State} (h : s.power.move = .none) (j : Job) (st d : Nat) :
    powerGo (finishJob j st d s) = finishJob j st d s :=
  powerGo_none _ ((finishJob_completes j st d s).ringWork.move_eq.trans h)

/-! ### Checkpoints (R169, R171) -/

/-- A started checkpoint keeps TIME and asks for memory (R171). -/
theorem startJob_checkpoint {e : Nat} {j : Job} {s : State} (h : Starts e 8 j s) :
    ∃ l m, startJob e 8 runCheckpoint s =
      { s.joined e { j with stage := .running, aux := s.time.count } l with memc := m } := by
  have htime : (s.began e j).time = s.time := by
    obtain ⟨l, hl⟩ := s.began_eq e j
    rw [hl]
    rfl
  obtain ⟨l, hset⟩ := State.setJob_began h (y := { j with stage := .running, aux := s.time.count }) rfl rfl
  have hrun : ∃ m, runCheckpoint j (s.began e j) = { s.joined e { j with stage := .running, aux := s.time.count } l with memc := m } := by
    rw [runCheckpoint, htime, hset, memRequestAll_eq]
    exact ⟨_, rfl⟩
  obtain ⟨m, hrun⟩ := hrun
  obtain ⟨l', hhand⟩ := State.handed_eq e j (runCheckpoint j (s.began e j))
  rw [startJob_starts h, hhand, hrun]
  exact ⟨l', m, rfl⟩

theorem checkpointEnd_error {n slot : Nat} {j : Job} {s : State} (h : s.jobOf 8 n slot = some j) :
    checkpointEnd n slot true .ok s = finishJob j 7 0x02000000 s := by
  unfold checkpointEnd
  rw [h]
  rfl

/-- A checkpoint has left for the host, and the epoch has advanced (R169, R171). -/
def State.checkpointed (s : State) (j : Job) : State :=
  { s with age := { s.age with epoch := (s.age.epoch + 1) % 2 ^ 32 },
           out := s.out ++ [.hostWrite (wd64 j.desc 2) (checkpointBytes s j.aux)] }

theorem checkpointEnd_writes {n slot : Nat} {j : Job} {s : State} (h : s.jobOf 8 n slot = some j)
    (hin : ∀ i ∈ s.allTiles, s.countersPast i = false) :
    checkpointEnd n slot false .ok s = finishJob j 0 (checkpointBytes s j.aux).length (s.checkpointed j) := by
  have hpast : s.allTiles.any s.countersPast = false := by simpa using hin
  unfold checkpointEnd
  rw [h]
  simp only [memoryCheck, hpast, Bool.false_eq_true, if_false]
  rfl

/-! ### What restored sections change (R166, R172) -/

/-- `t` differs from `s` at most in device memory and the AGE block. -/
def AgeMem (s t : State) : Prop := t = { s with mem := t.mem, age := t.age }

theorem AgeMem.refl (s : State) : AgeMem s s := rfl

theorem AgeMem.trans {s t u : State} (h : AgeMem s t) (k : AgeMem t u) : AgeMem s u := by
  unfold AgeMem at *
  rw [k, h]

theorem AgeMem.of_memOnly {s t : State} (h : MemOnly s t) : AgeMem s t := by
  unfold MemOnly at h
  unfold AgeMem
  rw [h]

theorem AgeMem.forEach {α : Type} {f : α → State → State} (hf : ∀ a t, AgeMem t (f a t)) (l : List α) (s : State) :
    AgeMem s (forEach l f s) :=
  forEach_keeps (AgeMem s) l f (fun a t ht => ht.trans (hf a t)) s (.refl s)

theorem State.withAge_ageMem (a : Age) (s : State) : AgeMem s { s with age := a } := rfl

theorem setCard_ageMem (i v : Nat) (s : State) : AgeMem s (setCard i v s) := by
  rw [setCard_eq]
  exact (AgeMem.of_memOnly (putIn_memOnly ..)).trans (State.withAge_ageMem ..)

theorem spareCleared_memOnly (i c : Nat) (s : State) : MemOnly s (spareCleared i c s) :=
  MemOnly.trans (.forEach (fun _ _ => (putIn_memOnly ..).trans (putIn_memOnly ..)) _ s)
    (.forEach (fun _ _ => .forEach (fun _ _ => .forEach (fun _ _ => putIn_memOnly ..) _ _) _ _) _ _)

theorem becomeSpare_ageMem (i c : Nat) (s : State) : AgeMem s (becomeSpare i c s) := by
  obtain ⟨a, v, h⟩ := becomeSpare_eq i c s
  rw [h]
  exact (AgeMem.of_memOnly (spareCleared_memOnly ..)).trans ((setCard_ageMem ..).trans (State.withAge_ageMem ..))

theorem putCounters_memOnly (i : Nat) (rows : List (List Nat)) (s : State) : MemOnly s (putCounters i rows s) :=
  .forEach (fun _ _ => .forEach (fun _ _ => putIn_memOnly ..) _ _) _ s

theorem applySection_ageMem (i card : Nat) (rows : List (List Nat)) (s : State) : AgeMem s (applySection i card rows s) := by
  have hcounters : AgeMem s (putCounters i rows s) := .of_memOnly (putCounters_memOnly ..)
  exact (hcounters.trans (setCard_ageMem ..)).trans (.forEach (fun c t => becomeSpare_ageMem i c t) _ _)

theorem restoreSections_ageMem (b : List Nat) (total n o skipped : Nat) (s : State) :
    AgeMem s (restoreSections b total n o skipped s).2 := by
  induction n generalizing o skipped s with
  | zero => exact .refl s
  | succ n ih =>
    unfold restoreSections
    extract_lets coded next
    split
    · exact ih ..
    · split
      · exact ih ..
      · extract_lets data
        split
        · exact ih ..
        · exact (applySection_ageMem ..).trans (ih ..)

/-! ### A restore starts (R172) -/

/-- The first bytes of a checkpoint have been asked of the host (R172). -/
def State.headerRead (s : State) (j : Job) : State := s.emit (.hostRead (wd64 j.desc 2) (min (wd j.desc 4) 64))

/-- The header and the rest of a checkpoint of the given length have been asked of the host (R172). -/
def State.sectionsRead (s : State) (j : Job) (total : Nat) : State :=
  { s with out := s.out ++ [.hostRead (wd64 j.desc 2) (min (wd j.desc 4) 64), .hostRead (wd64 j.desc 2 + 64) (total - 64)] }

theorem State.headerRead_emit (s : State) (j : Job) (total : Nat) :
    (s.headerRead j).emit (.hostRead (wd64 j.desc 2 + 64) (total - 64)) = s.sectionsRead j total := by
  simp [State.headerRead, State.sectionsRead, State.emit]

theorem restoreHeaderOk_of_regs {s t : State} (h : t.regs = s.regs) (size : Nat) (b : List Nat) :
    restoreHeaderOk t size b = restoreHeaderOk s size b := by
  have hrd : t.rd = s.rd := by
    funext r
    rw [State.rd, h]
    rfl
  rw [restoreHeaderOk, restoreHeaderOk, hrd]

theorem runRestore_empty {j : Job} (h : wd j.desc 4 = 0) (file : Option (List Nat)) (s : State) :
    runRestore file j s = finishJob j 0 0 s := if_pos h

theorem runRestore_failed {j : Job} (h : wd j.desc 4 ≠ 0) (s : State) : runRestore none j s = readFailed j (s.headerRead j) :=
  if_neg h

theorem runRestore_format {j : Job} {l : List Nat} {s : State} (h : wd j.desc 4 ≠ 0)
    (hbad : restoreHeaderOk s (wd j.desc 4) (l.take (wd j.desc 4)) = false) :
    runRestore (some l) j s = finishJob j 4 0 (s.headerRead j) := by
  have hread : restoreHeaderOk (s.headerRead j) (wd j.desc 4) (l.take (wd j.desc 4)) = false := hbad
  unfold State.headerRead at hread ⊢
  unfold runRestore
  dsimp only
  rw [if_neg h, hread]
  rfl

/-- An accepted buffer's sections go to memory, and the command runs on with what its end needs (R172). -/
theorem runRestore_accepted {j : Job} {l : List Nat} {s : State} (h : wd j.desc 4 ≠ 0)
    (hok : restoreHeaderOk s (wd j.desc 4) (l.take (wd j.desc 4)) = true) :
    ∃ k m t, AgeMem { s.sectionsRead j (bufLe (l.take (wd j.desc 4)) 0x1C 4) with memc := m } t ∧
      runRestore (some l) j s = t.setJob { j with stage := .running, aux := k } := by
  have hread : restoreHeaderOk (s.headerRead j) (wd j.desc 4) (l.take (wd j.desc 4)) = true := hok
  unfold State.headerRead at hread
  unfold runRestore
  dsimp only
  rw [if_neg h, hread]
  generalize l.take (wd j.desc 4) = b
  refine ⟨_, (memRequestAll 3 (j.engine / 9) (engineWho j.engine) (s.sectionsRead j (bufLe b 0x1C 4))).memc, _, ?_, rfl⟩
  rw [← State.headerRead, State.headerRead_emit, memRequestAll_eq]
  exact restoreSections_ageMem ..

/-- A started restore of an accepted buffer (R70, R172). -/
theorem startJob_restore {e : Nat} {j : Job} {s : State} {l : List Nat} (h : Starts e 9 j s) (hsize : wd j.desc 4 ≠ 0)
    (hok : restoreHeaderOk s (wd j.desc 4) (l.take (wd j.desc 4)) = true) :
    ∃ k m a mc i, startJob e 9 (runRestore (some l)) s =
      { (s.joined e { j with stage := .running, aux := k } i).sectionsRead j (bufLe (l.take (wd j.desc 4)) 0x1C 4) with
        mem := m, age := a, memc := mc } := by
  obtain ⟨i, hbegan⟩ := s.began_eq e j
  have hregs : (s.joined e { j with stage := .running } i).regs = s.regs := rfl
  obtain ⟨k, mc, t, ht, hrun⟩ := runRestore_accepted (s := s.joined e { j with stage := .running } i) hsize
    ((restoreHeaderOk_of_regs hregs ..).trans hok)
  have hset : t.setJob { j with stage := .running, aux := k } =
      { (s.joined e { j with stage := .running, aux := k } i).sectionsRead j (bufLe (l.take (wd j.desc 4)) 0x1C 4) with
        mem := t.mem, age := t.age, memc := mc } := by
    have hjobs : t.jobs = s.jobs ++ [{ j with stage := .running }] := by rw [ht]; rfl
    have hmap := map_setJob_append (l := s.jobs) (x := { j with stage := .running }) (y := { j with stage := .running, aux := k })
      rfl rfl h.fresh
    rw [State.setJob, hjobs, hmap, ht]
    rfl
  obtain ⟨i', hhand⟩ := State.handed_eq e j (runRestore (some l) j (s.began e j))
  rw [startJob_starts h, hhand, hbegan, hrun, hset]
  exact ⟨k, t.mem, t.age, mc, i', rfl⟩

/-! ### The end of a restore (R162, R172) -/

/-- `t` differs from `s` at most in reports, device memory, the AGE block and ports. -/
def RestoreWork (s t : State) : Prop := Reports { s with mem := t.mem, age := t.age, ports := t.ports } t

theorem RestoreWork.refl (s : State) : RestoreWork s s := rfl

theorem RestoreWork.trans {s t u : State} (h : RestoreWork s t) (k : RestoreWork t u) : RestoreWork s u := by
  unfold RestoreWork Reports at *
  rw [k, h]

theorem RestoreWork.of_reports {s t : State} (h : Reports s t) : RestoreWork s t := by
  unfold Reports at h
  unfold RestoreWork Reports
  rw [h]

theorem RestoreWork.of_ageMem {s t : State} (h : AgeMem s t) : RestoreWork s t := by
  unfold AgeMem at h
  unfold RestoreWork Reports
  rw [h]

theorem RestoreWork.regs_eq {s t : State} (h : RestoreWork s t) : t.regs = s.regs := by rw [h]
theorem RestoreWork.move_eq {s t : State} (h : RestoreWork s t) : t.power.move = s.power.move := by rw [h]

/-- A restore's work and the end of its command. -/
theorem RestoreWork.ringWork {s t u : State} (h : RestoreWork s t) (k : Completes t u) :
    RingWork { s with mem := u.mem, age := u.age, ports := u.ports } u := by
  unfold Completes Reports at k
  unfold RestoreWork Reports at h
  unfold RingWork
  rw [k, h]

theorem mergeEngagement_restoreWork (x : Rect × Nat × Nat) (s : State) : RestoreWork s (mergeEngagement x s) := by
  unfold mergeEngagement
  split
  · exact .refl s
  · split
    · exact .refl s
    · exact (RestoreWork.of_ageMem ((setCard_ageMem ..).trans (becomeSpare_ageMem ..))).trans (.of_reports (detectNote_reports ..))

theorem spareSelect_portsOnly (i c mode n0 : Nat) (s : State) : PortsOnly s (spareSelect i c mode n0 s) :=
  PortsOnly.trans (t := s.modPort _ _) rfl (pumpCmds_portOnly ..).1

theorem PortsOnly.forEach {α : Type} {f : α → State → State} (hf : ∀ a t, PortsOnly t (f a t)) (l : List α) (s : State) :
    PortsOnly s (forEach l f s) :=
  forEach_keeps (PortsOnly s) l f (fun a t ht => ht.trans (hf a t)) s rfl

theorem restoreSelects_portsOnly (s : State) : PortsOnly s (restoreSelects s) :=
  .forEach (fun i t => .forEach (fun c u => spareSelect_portsOnly i c 1 (cardStart (u.card i)) u) _ t) _ s

/-- The map is ready, and every colour in state 2 has been selected (R172). -/
def State.mapRestored (s : State) : State := restoreSelects { s with age := { s.age with mapReady := true } }

theorem State.mapRestored_eq (s : State) : ∃ p, s.mapRestored = { s with age := { s.age with mapReady := true }, ports := p } :=
  ⟨_, restoreSelects_portsOnly _⟩

/-- While KNOTS is 1 a seed pass follows a restore (R162). -/
def State.seedAsked (s : State) : State := if s.knotsOn then seedStart true s else s

theorem State.seedAsked_eq (s : State) : ∃ a, s.seedAsked = { s with age := a } ∧ a.mapReady = s.age.mapReady := by
  unfold State.seedAsked
  split
  · exact ⟨_, rfl, rfl⟩
  · exact ⟨s.age, rfl, rfl⟩

theorem State.seedAsked_on {s : State} (h : s.knotsOn = true) : s.seedAsked = seedStart true s := if_pos h

/-- What a restore's end leaves before its command completes (R162, R172). -/
theorem State.mapRestored_seedAsked (s : State) : ∃ a p,
    s.mapRestored.seedAsked = { s with age := a, ports := p } ∧ a.mapReady = true ∧
      (s.knotsOn = true → a.seeding = true ∧ a.seedRestore = true ∧ a.seeded = false) := by
  obtain ⟨p, hmap⟩ := s.mapRestored_eq
  rw [hmap]
  by_cases hon : s.knotsOn = true
  · exact ⟨_, p, State.seedAsked_on hon, rfl, fun _ => ⟨rfl, rfl, rfl⟩⟩
  · obtain ⟨a, ha, hready⟩ := State.seedAsked_eq { s with age := { s.age with mapReady := true }, ports := p }
    exact ⟨a, p, ha, hready, fun h => absurd h hon⟩

/-- A restore's end merges the log and compares the epochs, makes the map ready and ends its command (R172). -/
theorem restoreEnd_finishes {n slot : Nat} {j : Job} {s : State} (h : s.jobOf 9 n slot = some j) :
    ∃ u, RestoreWork s u ∧ (logEngagements s = [] → fld j.aux 63 32 = s.age.epoch → u = s) ∧
      restoreEnd n slot s = finishJob j (if j.aux / 2 ^ 64 = 0 then 0 else 7)
        (if j.aux / 2 ^ 64 = 0 then fld j.aux 31 0 else Nat.lor 0x01000000 (j.aux / 2 ^ 64)) u.mapRestored.seedAsked := by
  unfold restoreEnd
  split
  case h_1 hnone => exact nomatch h.symm.trans hnone
  case h_2 j' hj' =>
    obtain rfl : j = j' := Option.some.inj (h.symm.trans hj')
    extract_lets merged noted age selected seeded skipped
    have hmerged : RestoreWork s merged := forEach_keeps (RestoreWork s) _ _
      (fun x t ht => ht.trans (mergeEngagement_restoreWork x t)) s (.refl s)
    refine ⟨noted, hmerged.trans (.of_reports (detectNote_if_reports ..)), fun hlog hepoch => ?quiet, ?finish⟩
    case quiet =>
      have hnone : merged = s := by
        show forEach (logEngagements s) mergeEngagement s = s
        rw [hlog, forEach_nil]
      show (if fld j.aux 63 32 ≠ merged.age.epoch then detectNote 10 3 merged else merged) = s
      rw [hnone, if_neg (not_not.mpr hepoch)]
    case finish =>
      have hseeded : seeded = noted.mapRestored.seedAsked := rfl
      rw [hseeded]
      by_cases hskip : j.aux / 2 ^ 64 = 0
      · rw [if_pos hskip, if_pos hskip, if_pos hskip]
      · rw [if_neg hskip, if_neg hskip, if_neg hskip]

/-- Settles O32: a started command keeps what its end needs, a checkpoint's end writes it out, and a restore's end is memory, AGE
records and ports before its command ends. -/
theorem stressCommandsRun : Obligations.StressCommandsRun := by
  refine ⟨fun e j s hstarts => ?checkpoint, fun n slot j s hjob hmove => ⟨fun hin => ?written, ?error⟩,
    fun e file j s hstarts => ⟨fun hsize => ?empty, fun hsize hfile => ?failed, fun l hfile hsize hbad => ?format,
      fun l hfile hsize hok => ?accepted⟩, fun n slot j s hjob hmove => ?restored⟩
  case checkpoint =>
    obtain ⟨l, m, heq⟩ := startJob_checkpoint hstarts
    exact ⟨_, congrArg Host.Outcome.next heq, rfl⟩
  case written =>
    have hgo := powerGo_finishJob (s := s.checkpointed j) hmove j 0 (checkpointBytes s j.aux).length
    rw [← checkpointEnd_writes hjob hin] at hgo
    exact ⟨_, congrArg Host.Outcome.next (hgo.trans (checkpointEnd_writes hjob hin)), finishJob_ends ..⟩
  case error =>
    have hgo := powerGo_finishJob hmove j 7 0x02000000
    rw [← checkpointEnd_error hjob] at hgo
    exact ⟨_, congrArg Host.Outcome.next (hgo.trans (checkpointEnd_error hjob)), finishJob_ends ..⟩
  case empty => exact ⟨_, rfl, startJob_finishes hstarts (runRestore_empty hsize file _)⟩
  case failed =>
    obtain ⟨k, hbegan⟩ := s.began_eq e j
    have hends : Ends j 7 (Config.freeValue s.free % 2 ^ 32) { s.took e with
        free := s.free + 1, out := s.out ++ [.hostRead (wd64 j.desc 2) (min (wd j.desc 4) 64)] }
        (readFailed j ((s.joined e { j with stage := .running } k).headerRead j)) :=
      finishJob_ends_started j { j with stage := .running } 7 _ { s.took e with
        free := s.free + 1, out := s.out ++ [.hostRead (wd64 j.desc 2) (min (wd j.desc 4) 64)] } k rfl rfl
    have hstart := startJob_starts hstarts (runRestore file)
    rw [hfile, runRestore_failed hsize, hbegan, State.handed_gone hends.gone] at hstart
    exact ⟨_, _, congrArg Host.Outcome.next (hfile ▸ hstart), hends⟩
  case format =>
    obtain ⟨k, hbegan⟩ := s.began_eq e j
    have hends : Ends j 4 0 { s.took e with out := s.out ++ [.hostRead (wd64 j.desc 2) (min (wd j.desc 4) 64)] }
        (finishJob j 4 0 ((s.joined e { j with stage := .running } k).headerRead j)) :=
      finishJob_ends_started j { j with stage := .running } 4 0 { s.took e with
        out := s.out ++ [.hostRead (wd64 j.desc 2) (min (wd j.desc 4) 64)] } k rfl rfl
    have hregs : (s.joined e { j with stage := .running } k).regs = s.regs := rfl
    have hstart := startJob_starts hstarts (runRestore (some l))
    rw [hbegan, runRestore_format hsize ((restoreHeaderOk_of_regs hregs ..).trans hbad), State.handed_gone hends.gone] at hstart
    exact ⟨_, congrArg Host.Outcome.next (hfile ▸ hstart), hends⟩
  case accepted =>
    obtain ⟨k, m, a, mc, i, heq⟩ := startJob_restore hstarts hsize hok
    have hwf : s.MemOk → (startJob e 9 (runRestore (some l)) s).MemOk := startJob_wf fun _ _ ht => runRestore_wf ht
    rw [heq] at hwf
    exact ⟨_, k, congrArg Host.Outcome.next (hfile ▸ heq), rfl, hwf⟩
  case restored =>
    obtain ⟨u, hmerged, hquiet, heq⟩ := restoreEnd_finishes hjob
    obtain ⟨a, p, hrestored, hready, hseed⟩ := u.mapRestored_seedAsked
    have hwork : RestoreWork s u.mapRestored.seedAsked := hmerged.trans (by rw [hrestored]; rfl)
    have hknots : u.knotsOn = s.knotsOn := by rw [State.knotsOn, State.b, State.rd, hmerged.regs_eq]; rfl
    have hexec : exec (.stressRestoreEnd n slot) s = .next (restoreEnd n slot s) := by
      rw [heq]
      exact congrArg Host.Outcome.next ((congrArg powerGo heq).trans (powerGo_finishJob (hwork.move_eq.trans hmove) ..))
    have hends : Ends j _ _ u.mapRestored.seedAsked (restoreEnd n slot s) := heq ▸ finishJob_ends ..
    generalize restoreEnd n slot s = t at hexec hends
    rw [hrestored] at hwork hends
    obtain ⟨hcompletes, -, -, hentry⟩ := id hends
    have hage : t.age = a := by rw [hcompletes]
    refine ⟨t, hexec, ?_, hends.gone, ?_, fun hlog hepoch hcq => ?_, hwork.ringWork hcompletes⟩
    · rw [hage]; exact hready
    · rw [hage]; exact fun hon => hseed (hknots.trans hon)
    · obtain rfl := hquiet hlog hepoch
      rw [State.jobOf_opcode hjob] at hentry
      exact hentry hcq

end Sys2Proof.Machine
